-- ==== Sys2Proof/Word.lean ====
section
/-! DEFINITION. The word types of the machine: bytes, 16-bit words and 32-bit doublewords (spec R9, R20, R21). -/
namespace Sys2Proof

/-- An 8-bit byte, the addressable unit (R140). -/
abbrev Byte := BitVec 8
/-- A 16-bit word. -/
abbrev Word16 := BitVec 16
/-- A 32-bit doubleword: general registers, offsets, linear and physical addresses (R7). -/
abbrev Word := BitVec 32
/-- A 3-bit field of an encoded instruction. -/
abbrev Bits3 := BitVec 3

end Sys2Proof
end

