-- ==== Sys2Proof/Syntax.lean ====
section
/-! DEFINITION. Syntax: one constructor of `Instr` per row of spec/opcode_table.json (spec R240 to R264), in the
table's order, over decoded operands: no raw encodings. `sz` is the operand size where the row has no operand that
fixes it (R243), `az` the address size where no memory operand fixes it. LOCK, REP and segment overrides are
prefix instructions of their own (R241) whose effect on the next instruction the State records (R261). -/
namespace Sys2Proof

/-- Operand size OS of a row with word or doubleword operands (R243). -/
inductive OSize | w16 | w32
deriving DecidableEq, Repr
/-- Address size AS (R243). -/
inductive ASize | a16 | a32
deriving DecidableEq, Repr
/-- The eight general registers (R20, numbering R246). -/
inductive Reg | eax | ecx | edx | ebx | esp | ebp | esi | edi
deriving DecidableEq, Repr
/-- The eight byte registers (R21, numbering R246). -/
inductive Reg8 | al | cl | dl | bl | ah | ch | dh | bh
deriving DecidableEq, Repr
/-- The six segment registers (R31, numbering R246). -/
inductive SegReg | es | cs | ss | ds | fs | gs
deriving DecidableEq, Repr
/-- The eight MMX registers, which overlay the physical FPU registers (R57). -/
inductive MmReg | mm0 | mm1 | mm2 | mm3 | mm4 | mm5 | mm6 | mm7
deriving DecidableEq, Repr
/-- The register part of a 16-bit addressing form (R249). -/
inductive Base16 | bxSi | bxDi | bpSi | bpDi | si | di | bp | bx
deriving DecidableEq, Repr
/-- The displacement of a 16-bit form with a register part (R249). -/
inductive Disp16 | none | d8 (d : Byte) | d16 (d : Word16)
deriving DecidableEq, Repr
/-- The displacement of a 32-bit form with a base (R248). -/
inductive Disp32 | none | d8 (d : Byte) | d32 (d : Word)
deriving DecidableEq, Repr
/-- The scale factor of a SIB byte (R248). -/
inductive Scale | x1 | x2 | x4 | x8
deriving DecidableEq, Repr
/-- A memory operand given by ModR/M, SIB and displacement (R247 to R249). The form of the displacement is kept, so
that encoding gives the bytes back. -/
inductive Mem
  /-- AS = 16, registers and displacement. -/
  | m16 (b : Base16) (d : Disp16)
  /-- AS = 16, mod 00 rm 110: disp16 alone. -/
  | direct16 (d : Word16)
  /-- AS = 32, rm is the base. -/
  | m32 (b : Reg) (d : Disp32)
  /-- AS = 32, mod 00 rm 101: disp32 alone. -/
  | direct32 (d : Word)
  /-- AS = 32, a SIB byte with a base; the index is absent when SIB.index is 100. -/
  | sib (b : Reg) (i : Option Reg) (sc : Scale) (d : Disp32)
  /-- AS = 32, a SIB byte with mod 00 and base 101: index and disp32. -/
  | sibNoBase (i : Option Reg) (sc : Scale) (d : Word)
deriving DecidableEq, Repr
/-- A register or memory operand (mod = 11 or not, R247). -/
inductive RM (ρ : Type) | reg (r : ρ) | mem (m : Mem)
deriving DecidableEq, Repr
/-- r/m8 -/
abbrev RM8 := RM Reg8
/-- r/mv, r/m16, r/m32 -/
abbrev RMv := RM Reg
/-- mm/m64; for the ESC class the register field is ST(i). -/
abbrev RMmm := RM MmReg
/-- An immediate or displacement of OS/8 bytes; it fixes the operand size of its instruction (R250). -/
inductive Imm | i16 (v : Word16) | i32 (v : Word)
deriving DecidableEq, Repr
/-- A moffs operand of AS/8 bytes (R253). -/
inductive Moffs | o16 (v : Word16) | o32 (v : Word)
deriving DecidableEq, Repr
/-- A far pointer immediate: selector and offset of OS/8 bytes (R252). -/
structure FarPtr where
  sel : Word16
  off : Imm
deriving DecidableEq, Repr

/-- The instructions: one constructor per row of the opcode table. -/
inductive Instr
  /-- SEG_ES 26 (R241) -/
  | segEs
  /-- SEG_CS 2E (R241) -/
  | segCs
  /-- SEG_SS 36 (R241) -/
  | segSs
  /-- SEG_DS 3E (R241) -/
  | segDs
  /-- SEG_FS 64 (R241) -/
  | segFs
  /-- SEG_GS 65 (R241) -/
  | segGs
  /-- OPSIZE 66 (R241) -/
  | opsize
  /-- ADSIZE 67 (R241) -/
  | adsize
  /-- LOCK F0 (R280) -/
  | lock
  /-- REPNE F2 (R242) -/
  | repne
  /-- REP F3 (R390) -/
  | rep
  /-- ADD 00 (R284) -/
  | addEbGb (d : RM8) (s : Reg8)
  /-- ADD 01 (R284) -/
  | addEvGv (sz : OSize) (d : RMv) (s : Reg)
  /-- ADD 02 (R284) -/
  | addGbEb (d : Reg8) (s : RM8)
  /-- ADD 03 (R284) -/
  | addGvEv (sz : OSize) (d : Reg) (s : RMv)
  /-- ADD 04 (R284) -/
  | addAlIb (imm : Byte)
  /-- ADD 05 (R284) -/
  | addAxIv (imm : Imm)
  /-- OR 08 (R289) -/
  | orEbGb (d : RM8) (s : Reg8)
  /-- OR 09 (R289) -/
  | orEvGv (sz : OSize) (d : RMv) (s : Reg)
  /-- OR 0A (R289) -/
  | orGbEb (d : Reg8) (s : RM8)
  /-- OR 0B (R289) -/
  | orGvEv (sz : OSize) (d : Reg) (s : RMv)
  /-- OR 0C (R289) -/
  | orAlIb (imm : Byte)
  /-- OR 0D (R289) -/
  | orAxIv (imm : Imm)
  /-- ADC 10 (R285) -/
  | adcEbGb (d : RM8) (s : Reg8)
  /-- ADC 11 (R285) -/
  | adcEvGv (sz : OSize) (d : RMv) (s : Reg)
  /-- ADC 12 (R285) -/
  | adcGbEb (d : Reg8) (s : RM8)
  /-- ADC 13 (R285) -/
  | adcGvEv (sz : OSize) (d : Reg) (s : RMv)
  /-- ADC 14 (R285) -/
  | adcAlIb (imm : Byte)
  /-- ADC 15 (R285) -/
  | adcAxIv (imm : Imm)
  /-- SBB 18 (R287) -/
  | sbbEbGb (d : RM8) (s : Reg8)
  /-- SBB 19 (R287) -/
  | sbbEvGv (sz : OSize) (d : RMv) (s : Reg)
  /-- SBB 1A (R287) -/
  | sbbGbEb (d : Reg8) (s : RM8)
  /-- SBB 1B (R287) -/
  | sbbGvEv (sz : OSize) (d : Reg) (s : RMv)
  /-- SBB 1C (R287) -/
  | sbbAlIb (imm : Byte)
  /-- SBB 1D (R287) -/
  | sbbAxIv (imm : Imm)
  /-- AND 20 (R288) -/
  | andEbGb (d : RM8) (s : Reg8)
  /-- AND 21 (R288) -/
  | andEvGv (sz : OSize) (d : RMv) (s : Reg)
  /-- AND 22 (R288) -/
  | andGbEb (d : Reg8) (s : RM8)
  /-- AND 23 (R288) -/
  | andGvEv (sz : OSize) (d : Reg) (s : RMv)
  /-- AND 24 (R288) -/
  | andAlIb (imm : Byte)
  /-- AND 25 (R288) -/
  | andAxIv (imm : Imm)
  /-- SUB 28 (R286) -/
  | subEbGb (d : RM8) (s : Reg8)
  /-- SUB 29 (R286) -/
  | subEvGv (sz : OSize) (d : RMv) (s : Reg)
  /-- SUB 2A (R286) -/
  | subGbEb (d : Reg8) (s : RM8)
  /-- SUB 2B (R286) -/
  | subGvEv (sz : OSize) (d : Reg) (s : RMv)
  /-- SUB 2C (R286) -/
  | subAlIb (imm : Byte)
  /-- SUB 2D (R286) -/
  | subAxIv (imm : Imm)
  /-- XOR 30 (R290) -/
  | xorEbGb (d : RM8) (s : Reg8)
  /-- XOR 31 (R290) -/
  | xorEvGv (sz : OSize) (d : RMv) (s : Reg)
  /-- XOR 32 (R290) -/
  | xorGbEb (d : Reg8) (s : RM8)
  /-- XOR 33 (R290) -/
  | xorGvEv (sz : OSize) (d : Reg) (s : RMv)
  /-- XOR 34 (R290) -/
  | xorAlIb (imm : Byte)
  /-- XOR 35 (R290) -/
  | xorAxIv (imm : Imm)
  /-- ADD 8000 (R284) -/
  | addEbIb (d : RM8) (imm : Byte)
  /-- ADD 8100 (R284) -/
  | addEvIv (d : RMv) (imm : Imm)
  /-- ADD 8300 (R284) -/
  | addEvIbs (sz : OSize) (d : RMv) (imm : Byte)
  /-- OR 8008 (R289) -/
  | orEbIb (d : RM8) (imm : Byte)
  /-- OR 8108 (R289) -/
  | orEvIv (d : RMv) (imm : Imm)
  /-- OR 8308 (R289) -/
  | orEvIbs (sz : OSize) (d : RMv) (imm : Byte)
  /-- ADC 8010 (R285) -/
  | adcEbIb (d : RM8) (imm : Byte)
  /-- ADC 8110 (R285) -/
  | adcEvIv (d : RMv) (imm : Imm)
  /-- ADC 8310 (R285) -/
  | adcEvIbs (sz : OSize) (d : RMv) (imm : Byte)
  /-- SBB 8018 (R287) -/
  | sbbEbIb (d : RM8) (imm : Byte)
  /-- SBB 8118 (R287) -/
  | sbbEvIv (d : RMv) (imm : Imm)
  /-- SBB 8318 (R287) -/
  | sbbEvIbs (sz : OSize) (d : RMv) (imm : Byte)
  /-- AND 8020 (R288) -/
  | andEbIb (d : RM8) (imm : Byte)
  /-- AND 8120 (R288) -/
  | andEvIv (d : RMv) (imm : Imm)
  /-- AND 8320 (R288) -/
  | andEvIbs (sz : OSize) (d : RMv) (imm : Byte)
  /-- SUB 8028 (R286) -/
  | subEbIb (d : RM8) (imm : Byte)
  /-- SUB 8128 (R286) -/
  | subEvIv (d : RMv) (imm : Imm)
  /-- SUB 8328 (R286) -/
  | subEvIbs (sz : OSize) (d : RMv) (imm : Byte)
  /-- XOR 8030 (R290) -/
  | xorEbIb (d : RM8) (imm : Byte)
  /-- XOR 8130 (R290) -/
  | xorEvIv (d : RMv) (imm : Imm)
  /-- XOR 8330 (R290) -/
  | xorEvIbs (sz : OSize) (d : RMv) (imm : Byte)
  /-- PUSH 06 (R366) -/
  | pushEs (sz : OSize)
  /-- PUSH 0E (R366) -/
  | pushCs (sz : OSize)
  /-- PUSH 16 (R366) -/
  | pushSs (sz : OSize)
  /-- PUSH 1E (R366) -/
  | pushDs (sz : OSize)
  /-- POP 07 (R367) -/
  | popEs (sz : OSize)
  /-- POP 17 (R367) -/
  | popSs (sz : OSize)
  /-- POP 1F (R367) -/
  | popDs (sz : OSize)
  /-- INC 40 (R291) -/
  | incR (sz : OSize) (r : Reg)
  /-- DEC 48 (R292) -/
  | decR (sz : OSize) (r : Reg)
  /-- PUSH 50 (R366) -/
  | pushR (sz : OSize) (r : Reg)
  /-- POP 58 (R367) -/
  | popR (sz : OSize) (r : Reg)
  /-- PUSHA 60 (R368) -/
  | pusha (sz : OSize)
  /-- POPA 61 (R369) -/
  | popa (sz : OSize)
  /-- BOUND 62 (R344) -/
  | bound (sz : OSize) (r : Reg) (m : Mem)
  /-- PUSH 68 (R366) -/
  | pushIv (imm : Imm)
  /-- PUSH 6A (R366) -/
  | pushIbs (sz : OSize) (imm : Byte)
  /-- INSB 6C (R383) -/
  | insb (az : ASize)
  /-- INSW_INSD 6D (R383) -/
  | insv (sz : OSize) (az : ASize)
  /-- OUTSB 6E (R384) -/
  | outsb (az : ASize)
  /-- OUTSW_OUTSD 6F (R384) -/
  | outsv (sz : OSize) (az : ASize)
  /-- XCHG 86 (R372) -/
  | xchgEbGb (d : RM8) (s : Reg8)
  /-- XCHG 87 (R372) -/
  | xchgEvGv (sz : OSize) (d : RMv) (s : Reg)
  /-- MOV 88 (R361) -/
  | movEbGb (d : RM8) (s : Reg8)
  /-- MOV 89 (R361) -/
  | movEvGv (sz : OSize) (d : RMv) (s : Reg)
  /-- MOV 8A (R361) -/
  | movGbEb (d : Reg8) (s : RM8)
  /-- MOV 8B (R361) -/
  | movGvEv (sz : OSize) (d : Reg) (s : RMv)
  /-- MOV 8C (R363) -/
  | movEwSw (sz : OSize) (d : RMv) (s : SegReg)
  /-- MOV 8E (R363) -/
  | movSwEw (d : SegReg) (s : RMv)
  /-- POP 8F00 (R367) -/
  | popEv (sz : OSize) (d : RMv)
  /-- NOP 90 (R373) -/
  | nop
  /-- XCHG 90 (R372) -/
  | xchgAx (sz : OSize) (r : Reg)
  /-- CALL 9A (R336) -/
  | callPtr (p : FarPtr)
  /-- FSAVE 9BDD30 (R405) -/
  | fsave (sz : OSize) (m : Mem)
  /-- FSTENV 9BD930 (R407) -/
  | fstenv (sz : OSize) (m : Mem)
  /-- WAIT 9B (R402) -/
  | wait
  /-- PUSHF 9C (R371) -/
  | pushf (sz : OSize)
  /-- POPF 9D (R370) -/
  | popf (sz : OSize)
  /-- MOV A0 (R362) -/
  | movAlOb (o : Moffs)
  /-- MOV A1 (R362) -/
  | movAxOv (sz : OSize) (o : Moffs)
  /-- MOV A2 (R362) -/
  | movObAl (o : Moffs)
  /-- MOV A3 (R362) -/
  | movOvAx (sz : OSize) (o : Moffs)
  /-- MOVSB A4 (R387) -/
  | movsb (az : ASize)
  /-- MOVSW_MOVSD A5 (R387) -/
  | movsv (sz : OSize) (az : ASize)
  /-- STOSB AA (R388) -/
  | stosb (az : ASize)
  /-- STOSW_STOSD AB (R388) -/
  | stosv (sz : OSize) (az : ASize)
  /-- MOV B0 (R361) -/
  | movRIb (r : Reg8) (imm : Byte)
  /-- MOV B8 (R361) -/
  | movRIv (r : Reg) (imm : Imm)
  /-- RET C2 (R337) -/
  | retIw (sz : OSize) (n : Word16)
  /-- RET C3 (R337) -/
  | ret (sz : OSize)
  /-- MOV C600 (R361) -/
  | movEbIb (d : RM8) (imm : Byte)
  /-- MOV C700 (R361) -/
  | movEvIv (d : RMv) (imm : Imm)
  /-- RET_far CA (R338) -/
  | retfIw (sz : OSize) (n : Word16)
  /-- RET_far CB (R338) -/
  | retf (sz : OSize)
  /-- INT_3 CC (R342) -/
  | int3
  /-- INT CD (R341) -/
  | intN (n : Byte)
  /-- INTO CE (R343) -/
  | into
  /-- IRET CF (R340) -/
  | iret (sz : OSize)
  /-- ROL D200 (R321) -/
  | rolEbCl (d : RM8)
  /-- ROL D300 (R321) -/
  | rolEvCl (sz : OSize) (d : RMv)
  /-- ROR D208 (R322) -/
  | rorEbCl (d : RM8)
  /-- ROR D308 (R322) -/
  | rorEvCl (sz : OSize) (d : RMv)
  /-- RCL D210 (R323) -/
  | rclEbCl (d : RM8)
  /-- RCL D310 (R323) -/
  | rclEvCl (sz : OSize) (d : RMv)
  /-- RCR D218 (R324) -/
  | rcrEbCl (d : RM8)
  /-- RCR D318 (R324) -/
  | rcrEvCl (sz : OSize) (d : RMv)
  /-- SHL D220 (R325) -/
  | shlEbCl (d : RM8)
  /-- SHL D320 (R325) -/
  | shlEvCl (sz : OSize) (d : RMv)
  /-- SHR D228 (R326) -/
  | shrEbCl (d : RM8)
  /-- SHR D328 (R326) -/
  | shrEvCl (sz : OSize) (d : RMv)
  /-- SAR D238 (R327) -/
  | sarEbCl (d : RM8)
  /-- SAR D338 (R327) -/
  | sarEvCl (sz : OSize) (d : RMv)
  /-- XLAT D7 (R374) -/
  | xlat (az : ASize)
  /-- FNSAVE DD30 (R404) -/
  | fnsave (sz : OSize) (m : Mem)
  /-- FRSTOR DD20 (R406) -/
  | frstor (sz : OSize) (m : Mem)
  /-- FNSTENV D930 (R407) -/
  | fnstenv (sz : OSize) (m : Mem)
  /-- ESC D8 (R401) -/
  | esc (op : Bits3) (ext : Bits3) (rm : RMmm)
  /-- LOOPNE E0 (R347) -/
  | loopne (sz : OSize) (az : ASize) (rel : Byte)
  /-- LOOPE E1 (R346) -/
  | loope (sz : OSize) (az : ASize) (rel : Byte)
  /-- LOOP E2 (R345) -/
  | loop (sz : OSize) (az : ASize) (rel : Byte)
  /-- IN E4 (R381) -/
  | inAlIb (p : Byte)
  /-- IN E5 (R381) -/
  | inAxIb (sz : OSize) (p : Byte)
  /-- OUT E6 (R382) -/
  | outIbAl (p : Byte)
  /-- OUT E7 (R382) -/
  | outIbAx (sz : OSize) (p : Byte)
  /-- CALL E8 (R335) -/
  | callRel (rel : Imm)
  /-- JMP E9 (R333) -/
  | jmpRel (rel : Imm)
  /-- JMP_far EA (R334) -/
  | jmpPtr (p : FarPtr)
  /-- JMP EB (R333) -/
  | jmpRel8 (sz : OSize) (rel : Byte)
  /-- IN EC (R381) -/
  | inAlDx
  /-- IN ED (R381) -/
  | inAxDx (sz : OSize)
  /-- OUT EE (R382) -/
  | outDxAl
  /-- OUT EF (R382) -/
  | outDxAx (sz : OSize)
  /-- HLT F4 (R440) -/
  | hlt
  /-- NOT F610 (R294) -/
  | notEb (d : RM8)
  /-- NOT F710 (R294) -/
  | notEv (sz : OSize) (d : RMv)
  /-- NEG F618 (R293) -/
  | negEb (d : RM8)
  /-- NEG F718 (R293) -/
  | negEv (sz : OSize) (d : RMv)
  /-- MUL F620 (R297) -/
  | mulEb (d : RM8)
  /-- MUL F720 (R297) -/
  | mulEv (sz : OSize) (d : RMv)
  /-- IMUL F628 (R298) -/
  | imulEb (d : RM8)
  /-- IMUL F728 (R298) -/
  | imulEv (sz : OSize) (d : RMv)
  /-- DIV F630 (R299) -/
  | divEb (d : RM8)
  /-- DIV F730 (R299) -/
  | divEv (sz : OSize) (d : RMv)
  /-- IDIV F638 (R300) -/
  | idivEb (d : RM8)
  /-- IDIV F738 (R300) -/
  | idivEv (sz : OSize) (d : RMv)
  /-- CLI FA (R441) -/
  | cli
  /-- STI FB (R442) -/
  | sti
  /-- INC FE00 (R291) -/
  | incEb (d : RM8)
  /-- DEC FE08 (R292) -/
  | decEb (d : RM8)
  /-- INC FF00 (R291) -/
  | incEv (sz : OSize) (d : RMv)
  /-- DEC FF08 (R292) -/
  | decEv (sz : OSize) (d : RMv)
  /-- CALL FF10 (R335) -/
  | callEv (sz : OSize) (d : RMv)
  /-- CALL_far FF18 (R336) -/
  | callMp (sz : OSize) (m : Mem)
  /-- JMP FF20 (R333) -/
  | jmpEv (sz : OSize) (d : RMv)
  /-- JMP_far FF28 (R334) -/
  | jmpMp (sz : OSize) (m : Mem)
  /-- PUSH FF30 (R366) -/
  | pushEv (sz : OSize) (d : RMv)
  /-- SLDT 0F0000 (R425) -/
  | sldt (sz : OSize) (d : RMv)
  /-- STR 0F0008 (R427) -/
  | str (sz : OSize) (d : RMv)
  /-- LLDT 0F0010 (R424) -/
  | lldt (s : RMv)
  /-- LTR 0F0018 (R426) -/
  | ltr (s : RMv)
  /-- SGDT 0F0100 (R423) -/
  | sgdt (sz : OSize) (m : Mem)
  /-- SIDT 0F0108 (R434) -/
  | sidt (sz : OSize) (m : Mem)
  /-- LGDT 0F0110 (R421) -/
  | lgdt (sz : OSize) (m : Mem)
  /-- LIDT 0F0118 (R422) -/
  | lidt (sz : OSize) (m : Mem)
  /-- INVLPG 0F0138 (R431) -/
  | invlpg (m : Mem)
  /-- INVD 0F08 (R432) -/
  | invd
  /-- WBINVD 0F09 (R433) -/
  | wbinvd
  /-- MOV 0F20 (R428) -/
  | movRCr (r : Reg) (n : Bits3)
  /-- MOV 0F21 (R429) -/
  | movRDr (r : Reg) (n : Bits3)
  /-- MOV 0F22 (R428) -/
  | movCrR (n : Bits3) (r : Reg)
  /-- MOV 0F23 (R429) -/
  | movDrR (n : Bits3) (r : Reg)
  /-- MOV 0F24 (R430) -/
  | movRTr (r : Reg) (n : Bits3)
  /-- MOV 0F26 (R430) -/
  | movTrR (n : Bits3) (r : Reg)
  /-- WRMSR 0F30 (R437) -/
  | wrmsr
  /-- RDTSC 0F31 (R435) -/
  | rdtsc
  /-- RDMSR 0F32 (R436) -/
  | rdmsr
  /-- RDPMC 0F33 (R439) -/
  | rdpmc
  /-- RDSHR 0F36 (R469) -/
  | rdshr (d : RMv)
  /-- WRSHR 0F37 (R470) -/
  | wrshr (s : RMv)
  /-- SMINT 0F38 (R467) -/
  | smint
  /-- MOVD 0F6E (R414) -/
  | movdPE (d : MmReg) (s : RMv)
  /-- MOVQ 0F6F (R415) -/
  | movqPQ (d : MmReg) (s : RMmm)
  /-- EMMS 0F77 (R413) -/
  | emms
  /-- SVDC 0F78 (R461) -/
  | svdc (m : Mem) (s : SegReg)
  /-- RSDC 0F79 (R462) -/
  | rsdc (d : SegReg) (m : Mem)
  /-- SVLDT 0F7A00 (R463) -/
  | svldt (m : Mem)
  /-- RSLDT 0F7B00 (R464) -/
  | rsldt (m : Mem)
  /-- SVTS 0F7C00 (R465) -/
  | svts (m : Mem)
  /-- RSTS 0F7D00 (R466) -/
  | rsts (m : Mem)
  /-- MOVD 0F7E (R414) -/
  | movdEP (d : RMv) (s : MmReg)
  /-- MOVQ 0F7F (R415) -/
  | movqQP (d : RMmm) (s : MmReg)
  /-- PUSH 0FA0 (R366) -/
  | pushFs (sz : OSize)
  /-- POP 0FA1 (R367) -/
  | popFs (sz : OSize)
  /-- CPUID 0FA2 (R443) -/
  | cpuid
  /-- PUSH 0FA8 (R366) -/
  | pushGs (sz : OSize)
  /-- POP 0FA9 (R367) -/
  | popGs (sz : OSize)
  /-- RSM 0FAA (R468) -/
  | rsm
  /-- BTS 0FAB (R311) -/
  | btsEvGv (sz : OSize) (d : RMv) (s : Reg)
  /-- CMPXCHG 0FB0 (R296) -/
  | cmpxchgEbGb (d : RM8) (s : Reg8)
  /-- CMPXCHG 0FB1 (R296) -/
  | cmpxchgEvGv (sz : OSize) (d : RMv) (s : Reg)
  /-- BTR 0FB3 (R312) -/
  | btrEvGv (sz : OSize) (d : RMv) (s : Reg)
  /-- BTS 0FBA28 (R311) -/
  | btsEvIb (sz : OSize) (d : RMv) (imm : Byte)
  /-- BTR 0FBA30 (R312) -/
  | btrEvIb (sz : OSize) (d : RMv) (imm : Byte)
  /-- BTC 0FBA38 (R313) -/
  | btcEvIb (sz : OSize) (d : RMv) (imm : Byte)
  /-- BTC 0FBB (R313) -/
  | btcEvGv (sz : OSize) (d : RMv) (s : Reg)
  /-- XADD 0FC0 (R295) -/
  | xaddEbGb (d : RM8) (s : Reg8)
  /-- XADD 0FC1 (R295) -/
  | xaddEvGv (sz : OSize) (d : RMv) (s : Reg)
deriving DecidableEq, Repr

end Sys2Proof
end

