-- ==== Sys2Proof/WellFormed.lean ====
section
/-! DEFINITION. WellFormed: which terms of Instr are instructions with an encoding (spec R246 to R249, R264), and
the operand and address size an instruction's operands imply (R243). -/
namespace Sys2Proof

/-- The address size of a memory operand's form (R248, R249). -/
def Mem.asize : Mem → ASize
  | .m16 _ _ => .a16
  | .direct16 _ => .a16
  | .m32 _ _ => .a32
  | .direct32 _ => .a32
  | .sib _ _ _ _ => .a32
  | .sibNoBase _ _ _ => .a32

/-- The forms ModR/M and SIB can express: no BP or EBP base without displacement (that slot is the direct form), ESP
only as a SIB base, never as an index (R248, R249). -/
def Mem.wf : Mem → Bool
  | .m16 b d => !(b == .bp && d == .none)
  | .direct16 _ => true
  | .m32 b d => !(b == .esp) && !(b == .ebp && d == .none)
  | .direct32 _ => true
  | .sib b i _ d => !(i == some .esp) && !(b == .ebp && d == .none)
  | .sibNoBase i _ _ => !(i == some .esp)

/-- A register operand is always well formed. -/
def RM.wf {ρ : Type} : RM ρ → Bool
  | .reg _ => true
  | .mem m => m.wf

/-- The address size a register-or-memory operand implies, if any. -/
def RM.asize? {ρ : Type} : RM ρ → Option ASize
  | .reg _ => none
  | .mem m => some m.asize

/-- The operand size an immediate implies (R250). -/
def Imm.osize : Imm → OSize
  | .i16 _ => .w16
  | .i32 _ => .w32

/-- The address size a moffs operand implies (R253). -/
def Moffs.asize : Moffs → ASize
  | .o16 _ => .a16
  | .o32 _ => .a32

/-- The ESC slots that are FNSAVE, FRSTOR and FNSTENV, not the generic class (R264, R401). -/
def escNamed (op ext : Bits3) (rm : RMmm) : Bool :=
  match rm with
  | .reg _ => false
  | .mem _ => (op == 5#3 && ext == 6#3) || (op == 5#3 && ext == 4#3) || (op == 1#3 && ext == 6#3)

/-- Well-formed instructions: those the decoder can answer. -/
def Instr.wf : Instr → Bool
  | .segEs => true
  | .segCs => true
  | .segSs => true
  | .segDs => true
  | .segFs => true
  | .segGs => true
  | .opsize => true
  | .adsize => true
  | .lock => true
  | .repne => true
  | .rep => true
  | .addEbGb d _ => d.wf
  | .addEvGv _ d _ => d.wf
  | .addGbEb _ s => s.wf
  | .addGvEv _ _ s => s.wf
  | .addAlIb _ => true
  | .addAxIv _ => true
  | .orEbGb d _ => d.wf
  | .orEvGv _ d _ => d.wf
  | .orGbEb _ s => s.wf
  | .orGvEv _ _ s => s.wf
  | .orAlIb _ => true
  | .orAxIv _ => true
  | .adcEbGb d _ => d.wf
  | .adcEvGv _ d _ => d.wf
  | .adcGbEb _ s => s.wf
  | .adcGvEv _ _ s => s.wf
  | .adcAlIb _ => true
  | .adcAxIv _ => true
  | .sbbEbGb d _ => d.wf
  | .sbbEvGv _ d _ => d.wf
  | .sbbGbEb _ s => s.wf
  | .sbbGvEv _ _ s => s.wf
  | .sbbAlIb _ => true
  | .sbbAxIv _ => true
  | .andEbGb d _ => d.wf
  | .andEvGv _ d _ => d.wf
  | .andGbEb _ s => s.wf
  | .andGvEv _ _ s => s.wf
  | .andAlIb _ => true
  | .andAxIv _ => true
  | .subEbGb d _ => d.wf
  | .subEvGv _ d _ => d.wf
  | .subGbEb _ s => s.wf
  | .subGvEv _ _ s => s.wf
  | .subAlIb _ => true
  | .subAxIv _ => true
  | .xorEbGb d _ => d.wf
  | .xorEvGv _ d _ => d.wf
  | .xorGbEb _ s => s.wf
  | .xorGvEv _ _ s => s.wf
  | .xorAlIb _ => true
  | .xorAxIv _ => true
  | .addEbIb d _ => d.wf
  | .addEvIv d _ => d.wf
  | .addEvIbs _ d _ => d.wf
  | .orEbIb d _ => d.wf
  | .orEvIv d _ => d.wf
  | .orEvIbs _ d _ => d.wf
  | .adcEbIb d _ => d.wf
  | .adcEvIv d _ => d.wf
  | .adcEvIbs _ d _ => d.wf
  | .sbbEbIb d _ => d.wf
  | .sbbEvIv d _ => d.wf
  | .sbbEvIbs _ d _ => d.wf
  | .andEbIb d _ => d.wf
  | .andEvIv d _ => d.wf
  | .andEvIbs _ d _ => d.wf
  | .subEbIb d _ => d.wf
  | .subEvIv d _ => d.wf
  | .subEvIbs _ d _ => d.wf
  | .xorEbIb d _ => d.wf
  | .xorEvIv d _ => d.wf
  | .xorEvIbs _ d _ => d.wf
  | .pushEs _ => true
  | .pushCs _ => true
  | .pushSs _ => true
  | .pushDs _ => true
  | .popEs _ => true
  | .popSs _ => true
  | .popDs _ => true
  | .incR _ _ => true
  | .decR _ _ => true
  | .pushR _ _ => true
  | .popR _ _ => true
  | .pusha _ => true
  | .popa _ => true
  | .bound _ _ m => m.wf
  | .pushIv _ => true
  | .pushIbs _ _ => true
  | .insb _ => true
  | .insv _ _ => true
  | .outsb _ => true
  | .outsv _ _ => true
  | .xchgEbGb d _ => d.wf
  | .xchgEvGv _ d _ => d.wf
  | .movEbGb d _ => d.wf
  | .movEvGv _ d _ => d.wf
  | .movGbEb _ s => s.wf
  | .movGvEv _ _ s => s.wf
  | .movEwSw _ d _ => d.wf
  | .movSwEw d s => s.wf && !(d == .cs)
  | .popEv _ d => d.wf
  | .nop => true
  | .xchgAx _ r => !(r == .eax)
  | .callPtr _ => true
  | .fsave _ m => m.wf
  | .fstenv _ m => m.wf
  | .wait => true
  | .pushf _ => true
  | .popf _ => true
  | .movAlOb _ => true
  | .movAxOv _ _ => true
  | .movObAl _ => true
  | .movOvAx _ _ => true
  | .movsb _ => true
  | .movsv _ _ => true
  | .stosb _ => true
  | .stosv _ _ => true
  | .movRIb _ _ => true
  | .movRIv _ _ => true
  | .retIw _ _ => true
  | .ret _ => true
  | .movEbIb d _ => d.wf
  | .movEvIv d _ => d.wf
  | .retfIw _ _ => true
  | .retf _ => true
  | .int3 => true
  | .intN _ => true
  | .into => true
  | .iret _ => true
  | .rolEbCl d => d.wf
  | .rolEvCl _ d => d.wf
  | .rorEbCl d => d.wf
  | .rorEvCl _ d => d.wf
  | .rclEbCl d => d.wf
  | .rclEvCl _ d => d.wf
  | .rcrEbCl d => d.wf
  | .rcrEvCl _ d => d.wf
  | .shlEbCl d => d.wf
  | .shlEvCl _ d => d.wf
  | .shrEbCl d => d.wf
  | .shrEvCl _ d => d.wf
  | .sarEbCl d => d.wf
  | .sarEvCl _ d => d.wf
  | .xlat _ => true
  | .fnsave _ m => m.wf
  | .frstor _ m => m.wf
  | .fnstenv _ m => m.wf
  | .esc op ext rm => rm.wf && !escNamed op ext rm
  | .loopne _ _ _ => true
  | .loope _ _ _ => true
  | .loop _ _ _ => true
  | .inAlIb _ => true
  | .inAxIb _ _ => true
  | .outIbAl _ => true
  | .outIbAx _ _ => true
  | .callRel _ => true
  | .jmpRel _ => true
  | .jmpPtr _ => true
  | .jmpRel8 _ _ => true
  | .inAlDx => true
  | .inAxDx _ => true
  | .outDxAl => true
  | .outDxAx _ => true
  | .hlt => true
  | .notEb d => d.wf
  | .notEv _ d => d.wf
  | .negEb d => d.wf
  | .negEv _ d => d.wf
  | .mulEb d => d.wf
  | .mulEv _ d => d.wf
  | .imulEb d => d.wf
  | .imulEv _ d => d.wf
  | .divEb d => d.wf
  | .divEv _ d => d.wf
  | .idivEb d => d.wf
  | .idivEv _ d => d.wf
  | .cli => true
  | .sti => true
  | .incEb d => d.wf
  | .decEb d => d.wf
  | .incEv _ d => d.wf
  | .decEv _ d => d.wf
  | .callEv _ d => d.wf
  | .callMp _ m => m.wf
  | .jmpEv _ d => d.wf
  | .jmpMp _ m => m.wf
  | .pushEv _ d => d.wf
  | .sldt _ d => d.wf
  | .str _ d => d.wf
  | .lldt s => s.wf
  | .ltr s => s.wf
  | .sgdt _ m => m.wf
  | .sidt _ m => m.wf
  | .lgdt _ m => m.wf
  | .lidt _ m => m.wf
  | .invlpg m => m.wf
  | .invd => true
  | .wbinvd => true
  | .movRCr _ _ => true
  | .movRDr _ _ => true
  | .movCrR _ _ => true
  | .movDrR _ _ => true
  | .movRTr _ _ => true
  | .movTrR _ _ => true
  | .wrmsr => true
  | .rdtsc => true
  | .rdmsr => true
  | .rdpmc => true
  | .rdshr d => d.wf
  | .wrshr s => s.wf
  | .smint => true
  | .movdPE _ s => s.wf
  | .movqPQ _ s => s.wf
  | .emms => true
  | .svdc m _ => m.wf
  | .rsdc _ m => m.wf
  | .svldt m => m.wf
  | .rsldt m => m.wf
  | .svts m => m.wf
  | .rsts m => m.wf
  | .movdEP d _ => d.wf
  | .movqQP d _ => d.wf
  | .pushFs _ => true
  | .popFs _ => true
  | .cpuid => true
  | .pushGs _ => true
  | .popGs _ => true
  | .rsm => true
  | .btsEvGv _ d _ => d.wf
  | .cmpxchgEbGb d _ => d.wf
  | .cmpxchgEvGv _ d _ => d.wf
  | .btrEvGv _ d _ => d.wf
  | .btsEvIb _ d _ => d.wf
  | .btrEvIb _ d _ => d.wf
  | .btcEvIb _ d _ => d.wf
  | .btcEvGv _ d _ => d.wf
  | .xaddEbGb d _ => d.wf
  | .xaddEvGv _ d _ => d.wf

/-- The operand size that an instruction's row takes from the code segment and the 66h prefix, where it has one. -/
def Instr.osize? : Instr → Option OSize
  | .segEs => none
  | .segCs => none
  | .segSs => none
  | .segDs => none
  | .segFs => none
  | .segGs => none
  | .opsize => none
  | .adsize => none
  | .lock => none
  | .repne => none
  | .rep => none
  | .addEbGb _ _ => none
  | .addEvGv sz _ _ => some sz
  | .addGbEb _ _ => none
  | .addGvEv sz _ _ => some sz
  | .addAlIb _ => none
  | .addAxIv imm => some imm.osize
  | .orEbGb _ _ => none
  | .orEvGv sz _ _ => some sz
  | .orGbEb _ _ => none
  | .orGvEv sz _ _ => some sz
  | .orAlIb _ => none
  | .orAxIv imm => some imm.osize
  | .adcEbGb _ _ => none
  | .adcEvGv sz _ _ => some sz
  | .adcGbEb _ _ => none
  | .adcGvEv sz _ _ => some sz
  | .adcAlIb _ => none
  | .adcAxIv imm => some imm.osize
  | .sbbEbGb _ _ => none
  | .sbbEvGv sz _ _ => some sz
  | .sbbGbEb _ _ => none
  | .sbbGvEv sz _ _ => some sz
  | .sbbAlIb _ => none
  | .sbbAxIv imm => some imm.osize
  | .andEbGb _ _ => none
  | .andEvGv sz _ _ => some sz
  | .andGbEb _ _ => none
  | .andGvEv sz _ _ => some sz
  | .andAlIb _ => none
  | .andAxIv imm => some imm.osize
  | .subEbGb _ _ => none
  | .subEvGv sz _ _ => some sz
  | .subGbEb _ _ => none
  | .subGvEv sz _ _ => some sz
  | .subAlIb _ => none
  | .subAxIv imm => some imm.osize
  | .xorEbGb _ _ => none
  | .xorEvGv sz _ _ => some sz
  | .xorGbEb _ _ => none
  | .xorGvEv sz _ _ => some sz
  | .xorAlIb _ => none
  | .xorAxIv imm => some imm.osize
  | .addEbIb _ _ => none
  | .addEvIv _ imm => some imm.osize
  | .addEvIbs sz _ _ => some sz
  | .orEbIb _ _ => none
  | .orEvIv _ imm => some imm.osize
  | .orEvIbs sz _ _ => some sz
  | .adcEbIb _ _ => none
  | .adcEvIv _ imm => some imm.osize
  | .adcEvIbs sz _ _ => some sz
  | .sbbEbIb _ _ => none
  | .sbbEvIv _ imm => some imm.osize
  | .sbbEvIbs sz _ _ => some sz
  | .andEbIb _ _ => none
  | .andEvIv _ imm => some imm.osize
  | .andEvIbs sz _ _ => some sz
  | .subEbIb _ _ => none
  | .subEvIv _ imm => some imm.osize
  | .subEvIbs sz _ _ => some sz
  | .xorEbIb _ _ => none
  | .xorEvIv _ imm => some imm.osize
  | .xorEvIbs sz _ _ => some sz
  | .pushEs sz => some sz
  | .pushCs sz => some sz
  | .pushSs sz => some sz
  | .pushDs sz => some sz
  | .popEs sz => some sz
  | .popSs sz => some sz
  | .popDs sz => some sz
  | .incR sz _ => some sz
  | .decR sz _ => some sz
  | .pushR sz _ => some sz
  | .popR sz _ => some sz
  | .pusha sz => some sz
  | .popa sz => some sz
  | .bound sz _ _ => some sz
  | .pushIv imm => some imm.osize
  | .pushIbs sz _ => some sz
  | .insb _ => none
  | .insv sz _ => some sz
  | .outsb _ => none
  | .outsv sz _ => some sz
  | .xchgEbGb _ _ => none
  | .xchgEvGv sz _ _ => some sz
  | .movEbGb _ _ => none
  | .movEvGv sz _ _ => some sz
  | .movGbEb _ _ => none
  | .movGvEv sz _ _ => some sz
  | .movEwSw sz _ _ => some sz
  | .movSwEw _ _ => none
  | .popEv sz _ => some sz
  | .nop => none
  | .xchgAx sz _ => some sz
  | .callPtr p => some p.off.osize
  | .fsave sz _ => some sz
  | .fstenv sz _ => some sz
  | .wait => none
  | .pushf sz => some sz
  | .popf sz => some sz
  | .movAlOb _ => none
  | .movAxOv sz _ => some sz
  | .movObAl _ => none
  | .movOvAx sz _ => some sz
  | .movsb _ => none
  | .movsv sz _ => some sz
  | .stosb _ => none
  | .stosv sz _ => some sz
  | .movRIb _ _ => none
  | .movRIv _ imm => some imm.osize
  | .retIw sz _ => some sz
  | .ret sz => some sz
  | .movEbIb _ _ => none
  | .movEvIv _ imm => some imm.osize
  | .retfIw sz _ => some sz
  | .retf sz => some sz
  | .int3 => none
  | .intN _ => none
  | .into => none
  | .iret sz => some sz
  | .rolEbCl _ => none
  | .rolEvCl sz _ => some sz
  | .rorEbCl _ => none
  | .rorEvCl sz _ => some sz
  | .rclEbCl _ => none
  | .rclEvCl sz _ => some sz
  | .rcrEbCl _ => none
  | .rcrEvCl sz _ => some sz
  | .shlEbCl _ => none
  | .shlEvCl sz _ => some sz
  | .shrEbCl _ => none
  | .shrEvCl sz _ => some sz
  | .sarEbCl _ => none
  | .sarEvCl sz _ => some sz
  | .xlat _ => none
  | .fnsave sz _ => some sz
  | .frstor sz _ => some sz
  | .fnstenv sz _ => some sz
  | .esc _ _ _ => none
  | .loopne sz _ _ => some sz
  | .loope sz _ _ => some sz
  | .loop sz _ _ => some sz
  | .inAlIb _ => none
  | .inAxIb sz _ => some sz
  | .outIbAl _ => none
  | .outIbAx sz _ => some sz
  | .callRel rel => some rel.osize
  | .jmpRel rel => some rel.osize
  | .jmpPtr p => some p.off.osize
  | .jmpRel8 sz _ => some sz
  | .inAlDx => none
  | .inAxDx sz => some sz
  | .outDxAl => none
  | .outDxAx sz => some sz
  | .hlt => none
  | .notEb _ => none
  | .notEv sz _ => some sz
  | .negEb _ => none
  | .negEv sz _ => some sz
  | .mulEb _ => none
  | .mulEv sz _ => some sz
  | .imulEb _ => none
  | .imulEv sz _ => some sz
  | .divEb _ => none
  | .divEv sz _ => some sz
  | .idivEb _ => none
  | .idivEv sz _ => some sz
  | .cli => none
  | .sti => none
  | .incEb _ => none
  | .decEb _ => none
  | .incEv sz _ => some sz
  | .decEv sz _ => some sz
  | .callEv sz _ => some sz
  | .callMp sz _ => some sz
  | .jmpEv sz _ => some sz
  | .jmpMp sz _ => some sz
  | .pushEv sz _ => some sz
  | .sldt sz _ => some sz
  | .str sz _ => some sz
  | .lldt _ => none
  | .ltr _ => none
  | .sgdt sz _ => some sz
  | .sidt sz _ => some sz
  | .lgdt sz _ => some sz
  | .lidt sz _ => some sz
  | .invlpg _ => none
  | .invd => none
  | .wbinvd => none
  | .movRCr _ _ => none
  | .movRDr _ _ => none
  | .movCrR _ _ => none
  | .movDrR _ _ => none
  | .movRTr _ _ => none
  | .movTrR _ _ => none
  | .wrmsr => none
  | .rdtsc => none
  | .rdmsr => none
  | .rdpmc => none
  | .rdshr _ => none
  | .wrshr _ => none
  | .smint => none
  | .movdPE _ _ => none
  | .movqPQ _ _ => none
  | .emms => none
  | .svdc _ _ => none
  | .rsdc _ _ => none
  | .svldt _ => none
  | .rsldt _ => none
  | .svts _ => none
  | .rsts _ => none
  | .movdEP _ _ => none
  | .movqQP _ _ => none
  | .pushFs sz => some sz
  | .popFs sz => some sz
  | .cpuid => none
  | .pushGs sz => some sz
  | .popGs sz => some sz
  | .rsm => none
  | .btsEvGv sz _ _ => some sz
  | .cmpxchgEbGb _ _ => none
  | .cmpxchgEvGv sz _ _ => some sz
  | .btrEvGv sz _ _ => some sz
  | .btsEvIb sz _ _ => some sz
  | .btrEvIb sz _ _ => some sz
  | .btcEvIb sz _ _ => some sz
  | .btcEvGv sz _ _ => some sz
  | .xaddEbGb _ _ => none
  | .xaddEvGv sz _ _ => some sz

/-- The address size that an instruction takes from the code segment and the 67h prefix, where it has one. -/
def Instr.asize? : Instr → Option ASize
  | .segEs => none
  | .segCs => none
  | .segSs => none
  | .segDs => none
  | .segFs => none
  | .segGs => none
  | .opsize => none
  | .adsize => none
  | .lock => none
  | .repne => none
  | .rep => none
  | .addEbGb d _ => d.asize?
  | .addEvGv _ d _ => d.asize?
  | .addGbEb _ s => s.asize?
  | .addGvEv _ _ s => s.asize?
  | .addAlIb _ => none
  | .addAxIv _ => none
  | .orEbGb d _ => d.asize?
  | .orEvGv _ d _ => d.asize?
  | .orGbEb _ s => s.asize?
  | .orGvEv _ _ s => s.asize?
  | .orAlIb _ => none
  | .orAxIv _ => none
  | .adcEbGb d _ => d.asize?
  | .adcEvGv _ d _ => d.asize?
  | .adcGbEb _ s => s.asize?
  | .adcGvEv _ _ s => s.asize?
  | .adcAlIb _ => none
  | .adcAxIv _ => none
  | .sbbEbGb d _ => d.asize?
  | .sbbEvGv _ d _ => d.asize?
  | .sbbGbEb _ s => s.asize?
  | .sbbGvEv _ _ s => s.asize?
  | .sbbAlIb _ => none
  | .sbbAxIv _ => none
  | .andEbGb d _ => d.asize?
  | .andEvGv _ d _ => d.asize?
  | .andGbEb _ s => s.asize?
  | .andGvEv _ _ s => s.asize?
  | .andAlIb _ => none
  | .andAxIv _ => none
  | .subEbGb d _ => d.asize?
  | .subEvGv _ d _ => d.asize?
  | .subGbEb _ s => s.asize?
  | .subGvEv _ _ s => s.asize?
  | .subAlIb _ => none
  | .subAxIv _ => none
  | .xorEbGb d _ => d.asize?
  | .xorEvGv _ d _ => d.asize?
  | .xorGbEb _ s => s.asize?
  | .xorGvEv _ _ s => s.asize?
  | .xorAlIb _ => none
  | .xorAxIv _ => none
  | .addEbIb d _ => d.asize?
  | .addEvIv d _ => d.asize?
  | .addEvIbs _ d _ => d.asize?
  | .orEbIb d _ => d.asize?
  | .orEvIv d _ => d.asize?
  | .orEvIbs _ d _ => d.asize?
  | .adcEbIb d _ => d.asize?
  | .adcEvIv d _ => d.asize?
  | .adcEvIbs _ d _ => d.asize?
  | .sbbEbIb d _ => d.asize?
  | .sbbEvIv d _ => d.asize?
  | .sbbEvIbs _ d _ => d.asize?
  | .andEbIb d _ => d.asize?
  | .andEvIv d _ => d.asize?
  | .andEvIbs _ d _ => d.asize?
  | .subEbIb d _ => d.asize?
  | .subEvIv d _ => d.asize?
  | .subEvIbs _ d _ => d.asize?
  | .xorEbIb d _ => d.asize?
  | .xorEvIv d _ => d.asize?
  | .xorEvIbs _ d _ => d.asize?
  | .pushEs _ => none
  | .pushCs _ => none
  | .pushSs _ => none
  | .pushDs _ => none
  | .popEs _ => none
  | .popSs _ => none
  | .popDs _ => none
  | .incR _ _ => none
  | .decR _ _ => none
  | .pushR _ _ => none
  | .popR _ _ => none
  | .pusha _ => none
  | .popa _ => none
  | .bound _ _ m => some m.asize
  | .pushIv _ => none
  | .pushIbs _ _ => none
  | .insb az => some az
  | .insv _ az => some az
  | .outsb az => some az
  | .outsv _ az => some az
  | .xchgEbGb d _ => d.asize?
  | .xchgEvGv _ d _ => d.asize?
  | .movEbGb d _ => d.asize?
  | .movEvGv _ d _ => d.asize?
  | .movGbEb _ s => s.asize?
  | .movGvEv _ _ s => s.asize?
  | .movEwSw _ d _ => d.asize?
  | .movSwEw _ s => s.asize?
  | .popEv _ d => d.asize?
  | .nop => none
  | .xchgAx _ _ => none
  | .callPtr _ => none
  | .fsave _ m => some m.asize
  | .fstenv _ m => some m.asize
  | .wait => none
  | .pushf _ => none
  | .popf _ => none
  | .movAlOb o => some o.asize
  | .movAxOv _ o => some o.asize
  | .movObAl o => some o.asize
  | .movOvAx _ o => some o.asize
  | .movsb az => some az
  | .movsv _ az => some az
  | .stosb az => some az
  | .stosv _ az => some az
  | .movRIb _ _ => none
  | .movRIv _ _ => none
  | .retIw _ _ => none
  | .ret _ => none
  | .movEbIb d _ => d.asize?
  | .movEvIv d _ => d.asize?
  | .retfIw _ _ => none
  | .retf _ => none
  | .int3 => none
  | .intN _ => none
  | .into => none
  | .iret _ => none
  | .rolEbCl d => d.asize?
  | .rolEvCl _ d => d.asize?
  | .rorEbCl d => d.asize?
  | .rorEvCl _ d => d.asize?
  | .rclEbCl d => d.asize?
  | .rclEvCl _ d => d.asize?
  | .rcrEbCl d => d.asize?
  | .rcrEvCl _ d => d.asize?
  | .shlEbCl d => d.asize?
  | .shlEvCl _ d => d.asize?
  | .shrEbCl d => d.asize?
  | .shrEvCl _ d => d.asize?
  | .sarEbCl d => d.asize?
  | .sarEvCl _ d => d.asize?
  | .xlat az => some az
  | .fnsave _ m => some m.asize
  | .frstor _ m => some m.asize
  | .fnstenv _ m => some m.asize
  | .esc _ _ rm => rm.asize?
  | .loopne _ az _ => some az
  | .loope _ az _ => some az
  | .loop _ az _ => some az
  | .inAlIb _ => none
  | .inAxIb _ _ => none
  | .outIbAl _ => none
  | .outIbAx _ _ => none
  | .callRel _ => none
  | .jmpRel _ => none
  | .jmpPtr _ => none
  | .jmpRel8 _ _ => none
  | .inAlDx => none
  | .inAxDx _ => none
  | .outDxAl => none
  | .outDxAx _ => none
  | .hlt => none
  | .notEb d => d.asize?
  | .notEv _ d => d.asize?
  | .negEb d => d.asize?
  | .negEv _ d => d.asize?
  | .mulEb d => d.asize?
  | .mulEv _ d => d.asize?
  | .imulEb d => d.asize?
  | .imulEv _ d => d.asize?
  | .divEb d => d.asize?
  | .divEv _ d => d.asize?
  | .idivEb d => d.asize?
  | .idivEv _ d => d.asize?
  | .cli => none
  | .sti => none
  | .incEb d => d.asize?
  | .decEb d => d.asize?
  | .incEv _ d => d.asize?
  | .decEv _ d => d.asize?
  | .callEv _ d => d.asize?
  | .callMp _ m => some m.asize
  | .jmpEv _ d => d.asize?
  | .jmpMp _ m => some m.asize
  | .pushEv _ d => d.asize?
  | .sldt _ d => d.asize?
  | .str _ d => d.asize?
  | .lldt s => s.asize?
  | .ltr s => s.asize?
  | .sgdt _ m => some m.asize
  | .sidt _ m => some m.asize
  | .lgdt _ m => some m.asize
  | .lidt _ m => some m.asize
  | .invlpg m => some m.asize
  | .invd => none
  | .wbinvd => none
  | .movRCr _ _ => none
  | .movRDr _ _ => none
  | .movCrR _ _ => none
  | .movDrR _ _ => none
  | .movRTr _ _ => none
  | .movTrR _ _ => none
  | .wrmsr => none
  | .rdtsc => none
  | .rdmsr => none
  | .rdpmc => none
  | .rdshr d => d.asize?
  | .wrshr s => s.asize?
  | .smint => none
  | .movdPE _ s => s.asize?
  | .movqPQ _ s => s.asize?
  | .emms => none
  | .svdc m _ => some m.asize
  | .rsdc _ m => some m.asize
  | .svldt m => some m.asize
  | .rsldt m => some m.asize
  | .svts m => some m.asize
  | .rsts m => some m.asize
  | .movdEP d _ => d.asize?
  | .movqQP d _ => d.asize?
  | .pushFs _ => none
  | .popFs _ => none
  | .cpuid => none
  | .pushGs _ => none
  | .popGs _ => none
  | .rsm => none
  | .btsEvGv _ d _ => d.asize?
  | .cmpxchgEbGb d _ => d.asize?
  | .cmpxchgEvGv _ d _ => d.asize?
  | .btrEvGv _ d _ => d.asize?
  | .btsEvIb _ d _ => d.asize?
  | .btrEvIb _ d _ => d.asize?
  | .btcEvIb _ d _ => d.asize?
  | .btcEvGv _ d _ => d.asize?
  | .xaddEbGb d _ => d.asize?
  | .xaddEvGv _ d _ => d.asize?

end Sys2Proof
end

