-- ==== Sys2Proof/Decode.lean ====
section
/-! DEFINITION. Decode: from bytes to an instruction, total on any bytes, rejecting by name (spec R240 to R262), and
the encoder written from the same tables. The byte values are spec R241, R255 to R257; the operand bytes R246 to
R253. A decoder answer that needs bytes not yet fetched is `more`, so that only the bytes an instruction has are
fetched (R261). -/
namespace Sys2Proof

/-- Why the rule of an instruction rejects the encoding of its operands, which it does after all else is decoded (R261). -/
inductive LateStop
  /-- A register where memory is needed, or a number that names no segment register: the invalid opcode exception (R258 f, g). -/
  | invalidOperand
  /-- A non-zero reg field with SVLDT, RSLDT, SVTS or RSTS: the spec refuses it (R259, U20). -/
  | reservedRegField
deriving DecidableEq, Repr

/-- A decoder's answer. -/
inductive Dec (α : Type)
  /-- A value and the bytes after it. -/
  | ok (a : α) (rest : List Byte)
  /-- More bytes are needed. -/
  | more
  /-- WAIT so far; FSAVE or FSTENV if the bytes that follow say so (R264). -/
  | soft
  /-- Invalid opcode exception: a group slot with no instruction (R258 h). -/
  | invalid
  /-- An opcode of an instruction the source does not name: outside the spec (R262, D27). -/
  | refused
  /-- An instruction whose operands its own rule rejects, and the bytes after it. -/
  | late (why : LateStop) (rest : List Byte)
deriving DecidableEq, Repr

/-- The sizes the decoder works with (R243) and whether the instruction has no prefix so far (only then are FSAVE
and FSTENV, which are WAIT and a second instruction, read as one; R264). -/
structure Ctx where
  os : OSize
  as : ASize
  bare : Bool
deriving DecidableEq, Repr

/-- Keep an answer's outcome, changing its value. -/
def Dec.map {α β : Type} (f : α → β) : Dec α → Dec β
  | .ok a rest => .ok (f a) rest
  | .more => .more
  | .soft => .soft
  | .invalid => .invalid
  | .refused => .refused
  | .late w rest => .late w rest

/-! Register numbers (R246). -/

/-- The general register numbered n. -/
def Reg.ofNum (n : Nat) : Reg :=
  match n with
  | 0 => .eax | 1 => .ecx | 2 => .edx | 3 => .ebx | 4 => .esp | 5 => .ebp | 6 => .esi | _ => .edi
/-- The number of a general register. -/
def Reg.num : Reg → Bits3
  | .eax => 0#3 | .ecx => 1#3 | .edx => 2#3 | .ebx => 3#3 | .esp => 4#3 | .ebp => 5#3 | .esi => 6#3 | .edi => 7#3
/-- The byte register numbered n. -/
def Reg8.ofNum (n : Nat) : Reg8 :=
  match n with
  | 0 => .al | 1 => .cl | 2 => .dl | 3 => .bl | 4 => .ah | 5 => .ch | 6 => .dh | _ => .bh
/-- The number of a byte register. -/
def Reg8.num : Reg8 → Bits3
  | .al => 0#3 | .cl => 1#3 | .dl => 2#3 | .bl => 3#3 | .ah => 4#3 | .ch => 5#3 | .dh => 6#3 | .bh => 7#3
/-- The MMX register numbered n. -/
def MmReg.ofNum (n : Nat) : MmReg :=
  match n with
  | 0 => .mm0 | 1 => .mm1 | 2 => .mm2 | 3 => .mm3 | 4 => .mm4 | 5 => .mm5 | 6 => .mm6 | _ => .mm7
/-- The number of an MMX register. -/
def MmReg.num : MmReg → Bits3
  | .mm0 => 0#3 | .mm1 => 1#3 | .mm2 => 2#3 | .mm3 => 3#3 | .mm4 => 4#3 | .mm5 => 5#3 | .mm6 => 6#3 | .mm7 => 7#3
/-- The segment register numbered n; 6 and 7 are invalid. -/
def SegReg.ofNum? (n : Nat) : Option SegReg :=
  match n with
  | 0 => some .es | 1 => some .cs | 2 => some .ss | 3 => some .ds | 4 => some .fs | 5 => some .gs | _ => none
/-- The number of a segment register. -/
def SegReg.num : SegReg → Bits3
  | .es => 0#3 | .cs => 1#3 | .ss => 2#3 | .ds => 3#3 | .fs => 4#3 | .gs => 5#3
/-- The 16-bit register part numbered n (R249). -/
def Base16.ofNum (n : Nat) : Base16 :=
  match n with
  | 0 => .bxSi | 1 => .bxDi | 2 => .bpSi | 3 => .bpDi | 4 => .si | 5 => .di | 6 => .bp | _ => .bx
/-- The number of a 16-bit register part. -/
def Base16.num : Base16 → Bits3
  | .bxSi => 0#3 | .bxDi => 1#3 | .bpSi => 2#3 | .bpDi => 3#3 | .si => 4#3 | .di => 5#3 | .bp => 6#3 | .bx => 7#3
/-- The scale numbered n (R248). -/
def Scale.ofNum (n : Nat) : Scale :=
  match n with
  | 0 => .x1 | 1 => .x2 | 2 => .x4 | _ => .x8
/-- The number of a scale. -/
def Scale.num : Scale → BitVec 2
  | .x1 => 0#2 | .x2 => 1#2 | .x4 => 2#2 | .x8 => 3#2

/-! Fields of the operand bytes (R247, R248). -/

/-- Bits 7:6 of a ModR/M or SIB byte. -/
def Byte.hi2 (b : Byte) : Nat := b.toNat / 64
/-- Bits 5:3. -/
def Byte.mid3 (b : Byte) : Nat := b.toNat / 8 % 8
/-- Bits 2:0. -/
def Byte.lo3 (b : Byte) : Nat := b.toNat % 8

/-- Read one byte. -/
def u8 {α : Type} (bs : List Byte) (k : Byte → List Byte → Dec α) : Dec α :=
  match bs with
  | [] => .more
  | b :: rest => k b rest
/-- Read a little-endian word (R250). -/
def u16 {α : Type} (bs : List Byte) (k : Word16 → List Byte → Dec α) : Dec α :=
  match bs with
  | b0 :: b1 :: rest => k (b1 ++ b0) rest
  | _ => .more
/-- Read a little-endian doubleword (R250). -/
def u32 {α : Type} (bs : List Byte) (k : Word → List Byte → Dec α) : Dec α :=
  match bs with
  | b0 :: b1 :: b2 :: b3 :: rest => k (b3 ++ b2 ++ b1 ++ b0) rest
  | _ => .more
/-- Read an immediate of OS/8 bytes (R250). -/
def uImm {α : Type} (os : OSize) (bs : List Byte) (k : Imm → List Byte → Dec α) : Dec α :=
  match os with
  | .w16 => u16 bs fun v rest => k (.i16 v) rest
  | .w32 => u32 bs fun v rest => k (.i32 v) rest
/-- Read a moffs operand of AS/8 bytes (R253). -/
def uMoffs {α : Type} (as : ASize) (bs : List Byte) (k : Moffs → List Byte → Dec α) : Dec α :=
  match as with
  | .a16 => u16 bs fun v rest => k (.o16 v) rest
  | .a32 => u32 bs fun v rest => k (.o32 v) rest
/-- Read a far pointer: offset, then selector (R252). -/
def uFar {α : Type} (os : OSize) (bs : List Byte) (k : FarPtr → List Byte → Dec α) : Dec α :=
  uImm os bs fun off r1 => u16 r1 fun sel r2 => k ⟨sel, off⟩ r2

/-- The SIB index numbered n; 100 is none (R248). -/
def sibIndex (n : Nat) : Option Reg := if n = 4 then none else some (Reg.ofNum n)

/-- A 16-bit memory operand (R249). -/
def uMem16 {α : Type} (mod rm : Nat) (bs : List Byte) (k : Mem → List Byte → Dec α) : Dec α :=
  match mod with
  | 0 => if rm = 6 then u16 bs fun d rest => k (.direct16 d) rest else k (.m16 (Base16.ofNum rm) .none) bs
  | 1 => u8 bs fun d rest => k (.m16 (Base16.ofNum rm) (.d8 d)) rest
  | _ => u16 bs fun d rest => k (.m16 (Base16.ofNum rm) (.d16 d)) rest

/-- A 32-bit memory operand with a SIB byte (R248). -/
def uSib {α : Type} (mod : Nat) (bs : List Byte) (k : Mem → List Byte → Dec α) : Dec α :=
  u8 bs fun s rest =>
    let i := sibIndex s.mid3
    let sc := Scale.ofNum s.hi2
    let b := Reg.ofNum s.lo3
    match mod with
    | 0 => if s.lo3 = 5 then u32 rest fun d r2 => k (.sibNoBase i sc d) r2 else k (.sib b i sc .none) rest
    | 1 => u8 rest fun d r2 => k (.sib b i sc (.d8 d)) r2
    | _ => u32 rest fun d r2 => k (.sib b i sc (.d32 d)) r2

/-- A 32-bit memory operand (R248). -/
def uMem32 {α : Type} (mod rm : Nat) (bs : List Byte) (k : Mem → List Byte → Dec α) : Dec α :=
  if rm = 4 then uSib mod bs k
  else
    match mod with
    | 0 => if rm = 5 then u32 bs fun d rest => k (.direct32 d) rest else k (.m32 (Reg.ofNum rm) .none) bs
    | 1 => u8 bs fun d rest => k (.m32 (Reg.ofNum rm) (.d8 d)) rest
    | _ => u32 bs fun d rest => k (.m32 (Reg.ofNum rm) (.d32 d)) rest

/-- A memory operand of either address size. -/
def uMem {α : Type} (as : ASize) (mod rm : Nat) (bs : List Byte) (k : Mem → List Byte → Dec α) : Dec α :=
  match as with
  | .a16 => uMem16 mod rm bs k
  | .a32 => uMem32 mod rm bs k

/-- Look at the reg field of the ModR/M byte without reading it. An entry whose reg field is an opcode extension is judged
before the bytes after it are read (R261). -/
def peek {α : Type} (bs : List Byte) (k : Nat → Dec α) : Dec α :=
  match bs with
  | [] => .more
  | b :: _ => k b.mid3

/-- ModR/M with its operand: the reg field and the r/m operand, register numbers turned into registers by `f`. -/
def modrm {ρ α : Type} (as : ASize) (f : Nat → ρ) (bs : List Byte) (k : Nat → RM ρ → List Byte → Dec α) : Dec α :=
  u8 bs fun b rest =>
    if b.hi2 = 3 then k b.mid3 (.reg (f b.lo3)) rest
    else uMem as b.hi2 b.lo3 rest fun m r2 => k b.mid3 (.mem m) r2

/-- ModR/M with a memory-only operand: mod = 11 is an invalid operand (R258 f). -/
def memOnly {α : Type} (as : ASize) (bs : List Byte) (k : Nat → Mem → List Byte → Dec α) : Dec α :=
  u8 bs fun b rest =>
    if b.hi2 = 3 then .late .invalidOperand rest
    else uMem as b.hi2 b.lo3 rest fun m r2 => k b.mid3 m r2

/-! Constructor families the opcode map indexes by a field. -/

/-- The seven two-operand arithmetic and logic operations, in the order of opcode bits 5:3 (R255, R257). -/
inductive Alu | add | or | adc | sbb | and | sub | xor
deriving DecidableEq, Repr
/-- The operation numbered n; 7 is not named by the source. -/
def Alu.ofNum? (n : Nat) : Option Alu :=
  match n with
  | 0 => some .add | 1 => some .or | 2 => some .adc | 3 => some .sbb | 4 => some .and | 5 => some .sub | 6 => some .xor
  | _ => none
/-- op r/m8, r8 -/
def Alu.ebGb : Alu → RM8 → Reg8 → Instr
  | .add, d, s => .addEbGb d s
  | .or, d, s => .orEbGb d s
  | .adc, d, s => .adcEbGb d s
  | .sbb, d, s => .sbbEbGb d s
  | .and, d, s => .andEbGb d s
  | .sub, d, s => .subEbGb d s
  | .xor, d, s => .xorEbGb d s
/-- op r/mv, rv -/
def Alu.evGv : Alu → OSize → RMv → Reg → Instr
  | .add, sz, d, s => .addEvGv sz d s
  | .or, sz, d, s => .orEvGv sz d s
  | .adc, sz, d, s => .adcEvGv sz d s
  | .sbb, sz, d, s => .sbbEvGv sz d s
  | .and, sz, d, s => .andEvGv sz d s
  | .sub, sz, d, s => .subEvGv sz d s
  | .xor, sz, d, s => .xorEvGv sz d s
/-- op r8, r/m8 -/
def Alu.gbEb : Alu → Reg8 → RM8 → Instr
  | .add, d, s => .addGbEb d s
  | .or, d, s => .orGbEb d s
  | .adc, d, s => .adcGbEb d s
  | .sbb, d, s => .sbbGbEb d s
  | .and, d, s => .andGbEb d s
  | .sub, d, s => .subGbEb d s
  | .xor, d, s => .xorGbEb d s
/-- op rv, r/mv -/
def Alu.gvEv : Alu → OSize → Reg → RMv → Instr
  | .add, sz, d, s => .addGvEv sz d s
  | .or, sz, d, s => .orGvEv sz d s
  | .adc, sz, d, s => .adcGvEv sz d s
  | .sbb, sz, d, s => .sbbGvEv sz d s
  | .and, sz, d, s => .andGvEv sz d s
  | .sub, sz, d, s => .subGvEv sz d s
  | .xor, sz, d, s => .xorGvEv sz d s
/-- op AL, ib -/
def Alu.alIb : Alu → Byte → Instr
  | .add, imm => .addAlIb imm
  | .or, imm => .orAlIb imm
  | .adc, imm => .adcAlIb imm
  | .sbb, imm => .sbbAlIb imm
  | .and, imm => .andAlIb imm
  | .sub, imm => .subAlIb imm
  | .xor, imm => .xorAlIb imm
/-- op eAX, iv -/
def Alu.axIv : Alu → Imm → Instr
  | .add, imm => .addAxIv imm
  | .or, imm => .orAxIv imm
  | .adc, imm => .adcAxIv imm
  | .sbb, imm => .sbbAxIv imm
  | .and, imm => .andAxIv imm
  | .sub, imm => .subAxIv imm
  | .xor, imm => .xorAxIv imm
/-- op r/m8, ib -/
def Alu.ebIb : Alu → RM8 → Byte → Instr
  | .add, d, imm => .addEbIb d imm
  | .or, d, imm => .orEbIb d imm
  | .adc, d, imm => .adcEbIb d imm
  | .sbb, d, imm => .sbbEbIb d imm
  | .and, d, imm => .andEbIb d imm
  | .sub, d, imm => .subEbIb d imm
  | .xor, d, imm => .xorEbIb d imm
/-- op r/mv, iv -/
def Alu.evIv : Alu → RMv → Imm → Instr
  | .add, d, imm => .addEvIv d imm
  | .or, d, imm => .orEvIv d imm
  | .adc, d, imm => .adcEvIv d imm
  | .sbb, d, imm => .sbbEvIv d imm
  | .and, d, imm => .andEvIv d imm
  | .sub, d, imm => .subEvIv d imm
  | .xor, d, imm => .xorEvIv d imm
/-- op r/mv, ib sign-extended -/
def Alu.evIbs : Alu → OSize → RMv → Byte → Instr
  | .add, sz, d, imm => .addEvIbs sz d imm
  | .or, sz, d, imm => .orEvIbs sz d imm
  | .adc, sz, d, imm => .adcEvIbs sz d imm
  | .sbb, sz, d, imm => .sbbEvIbs sz d imm
  | .and, sz, d, imm => .andEvIbs sz d imm
  | .sub, sz, d, imm => .subEvIbs sz d imm
  | .xor, sz, d, imm => .xorEvIbs sz d imm

/-- The seven shifts and rotates by CL, by group 2 number (R257). -/
inductive Shift | rol | ror | rcl | rcr | shl | shr | sar
deriving DecidableEq, Repr
/-- The shift numbered n; 6 is not named by the source. -/
def Shift.ofNum? (n : Nat) : Option Shift :=
  match n with
  | 0 => some .rol | 1 => some .ror | 2 => some .rcl | 3 => some .rcr | 4 => some .shl | 5 => some .shr
  | 7 => some .sar | _ => none
/-- op r/m8, CL -/
def Shift.ebCl : Shift → RM8 → Instr
  | .rol, d => .rolEbCl d
  | .ror, d => .rorEbCl d
  | .rcl, d => .rclEbCl d
  | .rcr, d => .rcrEbCl d
  | .shl, d => .shlEbCl d
  | .shr, d => .shrEbCl d
  | .sar, d => .sarEbCl d
/-- op r/mv, CL -/
def Shift.evCl : Shift → OSize → RMv → Instr
  | .rol, sz, d => .rolEvCl sz d
  | .ror, sz, d => .rorEvCl sz d
  | .rcl, sz, d => .rclEvCl sz d
  | .rcr, sz, d => .rcrEvCl sz d
  | .shl, sz, d => .shlEvCl sz d
  | .shr, sz, d => .shrEvCl sz d
  | .sar, sz, d => .sarEvCl sz d

/-- The refusal of an opcode the source does not name (R262). -/
def unnamed {α : Type} : Dec α := .refused

/-- `r/m8` with a byte register. -/
def ebGb (c : Ctx) (bs : List Byte) (f : RM8 → Reg8 → Instr) : Dec Instr :=
  modrm c.as Reg8.ofNum bs fun g e rest => .ok (f e (Reg8.ofNum g)) rest
/-- `r/mv` with a register. -/
def evGv (c : Ctx) (bs : List Byte) (f : RMv → Reg → Instr) : Dec Instr :=
  modrm c.as Reg.ofNum bs fun g e rest => .ok (f e (Reg.ofNum g)) rest
/-- `r/m8` alone, the reg field being an opcode extension. -/
def eb (c : Ctx) (bs : List Byte) (f : RM8 → Instr) : Dec Instr :=
  modrm c.as Reg8.ofNum bs fun _ e rest => .ok (f e) rest
/-- `r/mv` alone, the reg field being an opcode extension or ignored. -/
def ev (c : Ctx) (bs : List Byte) (f : RMv → Instr) : Dec Instr :=
  modrm c.as Reg.ofNum bs fun _ e rest => .ok (f e) rest
/-- `r/m8, ib`. -/
def ebIb (c : Ctx) (bs : List Byte) (f : RM8 → Byte → Instr) : Dec Instr :=
  modrm c.as Reg8.ofNum bs fun _ e rest => u8 rest fun i r2 => .ok (f e i) r2
/-- `r/mv, ib`. -/
def evIb (c : Ctx) (bs : List Byte) (f : RMv → Byte → Instr) : Dec Instr :=
  modrm c.as Reg.ofNum bs fun _ e rest => u8 rest fun i r2 => .ok (f e i) r2
/-- `r/mv, iv`. -/
def evIv (c : Ctx) (bs : List Byte) (f : RMv → Imm → Instr) : Dec Instr :=
  modrm c.as Reg.ofNum bs fun _ e rest => uImm c.os rest fun i r2 => .ok (f e i) r2
/-- A memory-only operand. -/
def m1 (c : Ctx) (bs : List Byte) (f : Mem → Instr) : Dec Instr :=
  memOnly c.as bs fun _ m rest => .ok (f m) rest

/-- Opcodes 00 to 3F whose low three bits are 0 to 5: the two-operand operation `op` (R255). -/
def decodeAlu (c : Ctx) (op : Alu) (lo : Nat) (bs : List Byte) : Dec Instr :=
  match lo with
  | 0 => ebGb c bs op.ebGb
  | 1 => evGv c bs (op.evGv c.os)
  | 2 => modrm c.as Reg8.ofNum bs fun g e rest => .ok (op.gbEb (Reg8.ofNum g) e) rest
  | 3 => modrm c.as Reg.ofNum bs fun g e rest => .ok (op.gvEv c.os (Reg.ofNum g) e) rest
  | 4 => u8 bs fun i rest => .ok (op.alIb i) rest
  | _ => uImm c.os bs fun i rest => .ok (op.axIv i) rest

/-- Opcodes 00 to 3F with low three bits 6 or 7: segment pushes and pops, segment prefixes (R241, R255). -/
def decodeSeg (c : Ctx) (op : Nat) (bs : List Byte) : Dec Instr :=
  match op with
  | 0x06 => .ok (.pushEs c.os) bs
  | 0x07 => .ok (.popEs c.os) bs
  | 0x0E => .ok (.pushCs c.os) bs
  | 0x16 => .ok (.pushSs c.os) bs
  | 0x17 => .ok (.popSs c.os) bs
  | 0x1E => .ok (.pushDs c.os) bs
  | 0x1F => .ok (.popDs c.os) bs
  | 0x26 => .ok .segEs bs
  | 0x2E => .ok .segCs bs
  | 0x36 => .ok .segSs bs
  | 0x3E => .ok .segDs bs
  | _ => unnamed

/-- Opcodes 60 to 6F (R255). -/
def decode6 (c : Ctx) (lo : Nat) (bs : List Byte) : Dec Instr :=
  match lo with
  | 0x0 => .ok (.pusha c.os) bs
  | 0x1 => .ok (.popa c.os) bs
  | 0x2 => memOnly c.as bs fun g m rest => .ok (.bound c.os (Reg.ofNum g) m) rest
  | 0x4 => .ok .segFs bs
  | 0x5 => .ok .segGs bs
  | 0x6 => .ok .opsize bs
  | 0x7 => .ok .adsize bs
  | 0x8 => uImm c.os bs fun i rest => .ok (.pushIv i) rest
  | 0xA => u8 bs fun i rest => .ok (.pushIbs c.os i) rest
  | 0xC => .ok (.insb c.as) bs
  | 0xD => .ok (.insv c.os c.as) bs
  | 0xE => .ok (.outsb c.as) bs
  | 0xF => .ok (.outsv c.os c.as) bs
  | _ => unnamed

/-- Group 1 (R257): `f` builds the instruction of operation `op`. -/
def group1 (bs : List Byte) (f : Alu → Dec Instr) : Dec Instr :=
  peek bs fun g =>
    match Alu.ofNum? g with
    | some op => f op
    | none => unnamed

/-- Opcodes 80 to 8F (R255, R257). -/
def decode8 (c : Ctx) (lo : Nat) (bs : List Byte) : Dec Instr :=
  match lo with
  | 0x0 => group1 bs fun op => ebIb c bs op.ebIb
  | 0x1 => group1 bs fun op => evIv c bs op.evIv
  | 0x3 => group1 bs fun op => evIb c bs (op.evIbs c.os)
  | 0x6 => ebGb c bs .xchgEbGb
  | 0x7 => evGv c bs (.xchgEvGv c.os)
  | 0x8 => ebGb c bs .movEbGb
  | 0x9 => evGv c bs (.movEvGv c.os)
  | 0xA => modrm c.as Reg8.ofNum bs fun g e rest => .ok (.movGbEb (Reg8.ofNum g) e) rest
  | 0xB => modrm c.as Reg.ofNum bs fun g e rest => .ok (.movGvEv c.os (Reg.ofNum g) e) rest
  | 0xC => modrm c.as Reg.ofNum bs fun g e rest =>
      match SegReg.ofNum? g with
      | some r => .ok (.movEwSw c.os e r) rest
      | none => .late .invalidOperand rest
  | 0xE => modrm c.as Reg.ofNum bs fun g e rest =>
      match SegReg.ofNum? g with
      | some .cs => .late .invalidOperand rest
      | some r => .ok (.movSwEw r e) rest
      | none => .late .invalidOperand rest
  | 0xF => peek bs fun g => if g = 0 then ev c bs (.popEv c.os) else .invalid
  | _ => unnamed

/-- 9B: WAIT, or FSAVE or FSTENV where no prefix precedes and the bytes after it are theirs (R264). -/
def decodeWait (c : Ctx) (bs : List Byte) : Dec Instr :=
  if c.bare then
    match bs with
    | [] => .soft
    | b :: rest =>
      if b = 0xDD#8 ∨ b = 0xD9#8 then
        match rest with
        | [] => .soft
        | m :: _ =>
          if m.hi2 ≠ 3 ∧ m.mid3 = 6 then
            match memOnly c.as rest (fun _ a r => .ok (if b = 0xDD#8 then .fsave c.os a else .fstenv c.os a) r) with
            | .ok i r => .ok i r
            | _ => .soft
          else .ok .wait bs
      else .ok .wait bs
  else .ok .wait bs

/-- Opcodes 90 to 9F (R255). -/
def decode9 (c : Ctx) (lo : Nat) (bs : List Byte) : Dec Instr :=
  match lo with
  | 0x0 => .ok .nop bs
  | 0x1 => .ok (.xchgAx c.os .ecx) bs
  | 0x2 => .ok (.xchgAx c.os .edx) bs
  | 0x3 => .ok (.xchgAx c.os .ebx) bs
  | 0x4 => .ok (.xchgAx c.os .esp) bs
  | 0x5 => .ok (.xchgAx c.os .ebp) bs
  | 0x6 => .ok (.xchgAx c.os .esi) bs
  | 0x7 => .ok (.xchgAx c.os .edi) bs
  | 0xA => uFar c.os bs fun p rest => .ok (.callPtr p) rest
  | 0xB => decodeWait c bs
  | 0xC => .ok (.pushf c.os) bs
  | 0xD => .ok (.popf c.os) bs
  | _ => unnamed

/-- Opcodes A0 to AF (R255). -/
def decodeA (c : Ctx) (lo : Nat) (bs : List Byte) : Dec Instr :=
  match lo with
  | 0x0 => uMoffs c.as bs fun o rest => .ok (.movAlOb o) rest
  | 0x1 => uMoffs c.as bs fun o rest => .ok (.movAxOv c.os o) rest
  | 0x2 => uMoffs c.as bs fun o rest => .ok (.movObAl o) rest
  | 0x3 => uMoffs c.as bs fun o rest => .ok (.movOvAx c.os o) rest
  | 0x4 => .ok (.movsb c.as) bs
  | 0x5 => .ok (.movsv c.os c.as) bs
  | 0xA => .ok (.stosb c.as) bs
  | 0xB => .ok (.stosv c.os c.as) bs
  | _ => unnamed

/-- Opcodes C0 to CF (R255). -/
def decodeC (c : Ctx) (lo : Nat) (bs : List Byte) : Dec Instr :=
  match lo with
  | 0x2 => u16 bs fun n rest => .ok (.retIw c.os n) rest
  | 0x3 => .ok (.ret c.os) bs
  | 0x6 => peek bs fun g => if g = 0 then ebIb c bs .movEbIb else .invalid
  | 0x7 => peek bs fun g => if g = 0 then evIv c bs .movEvIv else .invalid
  | 0xA => u16 bs fun n rest => .ok (.retfIw c.os n) rest
  | 0xB => .ok (.retf c.os) bs
  | 0xC => .ok .int3 bs
  | 0xD => u8 bs fun n rest => .ok (.intN n) rest
  | 0xE => .ok .into bs
  | 0xF => .ok (.iret c.os) bs
  | _ => unnamed

/-- Group 2 (R257). -/
def group2 (bs : List Byte) (f : Shift → Dec Instr) : Dec Instr :=
  peek bs fun g =>
    match Shift.ofNum? g with
    | some op => f op
    | none => unnamed

/-- The ESC class D8 to DF: the three named memory forms, else the generic class (R264, R401). -/
def decodeEsc (c : Ctx) (op : Bits3) (bs : List Byte) : Dec Instr :=
  modrm c.as MmReg.ofNum bs fun g e rest =>
    match e with
    | .reg r => .ok (.esc op (BitVec.ofNat 3 g) (.reg r)) rest
    | .mem m =>
      if op = 5#3 ∧ g = 6 then .ok (.fnsave c.os m) rest
      else if op = 5#3 ∧ g = 4 then .ok (.frstor c.os m) rest
      else if op = 1#3 ∧ g = 6 then .ok (.fnstenv c.os m) rest
      else .ok (.esc op (BitVec.ofNat 3 g) (.mem m)) rest

/-- Opcodes D0 to DF (R255, R257). -/
def decodeD (c : Ctx) (lo : Nat) (bs : List Byte) : Dec Instr :=
  match lo with
  | 0x2 => group2 bs fun op => eb c bs op.ebCl
  | 0x3 => group2 bs fun op => ev c bs (op.evCl c.os)
  | 0x7 => .ok (.xlat c.as) bs
  | 0x8 => decodeEsc c 0#3 bs
  | 0x9 => decodeEsc c 1#3 bs
  | 0xA => decodeEsc c 2#3 bs
  | 0xB => decodeEsc c 3#3 bs
  | 0xC => decodeEsc c 4#3 bs
  | 0xD => decodeEsc c 5#3 bs
  | 0xE => decodeEsc c 6#3 bs
  | 0xF => decodeEsc c 7#3 bs
  | _ => unnamed

/-- Opcodes E0 to EF (R255). -/
def decodeE (c : Ctx) (lo : Nat) (bs : List Byte) : Dec Instr :=
  match lo with
  | 0x0 => u8 bs fun d rest => .ok (.loopne c.os c.as d) rest
  | 0x1 => u8 bs fun d rest => .ok (.loope c.os c.as d) rest
  | 0x2 => u8 bs fun d rest => .ok (.loop c.os c.as d) rest
  | 0x4 => u8 bs fun p rest => .ok (.inAlIb p) rest
  | 0x5 => u8 bs fun p rest => .ok (.inAxIb c.os p) rest
  | 0x6 => u8 bs fun p rest => .ok (.outIbAl p) rest
  | 0x7 => u8 bs fun p rest => .ok (.outIbAx c.os p) rest
  | 0x8 => uImm c.os bs fun d rest => .ok (.callRel d) rest
  | 0x9 => uImm c.os bs fun d rest => .ok (.jmpRel d) rest
  | 0xA => uFar c.os bs fun p rest => .ok (.jmpPtr p) rest
  | 0xB => u8 bs fun d rest => .ok (.jmpRel8 c.os d) rest
  | 0xC => .ok .inAlDx bs
  | 0xD => .ok (.inAxDx c.os) bs
  | 0xE => .ok .outDxAl bs
  | 0xF => .ok (.outDxAx c.os) bs
  | _ => unnamed

/-- Opcodes F0 to FF (R255, R257). -/
def decodeF (c : Ctx) (lo : Nat) (bs : List Byte) : Dec Instr :=
  match lo with
  | 0x0 => .ok .lock bs
  | 0x2 => .ok .repne bs
  | 0x3 => .ok .rep bs
  | 0x4 => .ok .hlt bs
  | 0x6 => peek bs fun g =>
      match g with
      | 2 => eb c bs .notEb
      | 3 => eb c bs .negEb
      | 4 => eb c bs .mulEb
      | 5 => eb c bs .imulEb
      | 6 => eb c bs .divEb
      | 7 => eb c bs .idivEb
      | _ => unnamed
  | 0x7 => peek bs fun g =>
      match g with
      | 2 => ev c bs (.notEv c.os)
      | 3 => ev c bs (.negEv c.os)
      | 4 => ev c bs (.mulEv c.os)
      | 5 => ev c bs (.imulEv c.os)
      | 6 => ev c bs (.divEv c.os)
      | 7 => ev c bs (.idivEv c.os)
      | _ => unnamed
  | 0xA => .ok .cli bs
  | 0xB => .ok .sti bs
  | 0xE => peek bs fun g =>
      match g with
      | 0 => eb c bs .incEb
      | 1 => eb c bs .decEb
      | _ => .invalid
  | 0xF => peek bs fun g =>
      match g with
      | 0 => ev c bs (.incEv c.os)
      | 1 => ev c bs (.decEv c.os)
      | 2 => ev c bs (.callEv c.os)
      | 3 => m1 c bs (.callMp c.os)
      | 4 => ev c bs (.jmpEv c.os)
      | 5 => m1 c bs (.jmpMp c.os)
      | 6 => ev c bs (.pushEv c.os)
      | _ => .invalid
  | _ => unnamed

/-- A save or restore of a segment register: sreg3 6 and 7 are invalid, memory only (R258, R461). -/
def memSreg (c : Ctx) (bs : List Byte) (f : Mem → SegReg → Instr) : Dec Instr :=
  memOnly c.as bs fun g m rest =>
    match SegReg.ofNum? g with
    | some r => .ok (f m r) rest
    | none => .late .invalidOperand rest

/-- SVLDT, RSLDT, SVTS, RSTS: memory only, and the reg field is 000 (R258 f, R463 to R466). -/
def mem80 (c : Ctx) (bs : List Byte) (f : Mem → Instr) : Dec Instr :=
  memOnly c.as bs fun g m rest => if g = 0 then .ok (f m) rest else .late .reservedRegField rest

/-- A move between a general register and a special register: reg numbers the special one, mod is ignored (R259). -/
def special (bs : List Byte) (f : Bits3 → Reg → Instr) : Dec Instr :=
  u8 bs fun b rest => .ok (f (BitVec.ofNat 3 b.mid3) (Reg.ofNum b.lo3)) rest

/-- 0F 00 to 0F 3F (R256). -/
def decode0Flow (c : Ctx) (b : Nat) (bs : List Byte) : Dec Instr :=
  match b with
  | 0x00 => peek bs fun g =>
      match g with
      | 0 => ev c bs (.sldt c.os)
      | 1 => ev c bs (.str c.os)
      | 2 => ev c bs .lldt
      | 3 => ev c bs .ltr
      | _ => unnamed
  | 0x01 => peek bs fun g =>
      match g with
      | 0 => m1 c bs (.sgdt c.os)
      | 1 => m1 c bs (.sidt c.os)
      | 2 => m1 c bs (.lgdt c.os)
      | 3 => m1 c bs (.lidt c.os)
      | 7 => m1 c bs .invlpg
      | _ => unnamed
  | 0x08 => .ok .invd bs
  | 0x09 => .ok .wbinvd bs
  | 0x20 => special bs fun n r => .movRCr r n
  | 0x21 => special bs fun n r => .movRDr r n
  | 0x22 => special bs .movCrR
  | 0x23 => special bs .movDrR
  | 0x24 => special bs fun n r => .movRTr r n
  | 0x26 => special bs .movTrR
  | 0x30 => .ok .wrmsr bs
  | 0x31 => .ok .rdtsc bs
  | 0x32 => .ok .rdmsr bs
  | 0x33 => .ok .rdpmc bs
  | 0x36 => ev c bs .rdshr
  | 0x37 => ev c bs .wrshr
  | 0x38 => .ok .smint bs
  | _ => unnamed

/-- 0F 60 to 0F 7F (R256). -/
def decode0Fmid (c : Ctx) (b : Nat) (bs : List Byte) : Dec Instr :=
  match b with
  | 0x6E => modrm c.as Reg.ofNum bs fun g e rest => .ok (.movdPE (MmReg.ofNum g) e) rest
  | 0x6F => modrm c.as MmReg.ofNum bs fun g e rest => .ok (.movqPQ (MmReg.ofNum g) e) rest
  | 0x77 => .ok .emms bs
  | 0x78 => memSreg c bs .svdc
  | 0x79 => memSreg c bs fun m r => .rsdc r m
  | 0x7A => mem80 c bs .svldt
  | 0x7B => mem80 c bs .rsldt
  | 0x7C => mem80 c bs .svts
  | 0x7D => mem80 c bs .rsts
  | 0x7E => modrm c.as Reg.ofNum bs fun g e rest => .ok (.movdEP e (MmReg.ofNum g)) rest
  | 0x7F => modrm c.as MmReg.ofNum bs fun g e rest => .ok (.movqQP e (MmReg.ofNum g)) rest
  | _ => unnamed

/-- 0F A0 to 0F FF (R256, group 8). -/
def decode0Fhigh (c : Ctx) (b : Nat) (bs : List Byte) : Dec Instr :=
  match b with
  | 0xA0 => .ok (.pushFs c.os) bs
  | 0xA1 => .ok (.popFs c.os) bs
  | 0xA2 => .ok .cpuid bs
  | 0xA8 => .ok (.pushGs c.os) bs
  | 0xA9 => .ok (.popGs c.os) bs
  | 0xAA => .ok .rsm bs
  | 0xAB => evGv c bs (.btsEvGv c.os)
  | 0xB0 => ebGb c bs .cmpxchgEbGb
  | 0xB1 => evGv c bs (.cmpxchgEvGv c.os)
  | 0xB3 => evGv c bs (.btrEvGv c.os)
  | 0xBA => peek bs fun g =>
      match g with
      | 4 => unnamed
      | 5 => evIb c bs (.btsEvIb c.os)
      | 6 => evIb c bs (.btrEvIb c.os)
      | 7 => evIb c bs (.btcEvIb c.os)
      | _ => .invalid
  | 0xBB => evGv c bs (.btcEvGv c.os)
  | 0xC0 => ebGb c bs .xaddEbGb
  | 0xC1 => evGv c bs (.xaddEvGv c.os)
  | _ => unnamed

/-- The two-byte opcodes (R256). -/
def decode0F (c : Ctx) (b : Nat) (bs : List Byte) : Dec Instr :=
  if b < 0x40 then decode0Flow c b bs
  else if b < 0x80 then decode0Fmid c b bs
  else decode0Fhigh c b bs

/-- Opcodes 00 to 3F (R255). -/
def decodeLow (c : Ctx) (op : Nat) (bs : List Byte) : Dec Instr :=
  if op = 0x0F then u8 bs fun b rest => decode0F c b.toNat rest
  else if op % 8 < 6 then
    match Alu.ofNum? (op / 8) with
    | some a => decodeAlu c a (op % 8) bs
    | none => unnamed
  else decodeSeg c op bs

/-- The one-byte opcode map (R255). -/
def decodeOp (c : Ctx) (op : Nat) (bs : List Byte) : Dec Instr :=
  match op / 16 with
  | 0 => decodeLow c op bs
  | 1 => decodeLow c op bs
  | 2 => decodeLow c op bs
  | 3 => decodeLow c op bs
  | 4 => if op % 16 < 8 then .ok (.incR c.os (Reg.ofNum (op % 8))) bs else .ok (.decR c.os (Reg.ofNum (op % 8))) bs
  | 5 => if op % 16 < 8 then .ok (.pushR c.os (Reg.ofNum (op % 8))) bs else .ok (.popR c.os (Reg.ofNum (op % 8))) bs
  | 6 => decode6 c (op % 16) bs
  | 7 => unnamed
  | 8 => decode8 c (op % 16) bs
  | 9 => decode9 c (op % 16) bs
  | 10 => decodeA c (op % 16) bs
  | 11 =>
    if op % 16 < 8 then u8 bs fun i rest => .ok (.movRIb (Reg8.ofNum (op % 8)) i) rest
    else uImm c.os bs fun i rest => .ok (.movRIv (Reg.ofNum (op % 8)) i) rest
  | 12 => decodeC c (op % 16) bs
  | 13 => decodeD c (op % 16) bs
  | 14 => decodeE c (op % 16) bs
  | _ => decodeF c (op % 16) bs

/-- Decode one instruction, or one prefix, at the front of the bytes (R261). -/
def decode (c : Ctx) (bs : List Byte) : Dec Instr :=
  u8 bs fun b rest => decodeOp c b.toNat rest

/-! The encoder. -/

/-- A ModR/M or SIB byte of its three fields (R247, R248). -/
def fieldsByte (hi : BitVec 2) (mid lo : Bits3) : Byte := hi ++ mid ++ lo
/-- The bytes of a word, low byte first (R250). -/
def le16 (v : Word16) : List Byte := [v.extractLsb' 0 8, v.extractLsb' 8 8]
/-- The bytes of a doubleword, low byte first (R250). -/
def le32 (v : Word) : List Byte :=
  [v.extractLsb' 0 8, v.extractLsb' 8 8, v.extractLsb' 16 8, v.extractLsb' 24 8]
/-- The bytes of an immediate. -/
def Imm.enc : Imm → List Byte
  | .i16 v => le16 v
  | .i32 v => le32 v
/-- The bytes of a moffs operand. -/
def Moffs.enc : Moffs → List Byte
  | .o16 v => le16 v
  | .o32 v => le32 v
/-- The bytes of a far pointer: offset, then selector (R252). -/
def FarPtr.enc (p : FarPtr) : List Byte := p.off.enc ++ le16 p.sel
/-- The SIB index field; 100 for none. -/
def sibIndexNum : Option Reg → Bits3
  | none => 4#3
  | some r => r.num
/-- ModR/M, SIB and displacement of a memory operand with reg field `g` (R247 to R249). -/
def Mem.enc (g : Bits3) : Mem → List Byte
  | .m16 b .none => [fieldsByte 0#2 g b.num]
  | .m16 b (.d8 d) => [fieldsByte 1#2 g b.num, d]
  | .m16 b (.d16 d) => fieldsByte 2#2 g b.num :: le16 d
  | .direct16 d => fieldsByte 0#2 g 6#3 :: le16 d
  | .m32 b .none => [fieldsByte 0#2 g b.num]
  | .m32 b (.d8 d) => [fieldsByte 1#2 g b.num, d]
  | .m32 b (.d32 d) => fieldsByte 2#2 g b.num :: le32 d
  | .direct32 d => fieldsByte 0#2 g 5#3 :: le32 d
  | .sib b i sc .none => [fieldsByte 0#2 g 4#3, fieldsByte sc.num (sibIndexNum i) b.num]
  | .sib b i sc (.d8 d) => [fieldsByte 1#2 g 4#3, fieldsByte sc.num (sibIndexNum i) b.num, d]
  | .sib b i sc (.d32 d) => fieldsByte 2#2 g 4#3 :: fieldsByte sc.num (sibIndexNum i) b.num :: le32 d
  | .sibNoBase i sc d => fieldsByte 0#2 g 4#3 :: fieldsByte sc.num (sibIndexNum i) 5#3 :: le32 d
/-- ModR/M and what follows it for an r/m8 operand. -/
def encRM8 (g : Bits3) : RM8 → List Byte
  | .reg r => [fieldsByte 3#2 g r.num]
  | .mem m => m.enc g
/-- ModR/M and what follows it for an r/mv operand. -/
def encRMv (g : Bits3) : RMv → List Byte
  | .reg r => [fieldsByte 3#2 g r.num]
  | .mem m => m.enc g
/-- ModR/M and what follows it for an mm/m64 operand. -/
def encRMmm (g : Bits3) : RMmm → List Byte
  | .reg r => [fieldsByte 3#2 g r.num]
  | .mem m => m.enc g

/-- The bytes of an instruction, prefixes excluded (R240, R255 to R257). Fields the hardware ignores are written 0
(the reg field of RDSHR and WRSHR) or 11 (the mod field of the special register moves). -/
def encode : Instr → List Byte
  | .segEs => [0x26#8]
  | .segCs => [0x2E#8]
  | .segSs => [0x36#8]
  | .segDs => [0x3E#8]
  | .segFs => [0x64#8]
  | .segGs => [0x65#8]
  | .opsize => [0x66#8]
  | .adsize => [0x67#8]
  | .lock => [0xF0#8]
  | .repne => [0xF2#8]
  | .rep => [0xF3#8]
  | .addEbGb d s => 0x00#8 :: encRM8 s.num d
  | .addEvGv _ d s => 0x01#8 :: encRMv s.num d
  | .addGbEb d s => 0x02#8 :: encRM8 d.num s
  | .addGvEv _ d s => 0x03#8 :: encRMv d.num s
  | .addAlIb imm => [0x04#8, imm]
  | .addAxIv imm => 0x05#8 :: imm.enc
  | .orEbGb d s => 0x08#8 :: encRM8 s.num d
  | .orEvGv _ d s => 0x09#8 :: encRMv s.num d
  | .orGbEb d s => 0x0A#8 :: encRM8 d.num s
  | .orGvEv _ d s => 0x0B#8 :: encRMv d.num s
  | .orAlIb imm => [0x0C#8, imm]
  | .orAxIv imm => 0x0D#8 :: imm.enc
  | .adcEbGb d s => 0x10#8 :: encRM8 s.num d
  | .adcEvGv _ d s => 0x11#8 :: encRMv s.num d
  | .adcGbEb d s => 0x12#8 :: encRM8 d.num s
  | .adcGvEv _ d s => 0x13#8 :: encRMv d.num s
  | .adcAlIb imm => [0x14#8, imm]
  | .adcAxIv imm => 0x15#8 :: imm.enc
  | .sbbEbGb d s => 0x18#8 :: encRM8 s.num d
  | .sbbEvGv _ d s => 0x19#8 :: encRMv s.num d
  | .sbbGbEb d s => 0x1A#8 :: encRM8 d.num s
  | .sbbGvEv _ d s => 0x1B#8 :: encRMv d.num s
  | .sbbAlIb imm => [0x1C#8, imm]
  | .sbbAxIv imm => 0x1D#8 :: imm.enc
  | .andEbGb d s => 0x20#8 :: encRM8 s.num d
  | .andEvGv _ d s => 0x21#8 :: encRMv s.num d
  | .andGbEb d s => 0x22#8 :: encRM8 d.num s
  | .andGvEv _ d s => 0x23#8 :: encRMv d.num s
  | .andAlIb imm => [0x24#8, imm]
  | .andAxIv imm => 0x25#8 :: imm.enc
  | .subEbGb d s => 0x28#8 :: encRM8 s.num d
  | .subEvGv _ d s => 0x29#8 :: encRMv s.num d
  | .subGbEb d s => 0x2A#8 :: encRM8 d.num s
  | .subGvEv _ d s => 0x2B#8 :: encRMv d.num s
  | .subAlIb imm => [0x2C#8, imm]
  | .subAxIv imm => 0x2D#8 :: imm.enc
  | .xorEbGb d s => 0x30#8 :: encRM8 s.num d
  | .xorEvGv _ d s => 0x31#8 :: encRMv s.num d
  | .xorGbEb d s => 0x32#8 :: encRM8 d.num s
  | .xorGvEv _ d s => 0x33#8 :: encRMv d.num s
  | .xorAlIb imm => [0x34#8, imm]
  | .xorAxIv imm => 0x35#8 :: imm.enc
  | .addEbIb d imm => 0x80#8 :: (encRM8 0#3 d ++ [imm])
  | .addEvIv d imm => 0x81#8 :: (encRMv 0#3 d ++ imm.enc)
  | .addEvIbs _ d imm => 0x83#8 :: (encRMv 0#3 d ++ [imm])
  | .orEbIb d imm => 0x80#8 :: (encRM8 1#3 d ++ [imm])
  | .orEvIv d imm => 0x81#8 :: (encRMv 1#3 d ++ imm.enc)
  | .orEvIbs _ d imm => 0x83#8 :: (encRMv 1#3 d ++ [imm])
  | .adcEbIb d imm => 0x80#8 :: (encRM8 2#3 d ++ [imm])
  | .adcEvIv d imm => 0x81#8 :: (encRMv 2#3 d ++ imm.enc)
  | .adcEvIbs _ d imm => 0x83#8 :: (encRMv 2#3 d ++ [imm])
  | .sbbEbIb d imm => 0x80#8 :: (encRM8 3#3 d ++ [imm])
  | .sbbEvIv d imm => 0x81#8 :: (encRMv 3#3 d ++ imm.enc)
  | .sbbEvIbs _ d imm => 0x83#8 :: (encRMv 3#3 d ++ [imm])
  | .andEbIb d imm => 0x80#8 :: (encRM8 4#3 d ++ [imm])
  | .andEvIv d imm => 0x81#8 :: (encRMv 4#3 d ++ imm.enc)
  | .andEvIbs _ d imm => 0x83#8 :: (encRMv 4#3 d ++ [imm])
  | .subEbIb d imm => 0x80#8 :: (encRM8 5#3 d ++ [imm])
  | .subEvIv d imm => 0x81#8 :: (encRMv 5#3 d ++ imm.enc)
  | .subEvIbs _ d imm => 0x83#8 :: (encRMv 5#3 d ++ [imm])
  | .xorEbIb d imm => 0x80#8 :: (encRM8 6#3 d ++ [imm])
  | .xorEvIv d imm => 0x81#8 :: (encRMv 6#3 d ++ imm.enc)
  | .xorEvIbs _ d imm => 0x83#8 :: (encRMv 6#3 d ++ [imm])
  | .pushEs _ => [0x06#8]
  | .pushCs _ => [0x0E#8]
  | .pushSs _ => [0x16#8]
  | .pushDs _ => [0x1E#8]
  | .popEs _ => [0x07#8]
  | .popSs _ => [0x17#8]
  | .popDs _ => [0x1F#8]
  | .incR _ r => [fieldsByte 1#2 0#3 r.num]
  | .decR _ r => [fieldsByte 1#2 1#3 r.num]
  | .pushR _ r => [fieldsByte 1#2 2#3 r.num]
  | .popR _ r => [fieldsByte 1#2 3#3 r.num]
  | .pusha _ => [0x60#8]
  | .popa _ => [0x61#8]
  | .bound _ r m => 0x62#8 :: m.enc r.num
  | .pushIv imm => 0x68#8 :: imm.enc
  | .pushIbs _ imm => [0x6A#8, imm]
  | .insb _ => [0x6C#8]
  | .insv _ _ => [0x6D#8]
  | .outsb _ => [0x6E#8]
  | .outsv _ _ => [0x6F#8]
  | .xchgEbGb d s => 0x86#8 :: encRM8 s.num d
  | .xchgEvGv _ d s => 0x87#8 :: encRMv s.num d
  | .movEbGb d s => 0x88#8 :: encRM8 s.num d
  | .movEvGv _ d s => 0x89#8 :: encRMv s.num d
  | .movGbEb d s => 0x8A#8 :: encRM8 d.num s
  | .movGvEv _ d s => 0x8B#8 :: encRMv d.num s
  | .movEwSw _ d s => 0x8C#8 :: encRMv s.num d
  | .movSwEw d s => 0x8E#8 :: encRMv d.num s
  | .popEv _ d => 0x8F#8 :: encRMv 0#3 d
  | .nop => [0x90#8]
  | .xchgAx _ r => [fieldsByte 2#2 2#3 r.num]
  | .callPtr p => 0x9A#8 :: p.enc
  | .fsave _ m => 0x9B#8 :: 0xDD#8 :: m.enc 6#3
  | .fstenv _ m => 0x9B#8 :: 0xD9#8 :: m.enc 6#3
  | .wait => [0x9B#8]
  | .pushf _ => [0x9C#8]
  | .popf _ => [0x9D#8]
  | .movAlOb o => 0xA0#8 :: o.enc
  | .movAxOv _ o => 0xA1#8 :: o.enc
  | .movObAl o => 0xA2#8 :: o.enc
  | .movOvAx _ o => 0xA3#8 :: o.enc
  | .movsb _ => [0xA4#8]
  | .movsv _ _ => [0xA5#8]
  | .stosb _ => [0xAA#8]
  | .stosv _ _ => [0xAB#8]
  | .movRIb r imm => [fieldsByte 2#2 6#3 r.num, imm]
  | .movRIv r imm => fieldsByte 2#2 7#3 r.num :: imm.enc
  | .retIw _ n => 0xC2#8 :: le16 n
  | .ret _ => [0xC3#8]
  | .movEbIb d imm => 0xC6#8 :: (encRM8 0#3 d ++ [imm])
  | .movEvIv d imm => 0xC7#8 :: (encRMv 0#3 d ++ imm.enc)
  | .retfIw _ n => 0xCA#8 :: le16 n
  | .retf _ => [0xCB#8]
  | .int3 => [0xCC#8]
  | .intN n => [0xCD#8, n]
  | .into => [0xCE#8]
  | .iret _ => [0xCF#8]
  | .rolEbCl d => 0xD2#8 :: encRM8 0#3 d
  | .rolEvCl _ d => 0xD3#8 :: encRMv 0#3 d
  | .rorEbCl d => 0xD2#8 :: encRM8 1#3 d
  | .rorEvCl _ d => 0xD3#8 :: encRMv 1#3 d
  | .rclEbCl d => 0xD2#8 :: encRM8 2#3 d
  | .rclEvCl _ d => 0xD3#8 :: encRMv 2#3 d
  | .rcrEbCl d => 0xD2#8 :: encRM8 3#3 d
  | .rcrEvCl _ d => 0xD3#8 :: encRMv 3#3 d
  | .shlEbCl d => 0xD2#8 :: encRM8 4#3 d
  | .shlEvCl _ d => 0xD3#8 :: encRMv 4#3 d
  | .shrEbCl d => 0xD2#8 :: encRM8 5#3 d
  | .shrEvCl _ d => 0xD3#8 :: encRMv 5#3 d
  | .sarEbCl d => 0xD2#8 :: encRM8 7#3 d
  | .sarEvCl _ d => 0xD3#8 :: encRMv 7#3 d
  | .xlat _ => [0xD7#8]
  | .fnsave _ m => 0xDD#8 :: m.enc 6#3
  | .frstor _ m => 0xDD#8 :: m.enc 4#3
  | .fnstenv _ m => 0xD9#8 :: m.enc 6#3
  | .esc op ext rm => fieldsByte 3#2 3#3 op :: encRMmm ext rm
  | .loopne _ _ rel => [0xE0#8, rel]
  | .loope _ _ rel => [0xE1#8, rel]
  | .loop _ _ rel => [0xE2#8, rel]
  | .inAlIb p => [0xE4#8, p]
  | .inAxIb _ p => [0xE5#8, p]
  | .outIbAl p => [0xE6#8, p]
  | .outIbAx _ p => [0xE7#8, p]
  | .callRel rel => 0xE8#8 :: rel.enc
  | .jmpRel rel => 0xE9#8 :: rel.enc
  | .jmpPtr p => 0xEA#8 :: p.enc
  | .jmpRel8 _ rel => [0xEB#8, rel]
  | .inAlDx => [0xEC#8]
  | .inAxDx _ => [0xED#8]
  | .outDxAl => [0xEE#8]
  | .outDxAx _ => [0xEF#8]
  | .hlt => [0xF4#8]
  | .notEb d => 0xF6#8 :: encRM8 2#3 d
  | .notEv _ d => 0xF7#8 :: encRMv 2#3 d
  | .negEb d => 0xF6#8 :: encRM8 3#3 d
  | .negEv _ d => 0xF7#8 :: encRMv 3#3 d
  | .mulEb d => 0xF6#8 :: encRM8 4#3 d
  | .mulEv _ d => 0xF7#8 :: encRMv 4#3 d
  | .imulEb d => 0xF6#8 :: encRM8 5#3 d
  | .imulEv _ d => 0xF7#8 :: encRMv 5#3 d
  | .divEb d => 0xF6#8 :: encRM8 6#3 d
  | .divEv _ d => 0xF7#8 :: encRMv 6#3 d
  | .idivEb d => 0xF6#8 :: encRM8 7#3 d
  | .idivEv _ d => 0xF7#8 :: encRMv 7#3 d
  | .cli => [0xFA#8]
  | .sti => [0xFB#8]
  | .incEb d => 0xFE#8 :: encRM8 0#3 d
  | .decEb d => 0xFE#8 :: encRM8 1#3 d
  | .incEv _ d => 0xFF#8 :: encRMv 0#3 d
  | .decEv _ d => 0xFF#8 :: encRMv 1#3 d
  | .callEv _ d => 0xFF#8 :: encRMv 2#3 d
  | .callMp _ m => 0xFF#8 :: m.enc 3#3
  | .jmpEv _ d => 0xFF#8 :: encRMv 4#3 d
  | .jmpMp _ m => 0xFF#8 :: m.enc 5#3
  | .pushEv _ d => 0xFF#8 :: encRMv 6#3 d
  | .sldt _ d => 0x0F#8 :: 0x00#8 :: encRMv 0#3 d
  | .str _ d => 0x0F#8 :: 0x00#8 :: encRMv 1#3 d
  | .lldt s => 0x0F#8 :: 0x00#8 :: encRMv 2#3 s
  | .ltr s => 0x0F#8 :: 0x00#8 :: encRMv 3#3 s
  | .sgdt _ m => 0x0F#8 :: 0x01#8 :: m.enc 0#3
  | .sidt _ m => 0x0F#8 :: 0x01#8 :: m.enc 1#3
  | .lgdt _ m => 0x0F#8 :: 0x01#8 :: m.enc 2#3
  | .lidt _ m => 0x0F#8 :: 0x01#8 :: m.enc 3#3
  | .invlpg m => 0x0F#8 :: 0x01#8 :: m.enc 7#3
  | .invd => [0x0F#8, 0x08#8]
  | .wbinvd => [0x0F#8, 0x09#8]
  | .movRCr r n => 0x0F#8 :: 0x20#8 :: [fieldsByte 3#2 n r.num]
  | .movRDr r n => 0x0F#8 :: 0x21#8 :: [fieldsByte 3#2 n r.num]
  | .movCrR n r => 0x0F#8 :: 0x22#8 :: [fieldsByte 3#2 n r.num]
  | .movDrR n r => 0x0F#8 :: 0x23#8 :: [fieldsByte 3#2 n r.num]
  | .movRTr r n => 0x0F#8 :: 0x24#8 :: [fieldsByte 3#2 n r.num]
  | .movTrR n r => 0x0F#8 :: 0x26#8 :: [fieldsByte 3#2 n r.num]
  | .wrmsr => [0x0F#8, 0x30#8]
  | .rdtsc => [0x0F#8, 0x31#8]
  | .rdmsr => [0x0F#8, 0x32#8]
  | .rdpmc => [0x0F#8, 0x33#8]
  | .rdshr d => 0x0F#8 :: 0x36#8 :: encRMv 0#3 d
  | .wrshr s => 0x0F#8 :: 0x37#8 :: encRMv 0#3 s
  | .smint => [0x0F#8, 0x38#8]
  | .movdPE d s => 0x0F#8 :: 0x6E#8 :: encRMv d.num s
  | .movqPQ d s => 0x0F#8 :: 0x6F#8 :: encRMmm d.num s
  | .emms => [0x0F#8, 0x77#8]
  | .svdc m s => 0x0F#8 :: 0x78#8 :: m.enc s.num
  | .rsdc d m => 0x0F#8 :: 0x79#8 :: m.enc d.num
  | .svldt m => 0x0F#8 :: 0x7A#8 :: m.enc 0#3
  | .rsldt m => 0x0F#8 :: 0x7B#8 :: m.enc 0#3
  | .svts m => 0x0F#8 :: 0x7C#8 :: m.enc 0#3
  | .rsts m => 0x0F#8 :: 0x7D#8 :: m.enc 0#3
  | .movdEP d s => 0x0F#8 :: 0x7E#8 :: encRMv s.num d
  | .movqQP d s => 0x0F#8 :: 0x7F#8 :: encRMmm s.num d
  | .pushFs _ => [0x0F#8, 0xA0#8]
  | .popFs _ => [0x0F#8, 0xA1#8]
  | .cpuid => [0x0F#8, 0xA2#8]
  | .pushGs _ => [0x0F#8, 0xA8#8]
  | .popGs _ => [0x0F#8, 0xA9#8]
  | .rsm => [0x0F#8, 0xAA#8]
  | .btsEvGv _ d s => 0x0F#8 :: 0xAB#8 :: encRMv s.num d
  | .cmpxchgEbGb d s => 0x0F#8 :: 0xB0#8 :: encRM8 s.num d
  | .cmpxchgEvGv _ d s => 0x0F#8 :: 0xB1#8 :: encRMv s.num d
  | .btrEvGv _ d s => 0x0F#8 :: 0xB3#8 :: encRMv s.num d
  | .btsEvIb _ d imm => 0x0F#8 :: 0xBA#8 :: (encRMv 5#3 d ++ [imm])
  | .btrEvIb _ d imm => 0x0F#8 :: 0xBA#8 :: (encRMv 6#3 d ++ [imm])
  | .btcEvIb _ d imm => 0x0F#8 :: 0xBA#8 :: (encRMv 7#3 d ++ [imm])
  | .btcEvGv _ d s => 0x0F#8 :: 0xBB#8 :: encRMv s.num d
  | .xaddEbGb d s => 0x0F#8 :: 0xC0#8 :: encRM8 s.num d
  | .xaddEvGv _ d s => 0x0F#8 :: 0xC1#8 :: encRMv s.num d

/-- FSAVE and FSTENV are read as one instruction only where no prefix precedes them; WAIT alone, whatever bytes follow it,
only where one does (R264). -/
def Ctx.bareFits (c : Ctx) : Instr → Bool
  | .fsave _ _ => c.bare
  | .fstenv _ _ => c.bare
  | .wait => !c.bare
  | _ => true

/-- The context fits an instruction: the operand size and address size are those its operands imply. -/
def Ctx.fits (c : Ctx) (i : Instr) : Bool :=
  (i.osize? == none || i.osize? == some c.os) && (i.asize? == none || i.asize? == some c.as) && c.bareFits i

/-- The bytes of the low `n` bytes of w, bit 0 of w in the first byte. -/
def bytesOf (n w : Nat) : List Byte :=
  match n with
  | 0 => []
  | k + 1 => BitVec.ofNat 8 w :: bytesOf k (w / 256)

/-- The bytes of a table word: `nbits` bits of it, zeros above, up to the longest instruction (R254: 15 bytes). -/
def tableBytes (nbits w : Nat) : List Byte := bytesOf 15 (w % 2 ^ nbits)

/-- The context of 16-bit code without prefixes, as after reset (R243). -/
def ctx16 : Ctx := ⟨.w16, .a16, true⟩

/-- The instruction the decoder reads from an instruction's bits numbered as the opcode table numbers them. -/
def decodeTableWord (nbits w : Nat) : Option Instr :=
  match decode ctx16 (tableBytes nbits w) with
  | .ok i _ => some i
  | _ => none

end Sys2Proof
end

