-- ==== Sys2Proof/Config.lean ====
section
/-! DEFINITION. The free values: opaque constants without a body, so that nothing can be proved of what the spec leaves
undefined (`undefined_N`, R10), and the parameters of R8 that are functions. Its other parameters are plain data, in
`Machine.Part`. -/
namespace Sys2Proof.Config
open Sys2Proof

/-- The n-th free bit (`undefined_1`). -/
opaque freeBit : Nat → Bool
/-- The n-th free doubleword (`undefined_32`; narrower draws use its low bits). -/
opaque freeWord : Nat → Word
/-- The n-th free choice among several behaviours (a number, taken modulo the number of choices). -/
opaque freeChoice : Nat → Nat
/-- IO_PLATFORM (R8, R143): what the n-th read of an external port answers. -/
opaque ioRead : Nat → Word16 → Word
/-- CPUID_RESULT (R8, R443, U24): EAX, EBX, ECX and EDX for each input EAX. -/
opaque cpuid : Word → Word × Word × Word × Word
/-- What the n-th step reads at a physical address where PHYS_MEM has nothing (R8, R156). -/
opaque absentByte : Nat → Word → Byte
/-- What EAX holds after a self-test that failed is one more than this, modulo 2^32 - 1 (R642: a non-zero value the source
does not give). -/
opaque selfTestFailure : Nat
/-- Whether the store of the abandoned instruction to an address had reached memory when RESET came (R640). -/
opaque storeDone : Nat → Nat → Bool
/-- The core clocks of the n-th step beyond the one that is certain (R600, D29). -/
opaque tscTick : Nat → Nat
/-- The events of the numbered kind that counter `i` sees in the n-th step (R602). -/
opaque pmcEvents : Nat → Nat → BitVec 7 → Nat

end Sys2Proof.Config
end

