-- ==== Sys2Proof/Machine/State.lean ====
section
/-! DEFINITION. State: every piece of state the spec gives the machine, as plain data (10_state.md, 11_config_registers.md,
20_memory.md, 21_translation.md, 61_smm.md, 62_debug_counters_power.md), the reasons a step can stop, and the state
after reset (70_reset_and_hazards.md R642). -/
namespace Sys2Proof.Machine
open Sys2Proof

/-- Faults of the model itself. Every exception of the machine is delivered and is a next state, and all 2^32 physical
addresses exist (R140), so the spec gives no stop of this kind but one. -/
inductive Fault
  /-- Raised by exception delivery (Ops.deliverAll) when delivery never ends: the stack of the handler is misaligned with
  alignment checking on at level 3, so that every delivery raises #AC, which R491 has delivered in turn, without end. The
  machine then never reaches a handler; the model says so after 8 deliveries. Safe. -/
  | deliveryLoop
deriving DecidableEq, Repr

/-- Refusals: behaviour the spec itself puts outside the specification (92_eei_decisions.md, 93_implementation_defined.md). -/
inductive Refusal
  /-- An arm of exec without a meaning, by its mnemonic. Raised by exec only. Safe. -/
  | notModelled (mnemonic : String)
  /-- An opcode the source does not name (R262, D27). Raised by step. Safe. -/
  | unnamedOpcode
  /-- Non-zero reg field of SVLDT, RSLDT, SVTS, RSTS, where they are allowed (R259, U20, R460). Raised by step. Safe. -/
  | reservedRegField
  /-- REP or REPNE before an instruction other than MOVS, STOS, INS, OUTS, and REPNE always (R242, D26). Raised by step. Safe. -/
  | repMisuse
  /-- A task switch: TSS selector, or IRET with NT = 1 (R202, D21). Raised by far transfers and IRET. Safe. -/
  | taskSwitch
  /-- A transfer through a call gate (D21). Raised by far CALL and JMP. Safe. -/
  | callGate
  /-- A task gate (D21). Raised by far transfers and interrupt delivery. Safe. -/
  | taskGate
  /-- A write that changes a reserved bit of CR0 or sets one of CR4 (R37, D15, U8). Raised by MOV to CR. Safe. -/
  | reservedControlBits
  /-- MOV to or from DR4 or DR5 (R45, D16). Safe. -/
  | debugRegister45
  /-- SVDC with CS (R461, U26). Safe. -/
  | svdcCs
  /-- SMINT inside an SMI service routine without nesting enabled (R467, U27). Safe. -/
  | nestedSmint
  /-- RSM outside an SMI service routine with SMAC = 1 (R468, U28). Safe. -/
  | rsmOutsideSmm
  /-- An unmasked floating point error is pending with CR0.NE = 0 (R400, U21). Raised by WAIT, ESC and MMX instructions. Safe. -/
  | fpuErrorExternal
  /-- A floating point instruction the source does not describe (R401, R6 f). Raised by ESC. Safe. -/
  | escClass
  /-- A write to a region write-protected by CCR2.WPR1 or CCR6.WP_ARR3 (R157 (3): "a model refuses the write", U12). Raised by
  stores. Safe. -/
  | writeProtectedRegion
  /-- An address region whose start is not a multiple of its size is in use (R120, U13). Safe. -/
  | misalignedRegion
  /-- An I/O access past port FFFFh (R143, D24). Safe. -/
  | ioPastEnd
  /-- A word or doubleword access touching port 22h or 23h (R101, D5). Safe. -/
  | configPortWidth
  /-- A20M# asserted (R155, D11). Raised by step. Safe. -/
  | a20Masked
  /-- Sequential execution past FFFF FFFFh (R25, D14). Raised by step. Safe. -/
  | eipWrap
  /-- The instruction after a change of CR0.PG is not an unconditional JMP or CALL (R651, D30). Raised by step. Safe. -/
  | pgChangeWithoutBranch
  /-- A cache test command with a MESI value that is undefined (R180, U10). Safe. -/
  | undefinedMesi
  /-- A cache test write that makes a synonym: by locking (R176, U11), or with another valid code (log 62). Safe. -/
  | cacheSynonym
  /-- Locking the last unlocked set of a line (R176, U11). Safe. -/
  | allSetsLocked
  /-- A TLB test command that is not in Table 2-28 (R225, U14). Safe. -/
  | undefinedTlbCommand
  /-- INVD while the cache may hold a modified line (R432, D9). Safe. -/
  | invdModified
  /-- An SMM header that describes no state the rules can reach (R565, D15). Raised by RSM. Safe. -/
  | inconsistentHeader
deriving DecidableEq, Repr

/-- The eight general registers (R20). -/
structure Regs where
  eax : Word
  ecx : Word
  edx : Word
  ebx : Word
  esp : Word
  ebp : Word
  esi : Word
  edi : Word
deriving DecidableEq, Repr

/-- EFLAGS (R26 to R30); the reserved bits have fixed values and are not stored. -/
structure Flags where
  cf : Bool
  pf : Bool
  af : Bool
  zf : Bool
  sf : Bool
  tf : Bool
  ifl : Bool
  df : Bool
  ofl : Bool
  iopl : BitVec 2
  nt : Bool
  rf : Bool
  vm : Bool
  ac : Bool
  id : Bool
deriving DecidableEq, Repr

/-- The access rights of a descriptor (R195): P, DPL, DT, TYPE, G, D, AVL. A register whose rights have P = 0 is unusable. -/
structure Attr where
  p : Bool
  dpl : BitVec 2
  dt : Bool
  typ : BitVec 4
  g : Bool
  d : Bool
  avl : Bool
deriving DecidableEq, Repr

/-- A segment register with its hidden part (R32); also LDTR and TR (R43, R44). The limit is in bytes (R196). -/
structure Seg where
  sel : Word16
  base : Word
  limit : Word
  attr : Attr
deriving DecidableEq, Repr

/-- The six segment registers (R31). -/
structure Segs where
  es : Seg
  cs : Seg
  ss : Seg
  ds : Seg
  fs : Seg
  gs : Seg
deriving DecidableEq, Repr

/-- GDTR or IDTR (R42). -/
structure TableReg where
  base : Word
  limit : Word16
deriving DecidableEq, Repr

/-- The debug registers (R45 to R47). -/
structure DebugRegs where
  dr0 : Word
  dr1 : Word
  dr2 : Word
  dr3 : Word
  dr6 : Word
  dr7 : Word
deriving DecidableEq, Repr

/-- The test registers (R48); TR3 to TR5 are also MSR 3h to 5h (R177). -/
structure TestRegs where
  tr3 : Word
  tr4 : Word
  tr5 : Word
  tr6 : Word
  tr7 : Word
deriving DecidableEq, Repr

/-- The floating point state (R53 to R56): eight physical data registers, whose low 64 bits are MM0 to MM7 (R57),
tag word, status, mode control, instruction and operand pointers and the opcode of the saved image. -/
structure Fpu where
  r0 : BitVec 80
  r1 : BitVec 80
  r2 : BitVec 80
  r3 : BitVec 80
  r4 : BitVec 80
  r5 : BitVec 80
  r6 : BitVec 80
  r7 : BitVec 80
  tag : Word16
  status : Word16
  mcr : Word16
  ipSel : Word16
  ipOff : Word
  opSel : Word16
  opOff : Word
  opcode : BitVec 11
deriving DecidableEq, Repr

/-- The configuration registers and the port 22h/23h latch (R100 to R131, R58 f). -/
structure CfgRegs where
  ccr0 : Byte
  ccr1 : Byte
  ccr2 : Byte
  ccr3 : Byte
  ccr4 : Byte
  ccr5 : Byte
  ccr6 : Byte
  arr0 : BitVec 24
  arr1 : BitVec 24
  arr2 : BitVec 24
  arr3 : BitVec 24
  arr4 : BitVec 24
  arr5 : BitVec 24
  arr6 : BitVec 24
  arr7 : BitVec 24
  rcr0 : Byte
  rcr1 : Byte
  rcr2 : Byte
  rcr3 : Byte
  rcr4 : Byte
  rcr5 : Byte
  rcr6 : Byte
  rcr7 : Byte
  index : Byte
  indexValid : Bool
deriving DecidableEq, Repr

/-- A TLB entry (R220, R226, R227): linear and physical page, valid, dirty, global, user, write, accessed, PCD, PWT. -/
structure TlbEntry where
  lin : BitVec 20
  phys : BitVec 20
  v : Bool
  d : Bool
  g : Bool
  u : Bool
  w : Bool
  a : Bool
  pcd : Bool
  pwt : Bool
deriving DecidableEq, Repr

/-- The TLBs (R220): the L1 and L2 arrays as the test commands write and read them (keys: L1 index; 6 times the L2 line
plus the set), and the translations the walks have cached, which may be stale (R221, C19). -/
structure Tlb where
  l1 : List (Nat × TlbEntry)
  l2 : List (Nat × TlbEntry)
  cached : List TlbEntry
deriving DecidableEq, Repr

/-- A unified cache line (R170, R171, R180): tag, SMI bit, the MESI codes of its two 16-byte sectors, MRU, eight
doublewords. -/
structure CacheLine where
  tag : BitVec 18
  smi : Bool
  mesi0 : BitVec 4
  mesi1 : BitVec 4
  mru : BitVec 4
  data : List Word
deriving DecidableEq, Repr

/-- The unified cache (R170 to R181): the lines written through the test registers (key: 512 times the set plus the
line), whether fills may have happened since reset, whether a modified line may be present (R432, D9). -/
structure Cache where
  lines : List (Nat × CacheLine)
  used : Bool
  dirty : Bool
deriving DecidableEq, Repr

/-- Main memory or SMM memory (R550): address and byte, addresses strictly rising, no listed byte equal to what an
unlisted address reads as. -/
abbrev Memory := List Host.Cell

/-- A byte that an instruction fetch may still see (R166): in SMM memory or not, its address, the byte. -/
structure StaleByte where
  smm : Bool
  addr : Nat
  byte : Byte
deriving DecidableEq, Repr

/-- What another bus agent does: it reads, or it writes, a byte of main memory (R13 d, R171, R620). -/
inductive BusEvent
  | read (pa : Word)
  | write (pa : Word) (v : Byte)
deriving DecidableEq, Repr

/-- One sample of the environment (R13 b, d): the input pins, asserted or not; INTR with the vector the controller would supply;
and what other bus agents do, first at the boundary, then at each moment of the step at which the core's accesses leave them
the bus (R149, R163; log 9). -/
structure Pins where
  reset : Bool
  wmRst : Bool
  nmi : Bool
  smi : Bool
  flush : Bool
  susp : Bool
  a20m : Bool
  ken : Bool
  intr : Option Byte
  bus : List (List BusEvent)
deriving DecidableEq, Repr

/-- An external I/O cycle (R141, R143): port, size in bytes, value, write or read. -/
structure IoCycle where
  write : Bool
  port : Word16
  size : Nat
  value : Word
deriving DecidableEq, Repr

/-- A transfer that an I/O instruction made (R557 f). -/
structure IoTransfer where
  size : Nat
  port : Word16
  data : Word
  index : Option Word
deriving DecidableEq, Repr

/-- What the SMM header records of an I/O instruction (R557 f): write or read, REP, and its last transfer if it made one. -/
structure IoRecord where
  write : Bool
  rep : Bool
  transfer : Option IoTransfer
deriving DecidableEq, Repr

/-- The prefixes read so far (R261). -/
structure Pfx where
  lock : Bool
  rep : Bool
  repne : Bool
  seg : Option SegReg
  os66 : Bool
  as67 : Bool
  count : Nat
deriving DecidableEq, Repr

/-- The one-instruction delay after STI (INTR) and after a load of SS (INTR, NMI and debug exceptions) (R481, R658). -/
inductive Shadow | none | sti | ss
deriving DecidableEq, Repr

/-- The instruction in progress: the EIP of its first byte, its prefixes, the execution breakpoint conditions at its first
byte and the conditions its accesses met (R591), the delay that was in force when it started (R658), its I/O record (R557),
whether it ended in a handler (R500), whether iterations remain (R390). -/
structure Current where
  ip : Word
  pfx : Pfx
  fetchHits : BitVec 4
  hits : BitVec 4
  held : Shadow
  io : Option IoRecord
  entered : Bool
  repeating : Bool
deriving DecidableEq, Repr

/-- A debug trap pending at the next boundary (R498 step 1): the breakpoint conditions met, and single step. -/
structure DebugTrap where
  hits : BitVec 4
  bs : Bool
deriving DecidableEq, Repr

/-- A range of physical addresses. -/
structure AddrRange where
  base : Nat
  size : Nat
deriving DecidableEq, Repr

/-- Which bit of the page fault error code says protection violation, write and user access: PF_ERRCODE_LAYOUT (R8, R511). -/
structure PfLayout where
  p : Nat
  w : Nat
  u : Nat
deriving DecidableEq, Repr

/-- The parameters of R8 that are plain data: what the part and the platform fix. No step changes them. `svdcLayout` lists, for
each byte of the 80-bit operand, which byte of descriptor image and selector it holds (R471); `rom` and `absent` are the
ranges of PHYS_MEM that ignore writes and where nothing answers (R156). -/
structure Part where
  deviceId : Byte
  selfTestRequested : Bool
  selfTestPassed : Bool
  resetDelay : Nat
  ccr4Iort : BitVec 3
  rom : List AddrRange
  absent : List AddrRange
  svdcLayout : List Nat
  smintCpl0 : Bool
  pfLayout : PfLayout
  smmCsSelHigh : Bool
deriving DecidableEq, Repr

/-- The machine. -/
structure State where
  /-- General registers (R20). -/
  regs : Regs
  /-- EIP (R24): during an instruction, the offset of the following one. -/
  eip : Word
  /-- EFLAGS (R26). -/
  flags : Flags
  /-- Segment registers (R31). -/
  segs : Segs
  /-- Current privilege level (R34). -/
  cpl : BitVec 2
  /-- CR0 (R36). -/
  cr0 : Word
  /-- CR2 (R39). -/
  cr2 : Word
  /-- CR3 (R40). -/
  cr3 : Word
  /-- CR4 (R41). -/
  cr4 : Word
  /-- GDTR (R42). -/
  gdtr : TableReg
  /-- IDTR (R42). -/
  idtr : TableReg
  /-- LDTR (R43). -/
  ldtr : Seg
  /-- LDTR is marked invalid: LLDT has loaded a null selector (R424). -/
  ldtrInvalid : Bool
  /-- TR (R44). -/
  tr : Seg
  /-- DR0 to DR3, DR6, DR7 (R45). -/
  dr : DebugRegs
  /-- TR3 to TR7 (R48). -/
  test : TestRegs
  /-- Time stamp counter (R50). -/
  tsc : BitVec 64
  /-- Counter event selection and control register (R51). -/
  cesr : BitVec 64
  /-- Performance counter 0 (R52). -/
  pmc0 : BitVec 48
  /-- Performance counter 1 (R52). -/
  pmc1 : BitVec 48
  /-- Floating point and MMX state (R53, R57). -/
  fpu : Fpu
  /-- Configuration registers (R100). -/
  cfg : CfgRegs
  /-- SMM header address register (R560). -/
  smhr : Word
  /-- One latched NMI edge (R58 a). -/
  nmiPending : Bool
  /-- NMIs held off until IRET (R58 b). -/
  nmiBlocked : Bool
  /-- One latched SMI# (R58 c). -/
  smiPending : Bool
  /-- Executing an SMI service routine (R58 d). -/
  inSmm : Bool
  /-- HLT executed (R58 g). -/
  halted : Bool
  /-- Shut down (R614). -/
  shutdown : Bool
  /-- SUSP#-initiated suspend mode (R612). -/
  suspended : Bool
  /-- Delay of interrupt recognition in force (R481). -/
  shadow : Shadow
  /-- Debug trap pending (R498). -/
  trap : Option DebugTrap
  /-- EIP of the last completed instruction (R557, Current IP). -/
  lastIp : Option Word
  /-- I/O record of the last completed instruction (R557). -/
  lastIo : Option IoRecord
  /-- CR0.PG changed: the next instruction must be JMP or CALL (R651, D30). -/
  branchDue : Bool
  /-- The TLBs (R220). -/
  tlb : Tlb
  /-- The unified cache (R170). -/
  cache : Cache
  /-- Old bytes that instruction fetch may still see (R166, D3). -/
  stale : List StaleByte
  /-- Main memory (R140). -/
  mem : Memory
  /-- SMM memory (R550). -/
  smm : Memory
  /-- KEN# as last sampled, true when asserted (R160). -/
  ken : Bool
  /-- In RESET, or just out of it: no step has been made since, RESET_DELAY_CLOCKS are still to be counted (R640, D29). -/
  starting : Bool
  /-- The parameters of the part and the platform (R8). -/
  part : Part
  /-- The model's own: the external I/O cycles performed, newest first (R143). -/
  ioLog : List IoCycle
  /-- The model's own: samples of the environment to come, one per step (R13). -/
  env : List Pins
  /-- The model's own: what other bus agents will do in the rest of this step, moment by moment (R149, R163). -/
  bus : List (List BusEvent)
  /-- The model's own: NMI pin level last sampled (R487). -/
  nmiLevel : Bool
  /-- The model's own: SMI# level last sampled, true when low (R553). -/
  smiLevel : Bool
  /-- The model's own: position in the stream of free values. -/
  freeCtr : Nat
  /-- The instruction in progress. -/
  cur : Current
deriving DecidableEq, Repr

/-- All flags 0: EFLAGS 0000 0002h (R26). -/
def Flags.reset : Flags :=
  { cf := false, pf := false, af := false, zf := false, sf := false, tf := false, ifl := false, df := false,
    ofl := false, iopl := 0#2, nt := false, rf := false, vm := false, ac := false, id := false }

/-- Access rights of a real-mode segment: present, writable, expand-up, accessed data, level 0, 16-bit (R33: PRESUMED
for the state after reset, log 3). -/
def Attr.realMode : Attr :=
  { p := true, dpl := 0#2, dt := true, typ := 0x3#4, g := false, d := false, avl := false }

/-- Access rights of LDTR and TR while unusable after reset (log 1). -/
def Attr.unusable : Attr :=
  { p := false, dpl := 0#2, dt := false, typ := 0#4, g := false, d := false, avl := false }

/-- A data segment register after reset (R642). -/
def Seg.resetData : Seg := { sel := 0#16, base := 0#32, limit := 0xFFFF#32, attr := Attr.realMode }

/-- CS after reset (R33, R642); its rights are readable and executable (R33: PRESUMED, log 3). -/
def Seg.resetCs : Seg :=
  { sel := 0xF000#16, base := 0xFFFF0000#32, limit := 0xFFFF#32, attr := { Attr.realMode with typ := 0xB#4 } }

/-- LDTR and TR after reset: undefined (R642); DESIGN CHOICE all zero, unusable, log 1. -/
def Seg.resetSystem : Seg := { sel := 0#16, base := 0#32, limit := 0#32, attr := Attr.unusable }

/-- No prefix read. -/
def Pfx.empty : Pfx :=
  { lock := false, rep := false, repne := false, seg := none, os66 := false, as67 := false, count := 0 }

/-- No instruction in progress; `ip` is where the next one starts. -/
def Current.start (ip : Word) : Current :=
  { ip := ip, pfx := Pfx.empty, fetchHits := 0#4, hits := 0#4, held := .none, io := none, entered := false,
    repeating := false }

/-- Every pin inactive but KEN#, and other agents do nothing. -/
def Pins.idle : Pins :=
  { reset := false, wmRst := false, nmi := false, smi := false, flush := false, susp := false, a20m := false,
    ken := true, intr := none, bus := [] }

/-- The parameters at their defaults (92_eei_decisions.md). DEVICE_ID = 51h, RESET_DELAY_CLOCKS = 200 and a PHYS_MEM of RAM
alone have no default in the spec: DESIGN CHOICE, log 4, log 5. -/
def Part.default : Part :=
  { deviceId := 0x51#8, selfTestRequested := false, selfTestPassed := true, resetDelay := 200, ccr4Iort := 0#3, rom := [],
    absent := [], svdcLayout := [0, 1, 2, 3, 4, 5, 6, 7, 8, 9], smintCpl0 := true, pfLayout := { p := 0, w := 1, u := 2 },
    smmCsSelHigh := true }

/-- EAX after reset (R642, D13): 0 after a self-test that passed, not 0 after one that failed; undefined without one, DESIGN
CHOICE 0, log 1. -/
def Part.resetEax (p : Part) : Word :=
  if p.selfTestRequested && !p.selfTestPassed then BitVec.ofNat 32 (Config.selfTestFailure % 0xFFFFFFFF + 1) else 0#32
/-- The general registers after reset: EDX = 0600h + DEVICE_ID (R642, D13); the rest undefined, DESIGN CHOICE 0, log 1. -/
def Regs.reset (p : Part) : Regs :=
  { eax := p.resetEax, ecx := 0#32, edx := 0x600#32 + p.deviceId.setWidth 32, ebx := 0#32, esp := 0#32, ebp := 0#32,
    esi := 0#32, edi := 0#32 }

/-- The segment registers after reset (R642). -/
def Segs.reset : Segs :=
  { es := Seg.resetData, cs := Seg.resetCs, ss := Seg.resetData, ds := Seg.resetData, fs := Seg.resetData,
    gs := Seg.resetData }

/-- The configuration registers after reset (R100, R642): CCR4 = 80h with CCR4_IORT_RESET (C2), all others 0. -/
def CfgRegs.reset (p : Part) : CfgRegs :=
  { ccr0 := 0#8, ccr1 := 0#8, ccr2 := 0#8, ccr3 := 0#8, ccr4 := 0x80#8 ||| p.ccr4Iort.setWidth 8,
    ccr5 := 0#8, ccr6 := 0#8, arr0 := 0#24, arr1 := 0#24, arr2 := 0#24, arr3 := 0#24, arr4 := 0#24, arr5 := 0#24,
    arr6 := 0#24, arr7 := 0#24, rcr0 := 0#8, rcr1 := 0#8, rcr2 := 0#8, rcr3 := 0#8, rcr4 := 0#8, rcr5 := 0#8,
    rcr6 := 0#8, rcr7 := 0#8, index := 0#8, indexValid := false }

/-- The floating point state after reset: not stated (R53); DESIGN CHOICE 0, log 2. -/
def Fpu.reset : Fpu :=
  { r0 := 0#80, r1 := 0#80, r2 := 0#80, r3 := 0#80, r4 := 0#80, r5 := 0#80, r6 := 0#80, r7 := 0#80, tag := 0#16,
    status := 0#16, mcr := 0#16, ipSel := 0#16, ipOff := 0#32, opSel := 0#16, opOff := 0#32, opcode := 0#11 }

/-- The debug registers after reset: DR7 = 0000 0400h (R642); DR0 to DR3 and DR6 DESIGN CHOICE 0, log 2. -/
def DebugRegs.reset : DebugRegs :=
  { dr0 := 0#32, dr1 := 0#32, dr2 := 0#32, dr3 := 0#32, dr6 := 0#32, dr7 := 0x400#32 }

/-- The machine right after RESET (R642, R58), with the given parameters. R58 states no TLB contents after RESET and R642 calls
them undefined draws; R222 derives that RESET leaves the TLB empty: DESIGN CHOICE empty, so that entries which TR6 commands wrote
before read as invalid, their other fields free (log 63). That LDTR is not marked invalid is a DESIGN CHOICE (log 44). -/
def State.resetFor (p : Part) : State :=
  { regs := Regs.reset p, eip := 0xFFF0#32, flags := Flags.reset, segs := Segs.reset, cpl := 0#2,
    cr0 := 0x60000010#32, cr2 := 0#32, cr3 := 0#32, cr4 := 0#32,
    gdtr := { base := 0#32, limit := 0#16 }, idtr := { base := 0#32, limit := 0x3FF#16 },
    ldtr := Seg.resetSystem, ldtrInvalid := false, tr := Seg.resetSystem, dr := DebugRegs.reset,
    test := { tr3 := 0#32, tr4 := 0#32, tr5 := 0#32, tr6 := 0#32, tr7 := 0#32 },
    tsc := 0#64, cesr := 0#64, pmc0 := 0#48, pmc1 := 0#48, fpu := Fpu.reset, cfg := CfgRegs.reset p, smhr := 0#32,
    nmiPending := false, nmiBlocked := false, smiPending := false, inSmm := false, halted := false,
    shutdown := false, suspended := false, shadow := .none, trap := none, lastIp := none, lastIo := none,
    branchDue := false, tlb := { l1 := [], l2 := [], cached := [] },
    cache := { lines := [], used := false, dirty := false }, stale := [], mem := [], smm := [], ken := true,
    starting := true, part := p, ioLog := [], env := [], bus := [], nmiLevel := false,
    smiLevel := false, freeCtr := 0, cur := Current.start 0xFFF0#32 }

/-- The machine right after RESET, the parameters at their defaults (R642, R8). -/
def State.reset : State := State.resetFor Part.default

end Sys2Proof.Machine
end

