-- ==== Sys2Proof/Machine/Ops.lean ====
section
/-! DEFINITION. The named operations over registers and memory: free values, physical memory with SMM selection and
locked cache lines (20_memory.md R157, 61_smm.md R552), paging (21_translation.md R215 to R222), segment checks
(R206), the stack (43 R365), segment register loads (R205), and taking an exception and returning from one
(60_exceptions.md R500 to R503, 42 R340). -/
namespace Sys2Proof.Machine
open Sys2Proof

/-- An exception to deliver: vector and error code (R10, R485). -/
structure Exc where
  vec : Byte
  code : Option Word16
deriving DecidableEq, Repr

/-- Why an action stops. -/
inductive Stop
  | exc (e : Exc)
  | refuse (r : Refusal)
deriving DecidableEq, Repr

/-- A part of an instruction: it changes the state and answers, or stops. -/
abbrev Act (α : Type) := EStateM Stop State α

/-- Abandon the instruction with an exception (R10: raise). -/
def raise {α : Type} (e : Exc) : Act α := throw (.exc e)
/-- Stop outside the spec. -/
def refuse {α : Type} (r : Refusal) : Act α := throw (.refuse r)
/-- Change the state. -/
def upd (f : State → State) : Act Unit := modify f

/-- #DE -/
def Exc.de : Exc := ⟨0#8, none⟩
/-- #BR -/
def Exc.br : Exc := ⟨5#8, none⟩
/-- #UD -/
def Exc.ud : Exc := ⟨6#8, none⟩
/-- #NM -/
def Exc.nm : Exc := ⟨7#8, none⟩
/-- #DF(0) -/
def Exc.doubleFault : Exc := ⟨8#8, some 0#16⟩
/-- #TS -/
def Exc.ts (c : Word16) : Exc := ⟨10#8, some c⟩
/-- #NP -/
def Exc.np (c : Word16) : Exc := ⟨11#8, some c⟩
/-- #SS -/
def Exc.ss (c : Word16) : Exc := ⟨12#8, some c⟩
/-- #GP -/
def Exc.gp (c : Word16) : Exc := ⟨13#8, some c⟩
/-- #PF -/
def Exc.pf (c : Word16) : Exc := ⟨14#8, some c⟩
/-- #MF -/
def Exc.mf : Exc := ⟨16#8, none⟩
/-- #AC(0) -/
def Exc.ac : Exc := ⟨17#8, some 0#16⟩

/-! Free values (R10: undefined_N). -/

/-- A free bit. -/
def drawBit : Act Bool := fun s => .ok (Config.freeBit s.freeCtr) { s with freeCtr := s.freeCtr + 1 }
/-- A free doubleword. -/
def drawWord : Act Word := fun s => .ok (Config.freeWord s.freeCtr) { s with freeCtr := s.freeCtr + 1 }
/-- A free word. -/
def drawWord16 : Act Word16 := do return (← drawWord).setWidth 16
/-- A free byte. -/
def drawByte : Act Byte := do return (← drawWord).setWidth 8
/-- A free choice among n + 1 behaviours. -/
def drawChoice (n : Nat) : Act Nat :=
  fun s => .ok (Config.freeChoice s.freeCtr % (n + 1)) { s with freeCtr := s.freeCtr + 1 }

/-! Registers (R20, R21). -/

/-- Read a general register. -/
def Regs.get (g : Regs) : Reg → Word
  | .eax => g.eax | .ecx => g.ecx | .edx => g.edx | .ebx => g.ebx
  | .esp => g.esp | .ebp => g.ebp | .esi => g.esi | .edi => g.edi
/-- Write a general register. -/
def Regs.set (g : Regs) (r : Reg) (v : Word) : Regs :=
  match r with
  | .eax => { g with eax := v } | .ecx => { g with ecx := v } | .edx => { g with edx := v }
  | .ebx => { g with ebx := v } | .esp => { g with esp := v } | .ebp => { g with ebp := v }
  | .esi => { g with esi := v } | .edi => { g with edi := v }
/-- The data register a byte register is part of, and whether it is the high byte (R21). -/
def reg8Host : Reg8 → Reg × Bool
  | .al => (.eax, false) | .cl => (.ecx, false) | .dl => (.edx, false) | .bl => (.ebx, false)
  | .ah => (.eax, true) | .ch => (.ecx, true) | .dh => (.edx, true) | .bh => (.ebx, true)
/-- The low n bits of a register replaced, the rest kept (R21). -/
def mergeLow {n : Nat} (old : Word) (v : BitVec n) : Word :=
  if n = 16 then old.extractLsb' 16 16 ++ v.setWidth 16
  else if n = 8 then old.extractLsb' 8 24 ++ v.setWidth 8
  else v.setWidth 32
/-- Read a byte register. -/
def Regs.get8 (g : Regs) (r : Reg8) : Byte :=
  (g.get (reg8Host r).1).extractLsb' (if (reg8Host r).2 then 8 else 0) 8
/-- Write a byte register: the other bits of the data register stay (R21). -/
def Regs.set8 (g : Regs) (r : Reg8) (v : Byte) : Regs :=
  let old := g.get (reg8Host r).1
  g.set (reg8Host r).1
    (if (reg8Host r).2 then old.extractLsb' 16 16 ++ v ++ old.extractLsb' 0 8 else old.extractLsb' 8 24 ++ v)

/-- The value of a general register. -/
def getReg (r : Reg) : Act Word := fun s => .ok (s.regs.get r) s
/-- Write a general register. -/
def setReg (r : Reg) (v : Word) : Act Unit := upd fun s => { s with regs := s.regs.set r v }
/-- Write the low n bits of a general register (n = 8, 16 or 32). -/
def setRegN {n : Nat} (r : Reg) (v : BitVec n) : Act Unit :=
  upd fun s => { s with regs := s.regs.set r (mergeLow (s.regs.get r) v) }

/-! Flags as the 32-bit EFLAGS image (R26). -/

/-- One bit as a doubleword with that bit at position `i`. -/
def bitAt (i : Nat) (b : Bool) : Word := (BitVec.ofBool b).setWidth 32 <<< i
/-- The EFLAGS image: bit 1 reads 1, the other reserved bits 0 (R26). -/
def Flags.toWord (f : Flags) : Word :=
  0x2#32 ||| bitAt 0 f.cf ||| bitAt 2 f.pf ||| bitAt 4 f.af ||| bitAt 6 f.zf ||| bitAt 7 f.sf ||| bitAt 8 f.tf |||
  bitAt 9 f.ifl ||| bitAt 10 f.df ||| bitAt 11 f.ofl ||| (f.iopl.setWidth 32 <<< 12) ||| bitAt 14 f.nt |||
  bitAt 16 f.rf ||| bitAt 17 f.vm ||| bitAt 18 f.ac ||| bitAt 21 f.id
/-- The flags an EFLAGS image describes; reserved bits are ignored (R26). -/
def Flags.ofWord (w : Word) : Flags :=
  { cf := w.getLsbD 0, pf := w.getLsbD 2, af := w.getLsbD 4, zf := w.getLsbD 6, sf := w.getLsbD 7,
    tf := w.getLsbD 8, ifl := w.getLsbD 9, df := w.getLsbD 10, ofl := w.getLsbD 11, iopl := w.extractLsb' 12 2,
    nt := w.getLsbD 14, rf := w.getLsbD 16, vm := w.getLsbD 17, ac := w.getLsbD 18, id := w.getLsbD 21 }

/-! Mode predicates (R525). -/

/-- CR0.PE -/
def State.pe (s : State) : Bool := s.cr0.getLsbD 0
/-- CR0.PG -/
def State.pg (s : State) : Bool := s.cr0.getLsbD 31
/-- Real mode or virtual 8086 mode: segments are loaded as base = 16 times the selector (R152, R154). -/
def State.realLike (s : State) : Bool := !s.pe || s.flags.vm
/-- Virtual 8086 mode. -/
def State.v86 (s : State) : Bool := s.pe && s.flags.vm

/-! Segment registers and descriptors (R31, R194 to R198). -/

/-- Read a segment register. -/
def Segs.get (g : Segs) : SegReg → Seg
  | .es => g.es | .cs => g.cs | .ss => g.ss | .ds => g.ds | .fs => g.fs | .gs => g.gs
/-- Write a segment register. -/
def Segs.set (g : Segs) (r : SegReg) (v : Seg) : Segs :=
  match r with
  | .es => { g with es := v } | .cs => { g with cs := v } | .ss => { g with ss := v }
  | .ds => { g with ds := v } | .fs => { g with fs := v } | .gs => { g with gs := v }
/-- Write a segment register of the machine. -/
def setSeg (r : SegReg) (v : Seg) : Act Unit := upd fun s => { s with segs := s.segs.set r v }

/-- An executable application segment (R198). -/
def Attr.code (a : Attr) : Bool := a.dt && a.typ.getLsbD 3
/-- A conforming code segment. -/
def Attr.conforming (a : Attr) : Bool := a.code && a.typ.getLsbD 2
/-- A code segment that may be read. -/
def Attr.readableCode (a : Attr) : Bool := a.code && a.typ.getLsbD 1
/-- A data segment. -/
def Attr.data (a : Attr) : Bool := a.dt && !a.typ.getLsbD 3
/-- A writable data segment. -/
def Attr.writable (a : Attr) : Bool := a.data && a.typ.getLsbD 1
/-- An expand-down data segment. -/
def Attr.expandDown (a : Attr) : Bool := a.data && a.typ.getLsbD 2

/-- The n bytes at offset `off` lie within the segment (R196), computed without wraparound. -/
def Seg.within (g : Seg) (off : Word) (n : Nat) : Bool :=
  if g.attr.expandDown then
    decide (g.limit.toNat < off.toNat) &&
      decide (off.toNat + n ≤ if g.attr.d then 0x100000000 else 0x10000)
  else decide (off.toNat + n ≤ g.limit.toNat + 1)

/-- The access rights in a descriptor (R194, R195). -/
def descAttr (d : BitVec 64) : Attr :=
  { p := d.getLsbD 47, dpl := d.extractLsb' 45 2, dt := d.getLsbD 44, typ := d.extractLsb' 40 4,
    g := d.getLsbD 55, d := d.getLsbD 54, avl := d.getLsbD 52 }
/-- The base in a descriptor (R194). -/
def descBase (d : BitVec 64) : Word := d.extractLsb' 56 8 ++ d.extractLsb' 32 8 ++ d.extractLsb' 16 16
/-- The effective limit of a descriptor in bytes (R196). -/
def descLimit (d : BitVec 64) : Word :=
  let raw : BitVec 20 := d.extractLsb' 48 4 ++ d.extractLsb' 0 16
  if d.getLsbD 55 then raw ++ 0xFFF#12 else raw.setWidth 32
/-- A segment register loaded with selector `sel` and descriptor `d`, marked accessed (R198, R205). -/
def Seg.ofDesc (sel : Word16) (d : BitVec 64) : Seg :=
  { sel := sel, base := descBase d, limit := descLimit d,
    attr := { descAttr d with typ := if d.getLsbD 44 then d.extractLsb' 40 4 ||| 1#4 else d.extractLsb' 40 4 } }
/-- The descriptor image of a segment register's hidden part (R556 b, R461). -/
def Seg.toDesc (g : Seg) : BitVec 64 :=
  let raw : BitVec 20 := if g.attr.g then g.limit.extractLsb' 12 20 else g.limit.extractLsb' 0 20
  g.base.extractLsb' 24 8 ++ BitVec.ofBool g.attr.g ++ BitVec.ofBool g.attr.d ++ 0#1 ++ BitVec.ofBool g.attr.avl ++
    raw.extractLsb' 16 4 ++ BitVec.ofBool g.attr.p ++ g.attr.dpl ++ BitVec.ofBool g.attr.dt ++ g.attr.typ ++
    g.base.extractLsb' 0 24 ++ raw.extractLsb' 0 16
/-- A null selector (R191). -/
def nullSel (sel : Word16) : Bool := sel.extractLsb' 2 14 == 0#14
/-- A register after the load of a null selector (R205): the rule writes `sel` and "unusable" only. Unusable is P = 0; base,
limit and the other rights stay, as SVDC and RSDC save and restore them (R471). DEDUCED, log 49. -/
def Seg.nullLoad (g : Seg) (sel : Word16) : Seg := { g with sel := sel, attr := { g.attr with p := false } }
/-- The error code naming a selector (R510). -/
def selCode (sel : Word16) : Word16 := sel &&& 0xFFFC#16
/-- The requested privilege level of a selector (R190). -/
def rpl (sel : Word16) : BitVec 2 := sel.extractLsb' 0 2
/-- A register loaded in real mode: limit and rights stay (R152, R206). -/
def Seg.realLoad (g : Seg) (sel : Word16) : Seg := { g with sel := sel, base := sel.setWidth 32 <<< 4 }
/-- A register loaded in real or virtual 8086 mode: in the latter the limit becomes FFFFh (R152, R531). -/
def State.loadReal (s : State) (g : Seg) (sel : Word16) : Seg :=
  if s.v86 then { g.realLoad sel with limit := 0xFFFF#32 } else g.realLoad sel

/-! Physical memory (R157, R550, R552, R176). -/

/-- What a byte that nothing has written reads as: PHYS_MEM is taken as RAM holding zeros (DESIGN CHOICE, log 5). -/
def Memory.unlisted : Byte := 0#8
/-- Read one byte. -/
def Memory.read (m : Memory) (a : Nat) : Byte :=
  match m with
  | [] => Memory.unlisted
  | (x, b) :: rest => if a = x then b else Memory.read rest a
/-- Write one byte, keeping the canonical form. -/
def Memory.write (m : Memory) (a : Nat) (v : Byte) : Memory :=
  match m with
  | [] => if v = Memory.unlisted then [] else [(a, v)]
  | (x, b) :: rest =>
    if a < x then (if v = Memory.unlisted then (x, b) :: rest else (a, v) :: (x, b) :: rest)
    else if a = x then (if v = Memory.unlisted then rest else (a, v) :: rest)
    else (x, b) :: Memory.write rest a v
/-- Every address of the list is above `lo`. -/
def Memory.wfFrom (lo : Nat) (m : Memory) : Bool :=
  match m with
  | [] => true
  | (x, b) :: rest => decide (lo ≤ x) && decide (x < 0x100000000) && !(b == Memory.unlisted) && Memory.wfFrom (x + 1) rest
/-- The canonical form: addresses strictly rising below 2^32, no byte equal to what an unlisted address reads as. -/
def Memory.wf (m : Memory) : Bool := Memory.wfFrom 0 m

/-- Address region register n (R118). -/
def CfgRegs.arr (c : CfgRegs) (n : Nat) : BitVec 24 :=
  match n with
  | 0 => c.arr0 | 1 => c.arr1 | 2 => c.arr2 | 3 => c.arr3 | 4 => c.arr4 | 5 => c.arr5 | 6 => c.arr6 | _ => c.arr7
/-- Region control register n (R130). -/
def CfgRegs.rcr (c : CfgRegs) (n : Nat) : Byte :=
  match n with
  | 0 => c.rcr0 | 1 => c.rcr1 | 2 => c.rcr2 | 3 => c.rcr3 | 4 => c.rcr4 | 5 => c.rcr5 | 6 => c.rcr6 | _ => c.rcr7
/-- The SIZE field of an address region register (R118). -/
def arrSizeField (a : BitVec 24) : Nat := (a.extractLsb' 0 4).toNat
/-- The start of an address region (R118). -/
def arrStart (a : BitVec 24) : Nat := (a.extractLsb' 4 20).toNat * 4096
/-- The block size of SIZE field `f`: 0 is a disabled region; ARR7 has larger units (R119). -/
def regionSize (seven : Bool) (f : Nat) : Nat :=
  if f = 0 then 0 else if f = 15 then 0x100000000 else if seven then 2 ^ (17 + f) else 2 ^ (11 + f)
/-- The size of region n. -/
def CfgRegs.regionSize (c : CfgRegs) (n : Nat) : Nat := Machine.regionSize (n == 7) (arrSizeField (c.arr n))
/-- CCR5.ARREN, or CCR1.SM3 for region 3 (R121). -/
def CfgRegs.regionOn (c : CfgRegs) (n : Nat) : Bool :=
  (c.ccr5.getLsbD 5 || (n == 3 && c.ccr1.getLsbD 7)) && decide (c.regionSize n ≠ 0)
/-- An enabled region starts off its size boundary (R120, U13). -/
def CfgRegs.regionBad (c : CfgRegs) (n : Nat) : Bool :=
  c.regionOn n && decide (arrStart (c.arr n) % c.regionSize n ≠ 0)
/-- Some enabled region is misaligned: outside the spec (U13). -/
def CfgRegs.anyRegionBad (c : CfgRegs) : Bool :=
  c.regionBad 0 || c.regionBad 1 || c.regionBad 2 || c.regionBad 3 || c.regionBad 4 || c.regionBad 5 ||
    c.regionBad 6 || c.regionBad 7
/-- The physical address lies in enabled region n (R120). -/
def CfgRegs.inRegion (c : CfgRegs) (n : Nat) (pa : Word) : Bool :=
  c.regionOn n && decide (arrStart (c.arr n) ≤ pa.toNat) && decide (pa.toNat < arrStart (c.arr n) + c.regionSize n)

/-- The base of the SMM address space (R550). -/
def State.smmBase (s : State) : Nat := arrStart s.cfg.arr3
/-- The size of the SMM address space; 0 when there is none (R550). -/
def State.smmSize (s : State) : Nat := s.cfg.regionSize 3
/-- A physical access reaches SMM memory instead of main memory (R552). -/
def State.smmSelected (s : State) (pa : Word) : Bool :=
  s.cfg.ccr1.getLsbD 1 && s.cfg.ccr1.getLsbD 7 && decide (s.smmSize ≠ 0) && decide (s.smmBase ≤ pa.toNat) &&
    decide (pa.toNat < s.smmBase + s.smmSize) && (s.inSmm || s.cfg.ccr1.getLsbD 2)

/-- The attributes of region n reach the address: it lies in the region or, for an inverted region, outside it (R131). -/
def CfgRegs.regionCovers (c : CfgRegs) (pa : Word) (n : Nat) : Bool :=
  c.regionOn n && (c.inRegion n pa != ((c.rcr n).getLsbD 6 && n != 7))
/-- The regions, inverted ones included, whose attributes reach the address (R133). -/
def CfgRegs.covering (c : CfgRegs) (pa : Word) : List Nat := [0, 1, 2, 3, 4, 5, 6, 7].filter (c.regionCovers pa)
/-- Effective cache disable: the OR of the CD bits (R133). -/
def CfgRegs.effCd (c : CfgRegs) (pa : Word) : Bool := (c.covering pa).any fun n => (c.rcr n).getLsbD 0
/-- Effective write-through: the OR of the WT bits (R133). -/
def CfgRegs.effWt (c : CfgRegs) (pa : Word) : Bool := (c.covering pa).any fun n => (c.rcr n).getLsbD 4
/-- Effective weak locking: the AND of the WL bits; strong locking in no region (R133, R134). -/
def CfgRegs.effWl (c : CfgRegs) (pa : Word) : Bool :=
  !(c.covering pa).isEmpty && (c.covering pa).all fun n => (c.rcr n).getLsbD 2
/-- Effective write gathering: the AND of the WG bits; none in no region (R133, R134). Nothing but the order in which another
agent sees writes depends on it (R162, log 9). -/
def CfgRegs.effWg (c : CfgRegs) (pa : Word) : Bool :=
  !(c.covering pa).isEmpty && (c.covering pa).all fun n => (c.rcr n).getLsbD 3
/-- 640 KByte to 1 MByte (R105). -/
def inHigh384K (pa : Word) : Bool := decide (0xA0000 ≤ pa.toNat) && decide (pa.toNat < 0x100000)
/-- CCR6.SMM_MODE: Cyrix enhanced SMM, else SL-compatible (R570). -/
def State.smmMode (s : State) : Bool := s.cfg.ccr6.getLsbD 0
/-- In SL-compatible mode accesses to SMM memory are not cached (R575). -/
def State.slSmm (s : State) (pa : Word) : Bool := !s.smmMode && s.smmSelected pa
/-- A physical address with the attributes of the access: `nc` when the page's PCD is set or the cycle is locked, `wt` when
its PWT is set (R160, R161, R223), `lock` when LOCK# is asserted from its read to its write (R163). -/
structure PA where
  addr : Word
  nc : Bool
  wt : Bool
  lock : Bool
deriving DecidableEq, Repr
/-- The plain addresses. -/
def addrs (pas : List PA) : List Word := pas.map PA.addr
/-- Addresses of an access with no page attribute and no lock. -/
def plain (pas : List Word) : List PA := pas.map fun a => { addr := a, nc := false, wt := false, lock := false }
/-- A locked cycle there is run with LOCK# asserted: no weak locking by CCR1.NO_LOCK or the region (R163, R131). -/
def State.strongLock (s : State) (pa : Word) : Bool := !s.cfg.ccr1.getLsbD 4 && !s.cfg.effWl pa
/-- The addresses of an access under LOCK: strongly locked cycles are not cacheable (R160) and assert LOCK# (R163). -/
def State.lockPas (s : State) (pas : List PA) : List PA :=
  pas.map fun p => { p with nc := p.nc || s.strongLock p.addr, lock := s.strongLock p.addr }
/-- Everything that R160 names allows a line fill for the access. -/
def State.cacheable (s : State) (p : PA) : Bool :=
  !s.cr0.getLsbD 30 && !(s.cfg.ccr0.getLsbD 1 && inHigh384K p.addr) && !s.cfg.effCd p.addr && !p.nc && s.ken &&
    !s.slSmm p.addr
/-- The access is under write-back policy (R161). The WB/WT# pin counts when a bus cycle fills a line, which no listed line
comes from (log 14). -/
def State.writeBack (s : State) (p : PA) : Bool := !s.cr0.getLsbD 29 && !s.cfg.effWt p.addr && !p.wt
/-- A write there falls in a protected region (CCR2.WPR1, cacheable accesses: R108; CCR6.WP_ARR3: R117): R157 (3), U12. -/
def State.writeProtected (s : State) (p : PA) : Bool :=
  (s.cfg.ccr2.getLsbD 4 && inHigh384K p.addr && s.cacheable p) ||
    (s.cfg.ccr6.getLsbD 1 && !s.inSmm && s.cfg.inRegion 3 p.addr)

/-- The MESI code of a line that holds data (R180): modified, shared, exclusive or locked valid. -/
def mesiValid (m : BitVec 4) : Bool := m == 0x8#4 || m == 0x9#4 || m == 0xA#4 || m == 0xC#4
/-- Locked, valid or not (R180). -/
def mesiLocked (m : BitVec 4) : Bool := m == 0xC#4 || m == 0x7#4
/-- The MESI code of the sector, lower or upper 16 bytes, that holds an address (R171). -/
def CacheLine.mesi (l : CacheLine) (pa : Word) : BitVec 4 := if pa.getLsbD 4 then l.mesi1 else l.mesi0
/-- The line with the MESI code of the sector that holds an address replaced. -/
def CacheLine.setMesi (l : CacheLine) (pa : Word) (m : BitVec 4) : CacheLine :=
  if pa.getLsbD 4 then { l with mesi1 := m } else { l with mesi0 := m }
/-- The listed cache line that answers for a physical address: same line, tag and memory, its sector valid (R157 (2), R170,
R171, R173); for an access that may not use the cache (`locked`) only a locked one (R575). -/
def Cache.hit (c : Cache) (smm locked : Bool) (pa : Word) : Option (Nat × CacheLine) :=
  c.lines.find? fun e =>
    mesiValid (e.2.mesi pa) && (!locked || mesiLocked (e.2.mesi pa)) && e.2.smi == smm && e.2.tag == pa.extractLsb' 14 18 &&
      e.1 % 512 == (pa.extractLsb' 5 9).toNat
/-- One byte of a line. -/
def CacheLine.byte (l : CacheLine) (pa : Word) : Byte :=
  (l.data.getD (pa.extractLsb' 2 3).toNat 0#32).extractLsb' (8 * (pa.extractLsb' 0 2).toNat) 8
/-- A doubleword with byte k replaced. -/
def setByteOf (w : Word) (k : Nat) (v : Byte) : Word :=
  (w &&& ~~~(0xFF#32 <<< (8 * k))) ||| (v.setWidth 32 <<< (8 * k))
/-- A line with one byte replaced. -/
def CacheLine.setByte (l : CacheLine) (pa : Word) (v : Byte) : CacheLine :=
  let i := (pa.extractLsb' 2 3).toNat
  { l with data := l.data.set i (setByteOf (l.data.getD i 0#32) (pa.extractLsb' 0 2).toNat v) }
/-- A keyed list with the entry of key k replaced. -/
def putKey {α : Type} (l : List (Nat × α)) (k : Nat) (v : α) : List (Nat × α) := (k, v) :: l.filter (fun e => e.1 != k)

/-- Some range of the map takes in the address. -/
def inRanges (l : List AddrRange) (pa : Word) : Bool :=
  l.any fun r => decide (r.base ≤ pa.toNat) && decide (pa.toNat < r.base + r.size)
/-- Nothing answers at an address of main memory (PHYS_MEM, R8). -/
def Part.nothing (p : Part) (pa : Word) : Bool := inRanges p.absent pa
/-- An address of main memory where a write is kept (PHYS_MEM, R8). -/
def Part.ram (p : Part) (pa : Word) : Bool := !inRanges p.rom pa && !p.nothing pa
/-- The byte that main memory answers; where there is nothing, a free byte (log 5). -/
def State.mainByte (s : State) (pa : Word) : Byte :=
  if s.part.nothing pa then Config.absentByte s.freeCtr pa else s.mem.read pa.toNat
/-- The byte that memory behind the cache holds: SMM memory or main memory (R552). -/
def State.memByte (s : State) (pa : Word) : Byte :=
  if s.smmSelected pa then s.smm.read pa.toNat else s.mainByte pa
/-- A write to main memory: ROM and absent memory ignore it (PHYS_MEM; log 5). -/
def State.setMainByte (s : State) (pa : Word) (v : Byte) : State :=
  if s.part.ram pa then { s with mem := s.mem.write pa.toNat v } else s
/-- Store a byte in SMM memory or main memory (R552). -/
def State.setMemByte (s : State) (pa : Word) (v : Byte) : State :=
  if s.smmSelected pa then { s with smm := s.smm.write pa.toNat v } else s.setMainByte pa v
/-- The listed line that answers an access of the core at a physical address. -/
def State.lineAt (s : State) (pa : Word) : Option (Nat × CacheLine) := s.cache.hit (s.smmSelected pa) (s.slSmm pa) pa
/-- The byte a physical read answers: a listed cache line's, else memory's (R157). -/
def State.physByte (s : State) (pa : Word) : Byte :=
  match s.lineAt pa with
  | some e => e.2.byte pa
  | none => s.memByte pa

/-- What a write to a listed cache line does (R161, R171, R176): a locked line alone changes; a modified or, under write-back
policy, an exclusive sector changes alone and is modified; otherwise memory changes too. The MRU bits stay (log 14). -/
def State.writeLine (s : State) (k : Nat) (l : CacheLine) (p : PA) (v : Byte) : State :=
  let m := l.mesi p.addr
  let l' := l.setByte p.addr v
  let alone := m == 0xC#4 || ((m == 0x8#4 || m == 0xA#4) && s.writeBack p)
  let l'' := if m == 0xA#4 && s.writeBack p then l'.setMesi p.addr 0x8#4 else l'
  let s' := if alone then s else s.setMemByte p.addr v
  { s' with cache := { s'.cache with lines := putKey s'.cache.lines k l'' } }

/-- Store one byte at a physical address (R157); the old byte stays visible to fetch (R166). Under write-back policy, with
lines possibly in the cache, the line written may be a modified one afterwards (R161, R432). -/
def State.storeByte (s : State) (p : PA) (v : Byte) : State :=
  let s' := { s with
    stale := { smm := s.smmSelected p.addr, addr := p.addr.toNat, byte := s.physByte p.addr } :: s.stale
    cache := { s.cache with
      dirty := s.cache.dirty || (s.writeBack p && (s.cache.used || s.cacheable p)) } }
  match s'.lineAt p.addr with
  | some e => s'.writeLine e.1 e.2 p v
  | none => s'.setMemByte p.addr v

/-! Modified lines go back to memory (R171), and what other bus agents do (R13 d, R620). -/

/-- Store a doubleword, byte by byte, in a memory. -/
def Memory.writeBytes (m : Memory) (a : Nat) (bs : List Byte) : Memory :=
  match bs with
  | [] => m
  | b :: rest => Memory.writeBytes (m.write a b) (a + 1) rest
/-- The bytes of a line's doublewords. -/
def wordsBytes (ws : List Word) : List Byte :=
  match ws with
  | [] => []
  | w :: rest => le32 w ++ wordsBytes rest
/-- The physical address of the first byte of line k. -/
def CacheLine.address (l : CacheLine) (k : Nat) : Nat :=
  ((l.tag ++ BitVec.ofNat 9 (k % 512) ++ 0#5 : BitVec 32)).toNat
/-- Store bytes in main memory, one after the other. -/
def State.setMainBytes (s : State) (a : Word) (bs : List Byte) : State :=
  match bs with
  | [] => s
  | b :: rest => (s.setMainByte a b).setMainBytes (a + 1#32) rest
/-- Write a sector back to the memory it belongs to if it is modified: the lower (0) or the upper one (R171, R575). -/
def State.writeBackSector (s : State) (k i : Nat) (l : CacheLine) : State :=
  if (if i = 0 then l.mesi0 else l.mesi1) == 0x8#4 then
    let a := l.address k + 16 * i
    let bs := ((wordsBytes l.data).drop (16 * i)).take 16
    if l.smi then { s with smm := s.smm.writeBytes a bs } else s.setMainBytes (BitVec.ofNat 32 a) bs
  else s
/-- The cache after an inquiry for a main memory address: `f` is applied to the MESI code of the sector that holds it, unless
that is locked (R171, R176, R36). -/
def Cache.inquired (c : Cache) (pa : Word) (f : BitVec 4 → BitVec 4) : Cache :=
  { c with lines := c.lines.map fun e =>
      if !e.2.smi && e.2.tag == pa.extractLsb' 14 18 && e.1 % 512 == (pa.extractLsb' 5 9).toNat &&
          !mesiLocked (e.2.mesi pa) then (e.1, e.2.setMesi pa (f (e.2.mesi pa)))
      else e }
/-- An inquiry writes a modified sector back (R171); a locked one is not modified (R180). -/
def State.inquiryWriteBack (s : State) (pa : Word) : State :=
  match s.cache.hit false false pa with
  | some e => s.writeBackSector e.1 (if pa.getLsbD 4 then 1 else 0) e.2
  | none => s
/-- The MESI code of a sector that another agent has read: modified and exclusive become shared (R171). -/
def mesiShared (m : BitVec 4) : BitVec 4 := if m == 0x8#4 || m == 0xA#4 then 0x9#4 else m
/-- Another bus agent reads a byte of main memory (R171). -/
def State.busRead (s : State) (pa : Word) : State :=
  { s.inquiryWriteBack pa with cache := s.cache.inquired pa mesiShared }
/-- Another bus agent writes a byte of main memory (R13 d, R620): the sector that holds it becomes invalid (R171). The byte
that the core read there before, a modified line's as well, is one that a fetch may still see (R166, log 9); behind a locked
line the core sees nothing of the write (R157, R176). -/
def State.busWrite (s : State) (pa : Word) (v : Byte) : State :=
  let line := s.cache.hit false false pa
  let old : StaleByte :=
    { smm := false, addr := pa.toNat, byte := match line with
      | some e => e.2.byte pa
      | none => s.mainByte pa }
  let hidden := match line with
    | some e => mesiLocked (e.2.mesi pa)
    | none => false
  { (s.inquiryWriteBack pa).setMainByte pa v with
    stale := if hidden then s.stale else old :: s.stale
    cache := s.cache.inquired pa fun _ => 0x3#4 }
/-- What other agents do at one moment. -/
def State.busDo (s : State) (es : List BusEvent) : State :=
  match es with
  | [] => s
  | .read pa :: rest => (s.busRead pa).busDo rest
  | .write pa v :: rest => (s.busWrite pa v).busDo rest
/-- What other agents do at several moments. -/
def State.busAll (s : State) (ess : List (List BusEvent)) : State :=
  match ess with
  | [] => s
  | es :: rest => (s.busDo es).busAll rest
/-- The next moment of the step at which other agents have the bus. -/
def State.busNext (s : State) : State :=
  match s.bus with
  | [] => s
  | es :: rest => { s with bus := rest }.busDo es
/-- All that other agents still do in this step. -/
def State.busRest (s : State) : State := ({ s with bus := [] } : State).busAll s.bus
/-- The bus is free for other agents, if `free`. -/
def busPoint (free : Bool) : Act Unit := if free then upd State.busNext else pure ()

/-! The accesses (R149, R157, R163). -/

/-- Read one byte at a physical address. -/
def physReadByte (pa : Word) : Act Byte := fun s =>
  if s.cfg.anyRegionBad then .error (.refuse .misalignedRegion) s else .ok (s.physByte pa) s
/-- Write one byte at a physical address (R157). A write in a protected region that hits a locked line is refused too: R157 has
both, step (2) and step (3), for it (DESIGN CHOICE, log 48). -/
def physWriteByte (p : PA) (v : Byte) : Act Unit := fun s =>
  if s.cfg.anyRegionBad then .error (.refuse .misalignedRegion) s
  else if s.writeProtected p then .error (.refuse .writeProtectedRegion) s
  else .ok () (s.storeByte p v)
/-- LOCK# is asserted for the whole access (R163). Where a locked operand lies partly under weak locking it is not, and all of its
read and write is divisible (DESIGN CHOICE, log 9). -/
def lockHeld (pas : List PA) : Bool := pas.all PA.lock
/-- No other agent comes between the bytes: LOCK# is asserted, or the access is an aligned one of 1, 2 or 4 bytes (R149, D4). -/
def indivisible (pas : List PA) : Bool :=
  lockHeld pas ||
    match pas with
    | [] => true
    | p :: _ => [1, 2, 4].contains pas.length && decide (p.addr.toNat % pas.length = 0)
/-- Read bytes, the bus free before each where `apart`. The order of the bytes loses nothing: what other agents do is scheduled
byte by byte (D4, log 9). -/
def readBytes (apart : Bool) (pas : List PA) : Act (List Byte) :=
  match pas with
  | [] => pure []
  | p :: rest => do
    busPoint apart
    let b ← physReadByte p.addr
    let bs ← readBytes apart rest
    return b :: bs
/-- Write bytes, the bus free before each where `apart`. -/
def writeBytes (apart : Bool) (pas : List PA) (bs : List Byte) : Act Unit :=
  match pas, bs with
  | p :: rest, b :: bs' => do
    busPoint apart
    physWriteByte p b
    writeBytes apart rest bs'
  | _, _ => pure ()
/-- Read the bytes at the given physical addresses: other agents may act before the access and, unless it is indivisible, before
each byte (R149). -/
def physRead (pas : List PA) : Act (List Byte) := do
  busPoint (indivisible pas)
  readBytes (!indivisible pas) pas
/-- Write bytes to the given physical addresses, likewise; with LOCK# asserted since the read, other agents have no bus (R163,
R280). -/
def physWrite (pas : List PA) (bs : List Byte) : Act Unit := do
  busPoint (indivisible pas && !lockHeld pas)
  writeBytes (!indivisible pas) pas bs
/-- The number that bytes in memory order spell, low byte first (R144). -/
def leNat (bs : List Byte) : Nat :=
  match bs with
  | [] => 0
  | b :: rest => b.toNat + 256 * leNat rest
/-- n consecutive physical addresses. -/
def paRange (pa : Word) (n : Nat) : List Word :=
  match n with
  | 0 => []
  | k + 1 => pa :: paRange (pa + 1#32) k
/-- Read n bytes from a physical address as a number (PhysRead, R10). -/
def physReadN (pa : Word) (n : Nat) : Act Nat := do return leNat (← physRead (plain (paRange pa n)))
/-- Write n bytes of a number at a physical address (PhysWrite, R10). -/
def physWriteN (pa : Word) (n v : Nat) : Act Unit := physWrite (plain (paRange pa n)) (bytesOf n v)

/-! Paging (R215 to R222). -/

/-- The kind of an access (R206). -/
inductive Acc | read | write | exec
deriving DecidableEq, Repr

/-- Page-level permission (R218). -/
def pagePermits (wp u w : Bool) (kind : Acc) (user : Bool) : Bool :=
  (!user || u) && (kind != .write || w || (!user && !wp))
/-- CR0.WP -/
def State.wp (s : State) : Bool := s.cr0.getLsbD 16
/-- CR4.PGE -/
def State.pge (s : State) : Bool := s.cr4.getLsbD 7

/-- The valid entries of the TLBs for a linear page that allow the access as it stands (R216, R220). -/
def State.tlbMatches (s : State) (la : Word) (kind : Acc) (user : Bool) : List TlbEntry :=
  ((s.tlb.l1.map Prod.snd) ++ (s.tlb.l2.map Prod.snd) ++ s.tlb.cached).filter fun e =>
    e.v && e.lin == la.extractLsb' 12 20 && pagePermits s.wp e.u e.w kind user && (kind != .write || e.d)

/-- One bit as a word with that bit at position `i`. -/
def codeBit (i : Nat) (b : Bool) : Word16 := (BitVec.ofBool b).setWidth 16 <<< i
/-- The page fault error code in the layout PF_ERRCODE_LAYOUT (R511). -/
def pfCode (l : PfLayout) (present : Bool) (kind : Acc) (user : Bool) : Word16 :=
  codeBit l.p present ||| codeBit l.w (kind == .write) ||| codeBit l.u user
/-- Record the faulting linear address and raise #PF (R216, R39). -/
def pageFault {α : Type} (la : Word) (kind : Acc) (user present : Bool) : Act α := do
  upd fun s => { s with cr2 := la }
  raise (.pf (pfCode (← get).part.pfLayout present kind user))

/-- A translation: the page frame with PCD and PWT of its entry (R223), and, for a walk, the table entries and their
addresses, to be marked when the whole access has passed its checks (R219, D25). -/
structure Xlat where
  frame : BitVec 20
  pcd : Bool
  pwt : Bool
  walk : Option (Word × Word × Word × Word)
deriving DecidableEq, Repr

/-- Walk the page tables (R216). -/
def pageWalk (la : Word) (kind : Acc) (user : Bool) : Act Xlat := do
  let s ← get
  let dteA : Word := s.cr3.extractLsb' 12 20 ++ la.extractLsb' 22 10 ++ 0#2
  let dte := BitVec.ofNat 32 (← physReadN dteA 4)
  if !dte.getLsbD 0 then pageFault la kind user false else
  let pteA : Word := dte.extractLsb' 12 20 ++ la.extractLsb' 12 10 ++ 0#2
  let pte := BitVec.ofNat 32 (← physReadN pteA 4)
  if !pte.getLsbD 0 then pageFault la kind user false else
  if !pagePermits s.wp (dte.getLsbD 2 && pte.getLsbD 2) (dte.getLsbD 1 && pte.getLsbD 1) kind user then
    pageFault la kind user true
  else return { frame := pte.extractLsb' 12 20, pcd := pte.getLsbD 4, pwt := pte.getLsbD 3, walk := some (dteA, dte, pteA, pte) }

/-- Translate a linear address without marking the tables: a cached translation, where one matches, may be used or
not (R216, R221); with paging off the linear address is physical (R153). -/
def translate (la : Word) (kind : Acc) (user : Bool) : Act Xlat := do
  let s ← get
  if !s.pg then return { frame := la.extractLsb' 12 20, pcd := false, pwt := false, walk := none }
  else
    match s.tlbMatches la kind user with
    | [] => pageWalk la kind user
    | e :: es => do
      let k ← drawChoice (es.length + 1)
      match (e :: es)[k]? with
      | some x => return { frame := x.phys, pcd := x.pcd, pwt := x.pwt, walk := none }
      | none => pageWalk la kind user

/-- Set bits of a page table entry by a locked read-modify-write (R219): the entry as it is now, bits that are set already
left alone. `wt` is the PWT of the page that holds the entry (R161). -/
def markEntry (a : Word) (wt : Bool) (bits : Word) : Act Unit := do
  let pas : List PA := (paRange a 4).map fun x => { addr := x, nc := true, wt := wt, lock := true }
  let e := BitVec.ofNat 32 (leNat (← physRead pas))
  if e ||| bits != e then physWrite pas (bytesOf 4 (e ||| bits).toNat)
/-- Mark the walked entries accessed, and dirty for a write, and keep the translation (R216, R219). The write policy of a page
table is the PWT of its directory entry (R161, R223); the PWT of CR3 drives a pin and acts on nothing (R40; log 16). -/
def commitXlat (la : Word) (kind : Acc) (x : Xlat) : Act Unit :=
  match x.walk with
  | none => pure ()
  | some (dteA, dte, pteA, pte) => do
    markEntry dteA false 0x20#32
    markEntry pteA (dte.getLsbD 3) (if kind == .write then 0x60#32 else 0x20#32)
    upd fun s =>
      let e : TlbEntry :=
        { lin := la.extractLsb' 12 20, phys := x.frame, v := true, d := pte.getLsbD 6 || kind == .write,
          g := pte.getLsbD 8 && s.pge, u := dte.getLsbD 2 && pte.getLsbD 2, w := dte.getLsbD 1 && pte.getLsbD 1,
          a := true, pcd := pte.getLsbD 4, pwt := pte.getLsbD 3 }
      if s.tlb.cached.contains e then s else { s with tlb := { s.tlb with cached := e :: s.tlb.cached } }

/-- The physical addresses of n bytes from linear address la: those of linear page `page` by translation `x1`, the others by
`x2` (R216). -/
def physAddrs (la : Word) (x1 x2 : Xlat) (page : BitVec 20) (n : Nat) : List PA :=
  match n with
  | 0 => []
  | k + 1 =>
    let x := if la.extractLsb' 12 20 == page then x1 else x2
    { addr := x.frame ++ la.extractLsb' 0 12, nc := x.pcd, wt := x.pwt, lock := false } :: physAddrs (la + 1#32) x1 x2 page k

/-- Alignment checking applies and fails (R147): `al` is the natural alignment, 1 for none. The address tested is the linear
one (DEDUCED, log 51). -/
def State.misaligned (s : State) (la : Word) (al : Nat) : Bool :=
  s.cr0.getLsbD 18 && s.flags.ac && s.cpl == 3#2 && decide (la.toNat % al ≠ 0)

/-- The linear page of the last of n bytes. -/
def lastPage (la : Word) (n : Nat) : BitVec 20 := (la + BitVec.ofNat 32 (n - 1)).extractLsb' 12 20
/-- Translate every page that n bytes touch: all of them before anything is transferred or marked (R149, R216).
The page of the first byte comes first, and a fault of the second page puts the address of that page's first byte in CR2
(DESIGN CHOICE, log 64). -/
def linXlat (la : Word) (n : Nat) (kind : Acc) (user : Bool) : Act (Xlat × Option Xlat) := do
  let x1 ← translate la kind user
  if lastPage la n == la.extractLsb' 12 20 then return (x1, none)
  else return (x1, some (← translate (lastPage la n ++ 0#12) kind user))
/-- Check and translate an access of n bytes at a linear address; the answer is the physical address of each byte
(R149, R216, R497: page fault, then alignment). -/
def linAccess (la : Word) (n : Nat) (kind : Acc) (user : Bool) (al : Nat) : Act (List PA) := do
  let (x1, x2) ← linXlat la n kind user
  if (← get).misaligned la al then raise .ac
  commitXlat la kind x1
  match x2 with
  | none => return physAddrs la x1 x1 (la.extractLsb' 12 20) n
  | some x => do
    commitXlat (lastPage la n ++ 0#12) kind x
    return physAddrs la x1 x (la.extractLsb' 12 20) n

/-- LinRead (R10): a supervisor read of n bytes at a linear address. -/
def linRead (la : Word) (n : Nat) : Act Nat := do return leNat (← physRead (← linAccess la n .read false 1))
/-- LinWrite (R10): a supervisor write. -/
def linWrite (la : Word) (n v : Nat) : Act Unit := do physWrite (← linAccess la n .write false 1) (bytesOf n v)

/-! Segment accesses (R206) and breakpoint conditions (R591). -/

/-- The segment checks of R206; the answer is the linear address. The type checks apply in protected mode alone: not in real
mode (R206), nor in V86 mode, where a register is loaded without a check (R205; DEDUCED, log 30). -/
def segCheck (r : SegReg) (off : Word) (n : Nat) (kind : Acc) : Act Word := do
  let s ← get
  let g := s.segs.get r
  let bad : Exc := if r = .ss then .ss 0#16 else .gp 0#16
  if !s.realLike && !g.attr.p then raise (.gp 0#16)
  if !s.realLike && kind == .write && !g.attr.writable then raise bad
  if !s.realLike && kind == .read && g.attr.code && !g.attr.readableCode then raise bad
  if !g.within off n then raise bad
  return g.base + off

/-- The ranges of n units from a and of len units from lo intersect, addresses taken modulo 2^w (R591). -/
def rangesMeet {w : Nat} (a : BitVec w) (n : Nat) (lo : BitVec w) (len : Nat) : Bool :=
  decide ((lo - a).toNat < n) || decide ((a - lo).toNat < len)
/-- Breakpoint address i. -/
def DebugRegs.addr (d : DebugRegs) (i : Nat) : Word :=
  match i with
  | 0 => d.dr0 | 1 => d.dr1 | 2 => d.dr2 | _ => d.dr3
/-- R/Wi (R47). -/
def DebugRegs.rw (d : DebugRegs) (i : Nat) : BitVec 2 := d.dr7.extractLsb' (16 + 4 * i) 2
/-- LENi (R47). -/
def DebugRegs.len (d : DebugRegs) (i : Nat) : BitVec 2 := d.dr7.extractLsb' (18 + 4 * i) 2
/-- Li or Gi (R591). -/
def DebugRegs.enabled (d : DebugRegs) (i : Nat) : Bool := d.dr7.getLsbD (2 * i) || d.dr7.getLsbD (2 * i + 1)
/-- The n units at address a meet breakpoint i; LEN = 10 never matches (R591, D16). -/
def DebugRegs.meets {w : Nat} (d : DebugRegs) (i : Nat) (a : BitVec w) (n : Nat) : Bool :=
  match (d.len i).toNat with
  | 0 => rangesMeet a n ((d.addr i).setWidth w) 1
  | 1 => rangesMeet a n ((d.addr i &&& 0xFFFFFFFE#32).setWidth w) 2
  | 3 => rangesMeet a n ((d.addr i &&& 0xFFFFFFFC#32).setWidth w) 4
  | _ => false
/-- A bit for each breakpoint whose condition holds. -/
def hitBits (f : Nat → Bool) : BitVec 4 :=
  BitVec.ofBool (f 3) ++ BitVec.ofBool (f 2) ++ BitVec.ofBool (f 1) ++ BitVec.ofBool (f 0)
/-- Data breakpoint conditions of an access (R591). -/
def State.dataHits (s : State) (la : Word) (n : Nat) (kind : Acc) : BitVec 4 :=
  hitBits fun i =>
    (s.dr.rw i == 3#2 || (s.dr.rw i == 1#2 && kind == .write)) && s.dr.meets i la n
/-- I/O breakpoint conditions of an access (R592). -/
def State.ioHits (s : State) (port : Word16) (n : Nat) : BitVec 4 :=
  hitBits fun i => s.dr.rw i == 2#2 && s.cr4.getLsbD 3 && s.dr.meets i port n
/-- Execution breakpoint conditions at a linear address: only the first byte counts, LEN taken as 00 (R591); LEN = 10 is "Not
used" and never matches (D16, U15). -/
def State.execHits (s : State) (la : Word) : BitVec 4 :=
  hitBits fun i => s.dr.rw i == 0#2 && s.dr.len i != 2#2 && s.dr.addr i == la
/-- Some condition belongs to an enabled breakpoint (R591). -/
def State.hitEnabled (s : State) (h : BitVec 4) : Bool :=
  (h.getLsbD 0 && s.dr.enabled 0) || (h.getLsbD 1 && s.dr.enabled 1) || (h.getLsbD 2 && s.dr.enabled 2) ||
    (h.getLsbD 3 && s.dr.enabled 3)
/-- Record breakpoint conditions of the instruction in progress. -/
def noteHits (h : State → BitVec 4) : Act Unit := upd fun s => { s with cur := { s.cur with hits := s.cur.hits ||| h s } }

/-- Check and translate a program access of n bytes through a segment (MemRead, MemWrite of R10 before the transfer). Under
the LOCK prefix its cycles are locked (R163). -/
def segAccess (r : SegReg) (off : Word) (n : Nat) (kind : Acc) (al : Nat) : Act (List PA) := do
  let la ← segCheck r off n kind
  let pas ← linAccess la n kind ((← get).cpl == 3#2) al
  noteHits fun s => s.dataHits la n kind
  let s ← get
  return if s.cur.pfx.lock then s.lockPas pas else pas
/-- MemRead (R10): n bytes, natural alignment al. -/
def memRead (r : SegReg) (off : Word) (n al : Nat) : Act Nat := do
  return leNat (← physRead (← segAccess r off n .read al))
/-- MemWrite (R10). -/
def memWrite (r : SegReg) (off : Word) (n al v : Nat) : Act Unit := do
  physWrite (← segAccess r off n .write al) (bytesOf n v)

/-! The order of faults on several references (R497). -/

/-- A memory reference that an instruction has still to make: segment, offset, bytes, kind. -/
structure Ref where
  seg : SegReg
  off : Word
  n : Nat
  kind : Acc
deriving DecidableEq, Repr
/-- The segmentation fault of a reference, priority 12 of R496. -/
def Ref.segFault (r : Ref) (s : State) : Option Exc :=
  match segCheck r.seg r.off r.n r.kind s with
  | .error (.exc e) _ => some e
  | _ => none
/-- The page fault of a reference, priority 13 of R496, with the state that has its CR2. -/
def Ref.pageFault (r : Ref) (s : State) : Option (Exc × State) :=
  match linXlat ((s.segs.get r.seg).base + r.off) r.n r.kind (s.cpl == 3#2) s with
  | .error (.exc e) t => some (e, t)
  | _ => none
/-- A reference, `later` being those that follow it (R497): when it faults, a later reference's fault of higher priority is
raised in its place: any segmentation fault before a page fault, these before an alignment check. Reads of descriptors, gates
and the TSS are not such references: they fault where the pseudocode has them (DESIGN CHOICE, log 68). -/
def before {α : Type} (later : List Ref) (a : Act α) : Act α := fun s =>
  match a s with
  | .error (.exc e) t =>
    if e.vec == 14#8 || e.vec == 17#8 then
      match later.findSome? fun r => r.segFault s with
      | some x => .error (.exc x) { t with cr2 := s.cr2 }
      | none =>
        if e.vec == 17#8 then
          match later.findSome? fun r => r.pageFault t with
          | some (x, u) => .error (.exc x) u
          | none => .error (.exc e) t
        else .error (.exc e) t
    else .error (.exc e) t
  | x => x
/-- Only the checks of an access (R497): nothing is marked, noted or transferred, and other agents act after it. -/
def checkOnly {α : Type} (a : Act α) : Act Unit := fun s =>
  match a s with
  | .ok _ t => .ok () { s with freeCtr := t.freeCtr }
  | .error e t => .error e t

/-! The stack (R364, R365). -/

/-- Bytes of an operand size. -/
def osBytes : OSize → Nat
  | .w16 => 2
  | .w32 => 4
/-- Bits of an operand size. -/
def osBits : OSize → Nat
  | .w16 => 16
  | .w32 => 32
/-- The low OS bits of a doubleword, zero-extended. -/
def osTrunc (sz : OSize) (v : Word) : Word :=
  match sz with
  | .w16 => v &&& 0xFFFF#32
  | .w32 => v
/-- The stack pointer wraps at the stack address width: the D bit of SS (R365). -/
def wrapSp (ss : Seg) (x : Word) : Word := if ss.attr.d then x else x &&& 0xFFFF#32
/-- StackPtr (R365). -/
def State.stackPtr (s : State) : Word := wrapSp s.segs.ss s.regs.esp
/-- The register value after SetStackPtr (R365): with a 16-bit stack the upper half of ESP stays. -/
def newEsp (ss : Seg) (old x : Word) : Word :=
  if ss.attr.d then x else old.extractLsb' 16 16 ++ x.extractLsb' 0 16
/-- SetStackPtr (R365). -/
def setStackPtr (x : Word) : Act Unit :=
  upd fun s => { s with regs := { s.regs with esp := newEsp s.segs.ss s.regs.esp x } }
/-- The offset of the k-th item of `sz` pushed from stack pointer sp (k = 1 for the first). -/
def pushOff (ss : Seg) (sz : OSize) (sp : Word) (k : Nat) : Word := wrapSp ss (sp - BitVec.ofNat 32 (k * osBytes sz))
/-- The offset of the k-th item above stack pointer sp (k = 0 for the first popped). -/
def popOff (ss : Seg) (sz : OSize) (sp : Word) (k : Nat) : Word := wrapSp ss (sp + BitVec.ofNat 32 (k * osBytes sz))

/-- The references that push `n` items from number k on. -/
def State.pushRefs (s : State) (sz : OSize) (k n : Nat) : List Ref :=
  match n with
  | 0 => []
  | m + 1 =>
    { seg := .ss, off := pushOff s.segs.ss sz s.stackPtr k, n := osBytes sz, kind := .write } :: s.pushRefs sz (k + 1) m
/-- The references that pop `n` items from number k on. -/
def State.popRefs (s : State) (sz : OSize) (k n : Nat) : List Ref :=
  match n with
  | 0 => []
  | m + 1 =>
    { seg := .ss, off := popOff s.segs.ss sz s.stackPtr k, n := osBytes sz, kind := .read } :: s.popRefs sz (k + 1) m
/-- Check the places of pushed items, the first being number k (R365: all accesses before any change). -/
def pushPlaces (sz : OSize) (k : Nat) (vals : List Word) : Act (List (List PA)) :=
  match vals with
  | [] => pure []
  | _ :: rest => do
    let s ← get
    let pas ← before (s.pushRefs sz (k + 1) rest.length)
      (segAccess .ss (pushOff s.segs.ss sz s.stackPtr k) (osBytes sz) .write (osBytes sz))
    let more ← pushPlaces sz (k + 1) rest
    return pas :: more
/-- Store items at checked places. -/
def writeItems (sz : OSize) (places : List (List PA)) (vals : List Word) : Act Unit :=
  match places, vals with
  | pas :: ps, v :: vs => do
    physWrite pas (bytesOf (osBytes sz) v.toNat)
    writeItems sz ps vs
  | _, _ => pure ()
/-- Commit the pushes: store the items, then move the stack pointer. -/
def pushCommit (sz : OSize) (places : List (List PA)) (vals : List Word) : Act Unit := do
  writeItems sz places vals
  let s ← get
  setStackPtr (pushOff s.segs.ss sz s.stackPtr vals.length)
/-- Push items of OS bits in order, all checked before any is stored (R365). -/
def pushMany (sz : OSize) (vals : List Word) : Act Unit := do
  let places ← pushPlaces sz 1 vals
  pushCommit sz places vals
/-- Push_OS (R365). -/
def push (sz : OSize) (v : Word) : Act Unit := pushMany sz [v]
/-- Read the k-th item above the stack pointer without moving it. -/
def peekStack (sz : OSize) (k : Nat) : Act Word := do
  let s ← get
  return BitVec.ofNat 32 (← memRead .ss (popOff s.segs.ss sz s.stackPtr k) (osBytes sz) (osBytes sz))
/-- Read the k-th of n items, those after it still to be read. -/
def peekItem (sz : OSize) (n k : Nat) : Act Word := do
  before ((← get).popRefs sz (k + 1) (n - 1 - k)) (peekStack sz k)
/-- Move the stack pointer up past n items and m bytes. -/
def dropStack (sz : OSize) (n m : Nat) : Act Unit := do
  let s ← get
  setStackPtr (wrapSp s.segs.ss (s.stackPtr + BitVec.ofNat 32 (n * osBytes sz + m)))
/-- Pop_OS (R365). -/
def pop (sz : OSize) : Act Word := do
  let v ← peekStack sz 0
  dropStack sz 1 0
  return v
/-- A selector as an item of OS bits: with 32 bits its upper half is undefined (U3). -/
def selItem (sz : OSize) (sel : Word16) : Act Word :=
  match sz with
  | .w16 => pure (sel.setWidth 32)
  | .w32 => do return (← drawWord16) ++ sel

/-! Loading segment registers (R191, R205). -/

/-- Read the descriptor a selector names, with its linear address; outside its table raise `bad` (R191). While LDTR
is marked invalid (R424) it holds no descriptor; what RSLDT installed is used with no check but its limit (R464). -/
def readDesc (sel : Word16) (bad : Exc) : Act (Word × BitVec 64) := do
  let s ← get
  let off := (sel &&& 0xFFF8#16).toNat
  if sel.getLsbD 2 then
    if s.ldtrInvalid || !decide (off + 7 ≤ s.ldtr.limit.toNat) then raise bad
    let a := s.ldtr.base + BitVec.ofNat 32 off
    return (a, BitVec.ofNat 64 (← linRead a 8))
  else
    if !decide (off + 7 ≤ s.gdtr.limit.toNat) then raise bad
    let a := s.gdtr.base + BitVec.ofNat 32 off
    return (a, BitVec.ofNat 64 (← linRead a 8))
/-- Set the accessed bit of an application descriptor in memory if it is clear (R198). -/
def markAccessed (a : Word) (d : BitVec 64) : Act Unit :=
  if d.getLsbD 44 && !d.getLsbD 40 then linWrite (a + 5#32) 1 ((d.extractLsb' 40 8 ||| 1#8).toNat) else pure ()
/-- The larger of two privilege levels: the effective privilege level (R192). -/
def epl (a b : BitVec 2) : BitVec 2 := if a ≤ b then b else a

/-- Check a stack segment selector for privilege level `lvl`; null and bad selectors raise what `nullX`, `badX` say,
a segment not present `npX` (R205, R502). -/
def checkStackSel (sel : Word16) (lvl : BitVec 2) (nullX badX npX : Exc) : Act (Word × BitVec 64) := do
  if nullSel sel then raise nullX
  let (a, d) ← readDesc sel badX
  let at' := descAttr d
  if rpl sel != lvl || !at'.writable || at'.dpl != lvl then raise badX
  if !at'.p then raise npX
  return (a, d)

/-- LoadSeg (R205) in protected mode, the load of R152 in real and V86 mode. -/
def loadSeg (r : SegReg) (sel : Word16) : Act Unit := do
  let s ← get
  if s.realLike then setSeg r (s.loadReal (s.segs.get r) sel)
  else if r = .ss then
    let bad := Exc.gp (selCode sel)
    let (a, d) ← checkStackSel sel s.cpl (.gp 0#16) bad (.ss (selCode sel))
    markAccessed a d
    setSeg .ss (Seg.ofDesc sel d)
  else if nullSel sel then setSeg r ((s.segs.get r).nullLoad sel)
  else
    let bad := Exc.gp (selCode sel)
    let (a, d) ← readDesc sel bad
    let at' := descAttr d
    if !at'.dt || (at'.code && !at'.readableCode) then raise bad
    if !at'.conforming && decide (at'.dpl < epl s.cpl (rpl sel)) then raise bad
    if !at'.p then raise (.np (selCode sel))
    markAccessed a d
    setSeg r (Seg.ofDesc sel d)

/-! Changing EIP (R331) and the code segment (R332). -/

/-- CS.D, 0 in real and V86 mode (R243). -/
def State.codeD (s : State) : Bool := !s.realLike && s.segs.cs.attr.d
/-- The offset of what stands k bytes after offset x of the code segment. In 16-bit code only IP is used and the upper half of
EIP is zero, so that IP wraps within 64 KByte where the limit lets it; past the limit the fetch faults (R25, log 43). -/
def State.offAfter (s : State) (x : Word) (k : Nat) : Word :=
  let t := x + BitVec.ofNat 32 k
  if s.codeD || decide (s.segs.cs.limit < t) then t else t &&& 0xFFFF#32

/-- LoadEIP (R331). The upper half of an offset loaded with 32-bit operand size in 16-bit code is dropped when the step ends
(State.tick, R25). -/
def loadEip (sz : OSize) (t : Word) : Act Unit := do
  let t := osTrunc sz t
  if decide ((← get).segs.cs.limit < t) then raise (.gp 0#16)
  upd fun s => { s with eip := t }
/-- An unconditional control transfer: fetch sees every store made before it (R166). -/
def transferred : Act Unit := upd fun s => { s with stale := [] }
/-- A JMP or CALL: a transfer, and the branch that a change of CR0.PG calls for (R651). -/
def branched : Act Unit := upd fun s => { s with stale := [], branchDue := false }

/-! Taking an exception or interrupt (R500 to R503). -/

/-- What is being delivered (R500). -/
inductive Kind | software | exception | external
deriving DecidableEq, Repr

/-- RealDeliver (R501). RF stays: the rule clears IF and TF only, while R594 says that delivery clears RF (DESIGN CHOICE, log
29). -/
def realDeliver (v : Byte) (e : Word) : Act Unit := do
  let s ← get
  if decide (s.idtr.limit.toNat < 4 * v.toNat + 3) then raise ⟨8#8, none⟩
  let p := BitVec.ofNat 32 (← linRead (s.idtr.base + BitVec.ofNat 32 (4 * v.toNat)) 4)
  pushMany .w16 [s.flags.toWord, s.segs.cs.sel.setWidth 32, e]
  upd fun s => { s with
    flags := { s.flags with ifl := false, tf := false }
    segs := { s.segs with cs := s.loadReal s.segs.cs (p.extractLsb' 16 16) }
    eip := (p.extractLsb' 0 16).setWidth 32 }

/-- The stack pointer fields of the TSS for level L; #TS beyond its limit (R502, R203, R204). -/
def tssStack (lvl : BitVec 2) (x : Word16) : Act (Word16 × Word) := do
  let s ← get
  let l := lvl.toNat
  let bad := Exc.ts (selCode s.tr.sel + x)
  if s.tr.attr.typ.getLsbD 3 then
    if decide (s.tr.limit.toNat < 8 * l + 9) then raise bad
    let sp ← linRead (s.tr.base + BitVec.ofNat 32 (4 + 8 * l)) 4
    let ss ← linRead (s.tr.base + BitVec.ofNat 32 (8 + 8 * l)) 2
    return (BitVec.ofNat 16 ss, BitVec.ofNat 32 sp)
  else
    if decide (s.tr.limit.toNat < 4 * l + 5) then raise bad
    let sp ← linRead (s.tr.base + BitVec.ofNat 32 (2 + 4 * l)) 2
    let ss ← linRead (s.tr.base + BitVec.ofNat 32 (4 + 4 * l)) 2
    return (BitVec.ofNat 16 ss, BitVec.ofNat 32 sp)

/-- The first `n` items pushed from sp lie within stack segment `g`. -/
def stackRoom (g : Seg) (sz : OSize) (sp : Word) (n : Nat) : Bool :=
  match n with
  | 0 => true
  | k + 1 => stackRoom g sz sp k && g.within (pushOff g sz sp (k + 1)) (osBytes sz)

/-- Translate the places of items on a new inner stack, with supervisor privilege (R502); they are accesses through a segment
for breakpoints (R591). -/
def innerPlaces (g : Seg) (sz : OSize) (sp : Word) (k : Nat) (vals : List Word) : Act (List (List PA)) :=
  match vals with
  | [] => pure []
  | _ :: rest => do
    let pas ← linAccess (g.base + pushOff g sz sp k) (osBytes sz) .write false 1
    noteHits fun s => s.dataHits (g.base + pushOff g sz sp k) (osBytes sz) .write
    let more ← innerPlaces g sz sp (k + 1) rest
    return pas :: more

/-- A dummy list with as many items as a list of values will have. -/
def blanks (n : Nat) : List Word := List.replicate n 0#32

/-- The EFLAGS image pushed: RF is 1 for a fault (R500). -/
def flagsImage (f : Flags) (fault : Bool) : Word := ({ f with rf := f.rf || fault } : Flags).toWord

/-- The error code as an item: its upper half through a 32-bit gate is undefined (R502). -/
def codeItems (sz : OSize) (c : Option Word16) : Act (List Word) :=
  match c with
  | none => pure []
  | some c => do return [← selItem sz c]

/-- The handler's CS:EIP and flags (end of R502). -/
def enterHandler (sel : Word16) (d : BitVec 64) (off : Word) (lvl : BitVec 2) (interruptGate : Bool) : Act Unit :=
  upd fun s => { s with
    segs := { s.segs with cs := Seg.ofDesc (selCode sel ||| lvl.setWidth 16) d }
    cpl := lvl
    eip := off
    flags := { s.flags with
      tf := false, nt := false, vm := false, rf := false, ifl := s.flags.ifl && !interruptGate } }

/-- Entry at an inner level: the stack of that level, the interrupted SS:ESP and, from V86 mode, the data segment
registers are pushed on it (R502, R503). -/
def innerEntry (sz : OSize) (sel : Word16) (da : Word) (d : BitVec 64) (off : Word) (x : Word16) (e : Word)
    (c : Option Word16) (fault interruptGate : Bool) : Act Unit := do
  let s ← get
  let lvl := (descAttr d).dpl
  let (nss, nsp) ← tssStack lvl x
  let bad := Exc.ts (selCode nss + x)
  let (sa, sd) ← checkStackSel nss lvl (.ts x) bad (.ss (selCode nss + x))
  let g := Seg.ofDesc nss sd
  let items := 5 + (if s.flags.vm then 4 else 0) + (if c.isSome then 1 else 0)
  let sp := wrapSp g nsp
  if !stackRoom g sz sp items then raise (.ss (selCode nss + x))
  if decide (descLimit d < off) then raise (.gp x)
  let places ← innerPlaces g sz sp 1 (blanks items)
  markAccessed sa sd
  markAccessed da d
  let dataSels ← if s.flags.vm then do
      let a ← selItem sz s.segs.gs.sel
      let b ← selItem sz s.segs.fs.sel
      let c ← selItem sz s.segs.ds.sel
      let d ← selItem sz s.segs.es.sel
      pure [a, b, c, d]
    else pure []
  let oldSs ← selItem sz s.segs.ss.sel
  let oldCs ← selItem sz s.segs.cs.sel
  let code ← codeItems sz c
  writeItems sz places (dataSels ++ [oldSs, s.regs.esp, flagsImage s.flags fault, oldCs, e] ++ code)
  upd fun s => { s with
    segs := { s.segs with ss := g }
    regs := { s.regs with esp := newEsp g (newEsp g s.regs.esp nsp) (pushOff g sz sp items) } }
  if s.flags.vm then
    upd fun s => { s with
      segs := { s.segs with
        ds := s.segs.ds.nullLoad 0#16, es := s.segs.es.nullLoad 0#16
        fs := s.segs.fs.nullLoad 0#16, gs := s.segs.gs.nullLoad 0#16 } }
  enterHandler sel d off lvl interruptGate

/-- Entry at the same level (R502). -/
def sameEntry (sz : OSize) (sel : Word16) (da : Word) (d : BitVec 64) (off : Word) (x : Word16) (e : Word)
    (c : Option Word16) (fault interruptGate : Bool) : Act Unit := do
  let s ← get
  let items := 3 + (if c.isSome then 1 else 0)
  if !stackRoom s.segs.ss sz s.stackPtr items then raise (.ss x)
  if decide (descLimit d < off) then raise (.gp x)
  let places ← pushPlaces sz 1 (blanks items)
  markAccessed da d
  let oldCs ← selItem sz s.segs.cs.sel
  let code ← codeItems sz c
  pushCommit sz places ([flagsImage s.flags fault, oldCs, e] ++ code)
  enterHandler sel d off s.cpl interruptGate

/-- ProtDeliver (R502), V86 mode included (R503). -/
def protDeliver (kind : Kind) (v : Byte) (e : Word) (c : Option Word16) (fault : Bool) : Act Unit := do
  let s ← get
  let x : Word16 := if kind = .software then 0#16 else 1#16
  let idt : Word16 := v.setWidth 16 <<< 3 ||| 2#16 ||| x
  if decide (s.idtr.limit.toNat < 8 * v.toNat + 7) then raise (.gp idt)
  let g := BitVec.ofNat 64 (← linRead (s.idtr.base + BitVec.ofNat 32 (8 * v.toNat)) 8)
  let typ : BitVec 5 := g.extractLsb' 40 5
  if !(typ == 0x5#5 || typ == 0x6#5 || typ == 0x7#5 || typ == 0xE#5 || typ == 0xF#5) then raise (.gp idt)
  if kind = .software && decide (g.extractLsb' 45 2 < s.cpl) then raise (.gp idt)
  if !g.getLsbD 47 then raise (.np idt)
  if typ == 0x5#5 then refuse .taskGate
  let sz : OSize := if typ.getLsbD 3 then .w32 else .w16
  let sel : Word16 := g.extractLsb' 16 16
  let off : Word := if typ.getLsbD 3 then g.extractLsb' 48 16 ++ g.extractLsb' 0 16
    else (g.extractLsb' 0 16).setWidth 32
  if nullSel sel then raise (.gp x)
  let bad := Exc.gp (selCode sel + x)
  let (da, d) ← readDesc sel bad
  let at' := descAttr d
  if !at'.code || decide (s.cpl < at'.dpl) then raise bad
  if !at'.p then raise (.np (selCode sel + x))
  if s.flags.vm && (at'.conforming || at'.dpl != 0#2 || sz = .w16) then raise bad
  let interruptGate := typ == 0x6#5 || typ == 0xE#5
  if !at'.conforming && decide (at'.dpl < s.cpl) then innerEntry sz sel da d off x e c fault interruptGate
  else sameEntry sz sel da d off x e c fault interruptGate

/-- Deliver (R500): one attempt. A fault raised here is for the caller (R491). -/
def deliver (kind : Kind) (v : Byte) (e : Word) (c : Option Word16) (fault : Bool) : Act Unit := do
  if (← get).pe then protDeliver kind v e c fault else realDeliver v e
  transferred
  upd fun s => { s with halted := false, shutdown := false }

/-- What an abandoned instruction or delivery leaves changed (R484 b): page and descriptor accessed bits in memory,
CR2, the TLB, the cache, free values drawn, I/O cycles; all else is as before it. -/
def rollback (before after : State) : State :=
  { before with
    mem := after.mem, smm := after.smm, cache := after.cache, tlb := after.tlb, stale := after.stale, bus := after.bus
    cr2 := after.cr2, freeCtr := after.freeCtr, ioLog := after.ioLog }

/-- Contributory exceptions (R491). -/
def contributory (v : Byte) : Bool := v == 0#8 || v == 10#8 || v == 11#8 || v == 12#8 || v == 13#8

/-- What a second exception raised while delivering a first becomes (R491): none is shutdown. -/
def second (kind : Kind) (v : Byte) (e : Exc) : Option Exc :=
  if kind = .exception && v == 8#8 then none
  else if kind = .exception && contributory v && contributory e.vec then some .doubleFault
  else if kind = .exception && v == 14#8 && (contributory e.vec || e.vec == 14#8) then some .doubleFault
  else some e

/-- Deliver an event with its consequences (R491): `e` is the saved EIP. An event that cannot be delivered leads to the
second exception of R491, and at last to shutdown (R614). -/
def deliverAll (fuel : Nat) (kind : Kind) (v : Byte) (e : Word) (c : Option Word16) (fault : Bool) (s : State) :
    Host.Outcome State Fault Refusal :=
  match fuel with
  | 0 => .fault .deliveryLoop
  | k + 1 =>
    match (deliver kind v e c fault).run s with
    | .ok _ s' => .next s'
    | .error (.refuse r) _ => .refused r
    | .error (.exc x) s2 =>
      match second kind v x with
      | none => .next { rollback s s2 with shutdown := true }
      | some y => deliverAll k .exception y.vec e y.code true (rollback s s2)

/-- How many deliveries are followed before the chain counts as endless. The longest chain that ends (R491) is shorter; one
that #AC continues at each delivery does not end (log 18). -/
def deliveryFuel : Nat := 8

/-- Mark that the step ended in a handler; no instruction has completed since (R557). -/
def State.enteredHandler (s : State) : State :=
  { s with cur := { s.cur with entered := true }, lastIp := none, lastIo := none }
/-- Apply to a next state. -/
def mapNext (f : State → State) : Host.Outcome State Fault Refusal → Host.Outcome State Fault Refusal
  | .next s => .next (f s)
  | .fault x => .fault x
  | .refused r => .refused r

/-- Enter the debug exception (R590): DR6 records the conditions, GD is cleared, vector 1 is delivered. -/
def debugException (hits : BitVec 4) (bs fault : Bool) (e : Word) (s : State) : Host.Outcome State Fault Refusal :=
  let s1 := { s with dr := { s.dr with
    dr6 := s.dr.dr6 ||| hits.setWidth 32 ||| bitAt 14 bs
    dr7 := s.dr.dr7 &&& ~~~(bitAt 13 true) } }
  mapNext State.enteredHandler (deliverAll deliveryFuel .exception 1#8 e none fault s1)

/-- Deliver an exception that the instruction in progress raised (R484, R500): its effects are undone and EIP saved is
the address of its first byte. Vector 1 is the debug register fault of R595: by the pseudocode of R590 it records
the execution conditions met at this instruction's fetch, by its clause (e) it would record none (DESIGN CHOICE, log 69). -/
def deliverFault (x : Exc) (s : State) : Host.Outcome State Fault Refusal :=
  if x.vec == 1#8 then debugException (s.execHits (s.segs.cs.base + s.cur.ip)) false true s.cur.ip s
  else mapNext State.enteredHandler (deliverAll deliveryFuel .exception x.vec s.cur.ip x.code true s)

/-- Run the meaning of an instruction: its next state, the exception it takes, or a refusal. -/
def runInstr (a : Act Unit) (s : State) : Host.Outcome State Fault Refusal :=
  match a.run s with
  | .ok _ s' => .next s'
  | .error (.refuse r) _ => .refused r
  | .error (.exc x) s' => deliverFault x (rollback s s')

/-- A software interrupt (R489, R341 to R343): a trap, the saved EIP is that of the next instruction. A fault of the
delivery is a fault of the instruction. -/
def softInt (v : Byte) : Act Unit := do
  deliver .software v (← get).eip none false

/-! Returning from one (R340, R339, R504). -/

/-- Choose the new bit where the mask allows it. -/
def pick (allowed new old : Bool) : Bool := if allowed then new else old
/-- WriteFlags (R339): v has OS bits. -/
def State.writtenFlags (s : State) (v : Word) (sz : OSize) (isIret : Bool) : Flags :=
  let n := Flags.ofWord v
  let o := s.flags
  let wide := sz == .w32
  let top := !s.pe || s.cpl == 0#2
  { cf := n.cf, pf := n.pf, af := n.af, zf := n.zf, sf := n.sf, tf := n.tf, df := n.df, ofl := n.ofl, nt := n.nt
    iopl := if top then n.iopl else o.iopl
    ifl := pick (!s.pe || decide (s.cpl ≤ o.iopl)) n.ifl o.ifl
    ac := pick wide n.ac o.ac
    id := pick (wide && s.cfg.ccr4.getLsbD 7) n.id o.id
    rf := pick (wide && isIret) n.rf o.rf
    vm := pick (wide && isIret && s.pe && !o.vm && s.cpl == 0#2) n.vm o.vm }
/-- WriteFlags as an action. -/
def writeFlags (v : Word) (sz : OSize) (isIret : Bool) : Act Unit :=
  upd fun s => { s with flags := s.writtenFlags v sz isIret }

/-- The code segment a return names, checked (R338): the descriptor with its address. -/
def checkReturnSel (sel : Word16) (off : Word) : Act (Word × BitVec 64) := do
  let s ← get
  let bad := Exc.gp (selCode sel)
  if nullSel sel then raise (.gp 0#16)
  if decide (rpl sel < s.cpl) then raise bad
  let (a, d) ← readDesc sel bad
  let at' := descAttr d
  if !at'.code then raise bad
  if at'.conforming && decide (rpl sel < at'.dpl) then raise bad
  if !at'.conforming && at'.dpl != rpl sel then raise bad
  if !at'.p then raise (.np (selCode sel))
  if decide (descLimit d < off) then raise (.gp 0#16)
  return (a, d)

/-- A data segment register after a return to privilege level `lvl`: a data or non-conforming code segment with a lower
DPL becomes null (R338). -/
def Seg.afterReturn (g : Seg) (lvl : BitVec 2) : Seg :=
  if g.attr.p && (g.attr.data || (g.attr.code && !g.attr.conforming)) && decide (g.attr.dpl < lvl) then
    g.nullLoad 0#16
  else g
/-- The four data segment registers after a return to privilege level `lvl`. -/
def Segs.afterReturn (g : Segs) (lvl : BitVec 2) : Segs :=
  { g with ds := g.ds.afterReturn lvl, es := g.es.afterReturn lvl, fs := g.fs.afterReturn lvl,
           gs := g.gs.afterReturn lvl }

/-- Return to an outer level: the items at index k and k + 1, `extra` bytes above, are the outer ESP and SS. Far RET moves
(E)SP, by the new stack's size (R338, R365); IRET loads SS:ESP whole (R340). -/
def outerReturn (sz : OSize) (sel : Word16) (off : Word) (a : Word) (d : BitVec 64) (k extra : Nat)
    (flags : Option Word) : Act Unit := do
  let s ← get
  let n := osBytes sz
  let at1 := wrapSp s.segs.ss (s.stackPtr + BitVec.ofNat 32 (k * n + extra))
  let at2 := wrapSp s.segs.ss (s.stackPtr + BitVec.ofNat 32 ((k + 1) * n + extra))
  let newSp := BitVec.ofNat 32 (← before [⟨.ss, at2, n, .read⟩] (memRead .ss at1 n n))
  let newSs := BitVec.ofNat 16 (← memRead .ss at2 n n)
  let bad := Exc.gp (selCode newSs)
  let (sa, sd) ← checkStackSel newSs (rpl sel) (.gp 0#16) bad (.ss (selCode newSs))
  markAccessed a d
  markAccessed sa sd
  match flags with
  | some v => writeFlags v sz true
  | none => pure ()
  let g := Seg.ofDesc newSs sd
  upd fun s => { s with
    segs := ({ s.segs with cs := Seg.ofDesc sel d, ss := g } : Segs).afterReturn (rpl sel)
    cpl := rpl sel
    eip := off
    regs := { s.regs with esp := if flags.isSome then newSp else newEsp g s.regs.esp (newSp + BitVec.ofNat 32 extra) } }

/-- A segment register on entry to V86 mode: base from the selector, limit FFFFh (R340, R531). Its rights, which the SMM header
and SVDC show, are not stated: writable data, level 3, 16-bit: DESIGN CHOICE, log 50. -/
def Seg.v86Load (sel : Word16) : Seg :=
  { sel := sel, base := sel.setWidth 32 <<< 4, limit := 0xFFFF#32, attr := { Attr.realMode with dpl := 3#2 } }

/-- Return to V86 mode (R340): six further doublewords; ID can be modified only with CCR4.CPUID set (R30). -/
def returnToV86 (off : Word) (sel : Word16) (fl : Word) : Act Unit := do
  let esp ← peekItem .w32 9 3
  let ss ← peekItem .w32 9 4
  let es ← peekItem .w32 9 5
  let ds ← peekItem .w32 9 6
  let fs ← peekItem .w32 9 7
  let gs ← peekItem .w32 9 8
  upd fun s => { s with
    flags := { Flags.ofWord fl with vm := true, id := pick (s.cfg.ccr4.getLsbD 7) (Flags.ofWord fl).id s.flags.id }
    cpl := 3#2
    segs := { cs := Seg.v86Load sel, ss := Seg.v86Load (ss.setWidth 16), es := Seg.v86Load (es.setWidth 16),
              ds := Seg.v86Load (ds.setWidth 16), fs := Seg.v86Load (fs.setWidth 16), gs := Seg.v86Load (gs.setWidth 16) }
    eip := off &&& 0xFFFF#32
    regs := { s.regs with esp := esp } }

/-- IRET in real mode, and in V86 mode with IOPL = 3 (R340). -/
def realReturn (sz : OSize) : Act Unit := do
  let off ← peekItem sz 3 0
  let sel ← peekItem sz 3 1
  let fl ← peekItem sz 3 2
  let s ← get
  if decide (s.segs.cs.limit < off) then raise (.gp 0#16)
  dropStack sz 3 0
  upd fun s => { s with segs := { s.segs with cs := s.loadReal s.segs.cs (sel.setWidth 16) }, eip := off }
  writeFlags fl sz true

/-- IRET in protected mode (R340). -/
def protReturn (sz : OSize) : Act Unit := do
  if (← get).flags.nt then refuse .taskSwitch
  let off ← peekItem sz 3 0
  let sel32 ← peekItem sz 3 1
  let fl ← peekItem sz 3 2
  let sel : Word16 := sel32.setWidth 16
  let s ← get
  if sz == .w32 && fl.getLsbD 17 && s.cpl == 0#2 then returnToV86 off sel fl
  else
    let (a, d) ← checkReturnSel sel off
    if rpl sel == s.cpl then
      markAccessed a d
      dropStack sz 3 0
      upd fun s => { s with segs := { s.segs with cs := Seg.ofDesc sel d }, eip := off }
      writeFlags fl sz true
    else outerReturn sz sel off a d 3 0 (some fl)

/-- Return from an interrupt or exception (R340): in every mode NMIs are no longer held off. -/
def interruptReturn (sz : OSize) : Act Unit := do
  let s ← get
  if s.v86 && s.flags.iopl != 3#2 then raise (.gp 0#16)
  if s.realLike then realReturn sz else protReturn sz
  transferred
  upd fun s => { s with nmiBlocked := false }

end Sys2Proof.Machine
end

