-- ==== Sys2Proof/Machine/Flags.lean ====
section
/-! DEFINITION. Flag computations: ADDFLAGS, SUBFLAGS, LOGICFLAGS (40_arithmetic_logic.md R281), multiply and divide
(R297 to R300), bit test (41_bit_shift.md R311 to R313), shifts and rotates (R320 to R327). A value the spec leaves
undefined is an argument, supplied by a free draw. -/
namespace Sys2Proof.Machine
open Sys2Proof

/-- The number of ones in the low 8 bits is even (R27: PF). -/
def parityEven {n : Nat} (r : BitVec n) : Bool :=
  !(r.getLsbD 0 ^^ r.getLsbD 1 ^^ r.getLsbD 2 ^^ r.getLsbD 3 ^^ r.getLsbD 4 ^^ r.getLsbD 5 ^^ r.getLsbD 6 ^^
    r.getLsbD 7)
/-- SF, ZF and PF of a result (R281). -/
def Flags.ofResult {n : Nat} (f : Flags) (r : BitVec n) : Flags :=
  { f with sf := r.msb, zf := r == 0#n, pf := parityEven r }
/-- ADDFLAGS (R281): the sum and the flags. -/
def addFlags {n : Nat} (a b : BitVec n) (c : Bool) (f : Flags) : BitVec n × Flags :=
  let r := a + b + (BitVec.ofBool c).setWidth n
  (r, { f.ofResult r with
    cf := decide (2 ^ n ≤ a.toNat + b.toNat + c.toNat)
    af := decide (16 ≤ a.toNat % 16 + b.toNat % 16 + c.toNat)
    ofl := a.msb == b.msb && r.msb != a.msb })
/-- SUBFLAGS (R281): the difference and the flags. -/
def subFlags {n : Nat} (a b : BitVec n) (c : Bool) (f : Flags) : BitVec n × Flags :=
  let r := a - b - (BitVec.ofBool c).setWidth n
  (r, { f.ofResult r with
    cf := decide (a.toNat < b.toNat + c.toNat)
    af := decide (a.toNat % 16 < b.toNat % 16 + c.toNat)
    ofl := a.msb != b.msb && r.msb != a.msb })
/-- LOGICFLAGS (R281): AF is undefined, the argument. -/
def logicFlags {n : Nat} (r : BitVec n) (af : Bool) (f : Flags) : Flags :=
  { f.ofResult r with cf := false, ofl := false, af := af }
/-- The flags of INC and DEC: CF is not written (R291, R292). -/
def keepCf (old new : Flags) : Flags := { new with cf := old.cf }
/-- The flags of MUL and IMUL: SF, ZF, AF, PF undefined (R297). -/
def mulFlags (ovf sf zf af pf : Bool) (f : Flags) : Flags :=
  { f with cf := ovf, ofl := ovf, sf := sf, zf := zf, af := af, pf := pf }
/-- All six arithmetic flags replaced by undefined values (R299, R428). -/
def freeFlags (cf pf af zf sf ofl : Bool) (f : Flags) : Flags :=
  { f with cf := cf, pf := pf, af := af, zf := zf, sf := sf, ofl := ofl }
/-- The flags of BTS, BTR, BTC: CF is the old bit; OF, SF, AF, PF undefined (R311). -/
def bitFlags (bit ofl sf af pf : Bool) (f : Flags) : Flags :=
  { f with cf := bit, ofl := ofl, sf := sf, af := af, pf := pf }

/-- Rotate left through carry k times (R323): value and CF. -/
def rclN {n : Nat} (k : Nat) (a : BitVec n) (cf : Bool) : BitVec n × Bool :=
  match k with
  | 0 => (a, cf)
  | j + 1 => rclN j ((a <<< 1) ||| (BitVec.ofBool cf).setWidth n) a.msb
/-- Rotate right through carry k times (R324): value and CF. -/
def rcrN {n : Nat} (k : Nat) (a : BitVec n) (cf : Bool) : BitVec n × Bool :=
  match k with
  | 0 => (a, cf)
  | j + 1 => rcrN j ((a >>> 1) ||| ((BitVec.ofBool cf).setWidth n <<< (n - 1))) (a.getLsbD 0)
/-- The rotation count of RCL and RCR (R323). -/
def rcCount (n c : Nat) : Nat := if n = 32 then c else c % (n + 1)

/-- The value and flags of a shift or rotate by c, 1 ≤ c ≤ 31 (R321 to R327). `ofl`, `af`, `cf` are the values used where
the spec leaves the flag undefined. -/
def shiftResult (op : Shift) {n : Nat} (a : BitVec n) (c : Nat) (ofl af cf : Bool) (f : Flags) : BitVec n × Flags :=
  match op with
  | .rol =>
    let k := c % n
    let r := (a <<< k) ||| (a >>> (n - k))
    let r := if k = 0 then a else r
    (r, { f with cf := r.getLsbD 0, ofl := if c = 1 then r.msb ^^ r.getLsbD 0 else ofl })
  | .ror =>
    let k := c % n
    let r := (a >>> k) ||| (a <<< (n - k))
    let r := if k = 0 then a else r
    (r, { f with cf := r.msb, ofl := if c = 1 then r.msb ^^ r.getLsbD (n - 2) else ofl })
  | .rcl =>
    let (r, c') := rclN (rcCount n c) a f.cf
    (r, { f with cf := c', ofl := if c = 1 then r.msb ^^ c' else ofl })
  | .rcr =>
    let (r, c') := rcrN (rcCount n c) a f.cf
    (r, { f with cf := c', ofl := if c = 1 then a.msb ^^ f.cf else ofl })
  | .shl =>
    let r := a <<< c
    let cf' := if c ≤ n then a.getLsbD (n - c) else cf
    (r, { f.ofResult r with cf := cf', ofl := if c = 1 then r.msb ^^ cf' else ofl, af := af })
  | .shr =>
    let r := a >>> c
    let cf' := if c ≤ n then a.getLsbD (c - 1) else cf
    (r, { f.ofResult r with cf := cf', ofl := if c = 1 then a.msb else ofl, af := af })
  | .sar =>
    let r := a.sshiftRight c
    let cf' := if c < n then a.getLsbD (c - 1) else a.msb
    (r, { f.ofResult r with cf := cf', ofl := if c = 1 then false else ofl, af := af })

/-- Set the flags. -/
def setFlags (f : Flags) : Act Unit := upd fun s => { s with flags := f }
/-- The flags. -/
def getFlags : Act Flags := fun s => .ok s.flags s

/-- ADD (R284), XADD (R295). -/
def addA {n : Nat} (a b : BitVec n) : Act (BitVec n) := do
  let x := addFlags a b false (← getFlags)
  setFlags x.2
  return x.1
/-- ADC (R285). -/
def adcA {n : Nat} (a b : BitVec n) : Act (BitVec n) := do
  let f ← getFlags
  let x := addFlags a b f.cf f
  setFlags x.2
  return x.1
/-- SUB (R286), the comparison of CMPXCHG (R296), NEG (R293). -/
def subA {n : Nat} (a b : BitVec n) : Act (BitVec n) := do
  let x := subFlags a b false (← getFlags)
  setFlags x.2
  return x.1
/-- SBB (R287). -/
def sbbA {n : Nat} (a b : BitVec n) : Act (BitVec n) := do
  let f ← getFlags
  let x := subFlags a b f.cf f
  setFlags x.2
  return x.1
/-- The flags of a logical result (R281). -/
def logicA {n : Nat} (r : BitVec n) : Act (BitVec n) := do
  let af ← drawBit
  setFlags (logicFlags r af (← getFlags))
  return r
/-- AND (R288). -/
def andA {n : Nat} (a b : BitVec n) : Act (BitVec n) := logicA (a &&& b)
/-- OR (R289). -/
def orA {n : Nat} (a b : BitVec n) : Act (BitVec n) := logicA (a ||| b)
/-- XOR (R290). -/
def xorA {n : Nat} (a b : BitVec n) : Act (BitVec n) := logicA (a ^^^ b)
/-- INC (R291): CF is not written. -/
def incA {n : Nat} (a : BitVec n) : Act (BitVec n) := do
  let f ← getFlags
  let x := addFlags a 1#n false f
  setFlags (keepCf f x.2)
  return x.1
/-- DEC (R292): CF is not written. -/
def decA {n : Nat} (a : BitVec n) : Act (BitVec n) := do
  let f ← getFlags
  let x := subFlags a 1#n false f
  setFlags (keepCf f x.2)
  return x.1
/-- NEG (R293). -/
def negA {n : Nat} (a : BitVec n) : Act (BitVec n) := subA 0#n a
/-- NOT (R294): no flag. -/
def notA {n : Nat} (a : BitVec n) : Act (BitVec n) := pure (~~~a)
/-- All six arithmetic flags become undefined (R299, R428 to R430). -/
def freeFlagsA : Act Unit := do
  let cf ← drawBit
  let pf ← drawBit
  let af ← drawBit
  let zf ← drawBit
  let sf ← drawBit
  let ofl ← drawBit
  setFlags (freeFlags cf pf af zf sf ofl (← getFlags))
/-- The flags after a multiplication (R297). -/
def mulFlagsA (ovf : Bool) : Act Unit := do
  let sf ← drawBit
  let zf ← drawBit
  let af ← drawBit
  let pf ← drawBit
  setFlags (mulFlags ovf sf zf af pf (← getFlags))
/-- The flags after a bit test (R311). -/
def bitFlagsA (bit : Bool) : Act Unit := do
  let ofl ← drawBit
  let sf ← drawBit
  let af ← drawBit
  let pf ← drawBit
  setFlags (bitFlags bit ofl sf af pf (← getFlags))

end Sys2Proof.Machine
end

