-- ==== Sys2Proof/Machine/Operands.lean ====
section
/-! DEFINITION. Operands: effective addresses (30_encoding.md R247 to R249), the segment of a memory operand
(20_memory.md R150), and reading and writing register and memory operands (40_arithmetic_logic.md R282). -/
namespace Sys2Proof.Machine
open Sys2Proof

/-- The register part of a 16-bit form (R249). -/
def base16 (g : Regs) : Base16 → Word16
  | .bxSi => g.ebx.setWidth 16 + g.esi.setWidth 16
  | .bxDi => g.ebx.setWidth 16 + g.edi.setWidth 16
  | .bpSi => g.ebp.setWidth 16 + g.esi.setWidth 16
  | .bpDi => g.ebp.setWidth 16 + g.edi.setWidth 16
  | .si => g.esi.setWidth 16
  | .di => g.edi.setWidth 16
  | .bp => g.ebp.setWidth 16
  | .bx => g.ebx.setWidth 16
/-- A 16-bit displacement: disp8 is sign-extended (R250). -/
def disp16 : Disp16 → Word16
  | .none => 0#16
  | .d8 d => d.signExtend 16
  | .d16 d => d
/-- A 32-bit displacement. -/
def disp32 : Disp32 → Word
  | .none => 0#32
  | .d8 d => d.signExtend 32
  | .d32 d => d
/-- The scaled index (R248). -/
def scaled (g : Regs) (i : Option Reg) (sc : Scale) : Word :=
  match i with
  | none => 0#32
  | some r => g.get r <<< sc.num.toNat
/-- The effective address OA (R151): modulo 2^16 or 2^32. -/
def effAddr (g : Regs) : Mem → Word
  | .m16 b d => (base16 g b + disp16 d).setWidth 32
  | .direct16 d => d.setWidth 32
  | .m32 b d => g.get b + disp32 d
  | .direct32 d => d
  | .sib b i sc d => g.get b + scaled g i sc + disp32 d
  | .sibNoBase i sc d => scaled g i sc + d
/-- The default segment: SS for a BP, EBP or ESP base, else DS (R150). -/
def defaultSeg : Mem → SegReg
  | .m16 b _ => if b = .bpSi ∨ b = .bpDi ∨ b = .bp then .ss else .ds
  | .direct16 _ => .ds
  | .m32 b _ => if b = .ebp ∨ b = .esp then .ss else .ds
  | .direct32 _ => .ds
  | .sib b _ _ _ => if b = .ebp ∨ b = .esp then .ss else .ds
  | .sibNoBase _ _ _ => .ds
/-- The segment of a data reference: the override prefix, else the default (R150, R242 b). -/
def State.dataSeg (s : State) (dflt : SegReg) : SegReg := s.cur.pfx.seg.getD dflt
/-- The offset of a moffs operand (R253). -/
def moffs : Moffs → Word
  | .o16 v => v.setWidth 32
  | .o32 v => v

/-- Where an operand is: a register, or checked and translated memory bytes. -/
inductive Place
  | reg (r : Reg)
  | reg8 (r : Reg8)
  | mem (pas : List PA)
deriving DecidableEq, Repr

/-- Check and translate a memory operand of n bytes. -/
def locateMem (m : Mem) (n al : Nat) (kind : Acc) : Act (List PA) := do
  let s ← get
  segAccess (s.dataSeg (defaultSeg m)) (effAddr s.regs m) n kind al
/-- An r/m8 operand. -/
def locate8 (d : RM8) (kind : Acc) : Act Place :=
  match d with
  | .reg r => pure (.reg8 r)
  | .mem m => do return .mem (← locateMem m 1 1 kind)
/-- An r/m operand of n bytes. -/
def locateN (n : Nat) (d : RMv) (kind : Acc) : Act Place :=
  match d with
  | .reg r => pure (.reg r)
  | .mem m => do return .mem (← locateMem m n n kind)
/-- An r/mv operand. -/
def locateV (sz : OSize) (d : RMv) (kind : Acc) : Act Place := locateN (osBytes sz) d kind

/-- Read n bits from a place. -/
def readPlace (n : Nat) (p : Place) : Act (BitVec n) :=
  match p with
  | .reg r => fun s => .ok ((s.regs.get r).setWidth n) s
  | .reg8 r => fun s => .ok ((s.regs.get8 r).setWidth n) s
  | .mem pas => do return BitVec.ofNat n (leNat (← physRead pas))
/-- Write n bits to a place; the other bits of a register stay (R21). -/
def writePlace {n : Nat} (p : Place) (v : BitVec n) : Act Unit :=
  match p with
  | .reg r => setRegN r v
  | .reg8 r => upd fun s => { s with regs := s.regs.set8 r (v.setWidth 8) }
  | .mem pas => physWrite pas (bytesOf (n / 8) v.toNat)

/-- A place that is accessed under LOCK (R149: XCHG with memory behaves as if locked). -/
def State.lockPlace (s : State) (p : Place) : Place :=
  match p with
  | .mem pas => .mem (s.lockPas pas)
  | p => p
/-- The reference that a memory operand of n bytes is, none for a register (R497). -/
def State.opRefs (s : State) (d : RMv) (n : Nat) (kind : Acc) : List Ref :=
  match d with
  | .reg _ => []
  | .mem m => [{ seg := s.dataSeg (defaultSeg m), off := effAddr s.regs m, n := n, kind := kind }]

/-- Read a byte register. -/
def getReg8 (r : Reg8) : Act Byte := fun s => .ok (s.regs.get8 r) s
/-- Write a byte register. -/
def setReg8 (r : Reg8) (v : Byte) : Act Unit := upd fun s => { s with regs := s.regs.set8 r v }
/-- Read the low OS bits of a register. -/
def getRegV (sz : OSize) (r : Reg) : Act (BitVec (osBits sz)) := fun s => .ok ((s.regs.get r).setWidth (osBits sz)) s
/-- ReadRM(8) (R282). -/
def readRM8 (d : RM8) : Act Byte := do readPlace 8 (← locate8 d .read)
/-- ReadRM(OS) (R282). -/
def readRMv (sz : OSize) (d : RMv) : Act (BitVec (osBits sz)) := do readPlace (osBits sz) (← locateV sz d .read)
/-- ReadRM(16) of an r/m16 operand. -/
def readRM16 (d : RMv) : Act Word16 := do readPlace 16 (← locateN 2 d .read)
/-- ReadRM(32) of an r/m32 operand. -/
def readRM32 (d : RMv) : Act Word := do readPlace 32 (← locateN 4 d .read)
/-- WriteRM(8) (R282). -/
def writeRM8 (d : RM8) (v : Byte) : Act Unit := do writePlace (← locate8 d .write) v
/-- WriteRM(OS) (R282). -/
def writeRMv (sz : OSize) (d : RMv) (v : BitVec (osBits sz)) : Act Unit := do writePlace (← locateV sz d .write) v
/-- Read, modify and write back an r/m8 operand, its writability checked first (R282). -/
def rmw8 (d : RM8) (f : Byte → Act Byte) : Act Unit := do
  let p ← locate8 d .write
  let v ← f (← readPlace 8 p)
  writePlace p v
/-- Read, modify and write back an r/mv operand (R282). -/
def rmwV (sz : OSize) (d : RMv) (f : BitVec (osBits sz) → Act (BitVec (osBits sz))) : Act Unit := do
  let p ← locateV sz d .write
  let v ← f (← readPlace (osBits sz) p)
  writePlace p v
/-- An immediate as a value of its own operand size. -/
def immVal : (i : Imm) → BitVec (osBits i.osize)
  | .i16 v => v
  | .i32 v => v
/-- An immediate or displacement as a doubleword, zero-extended. -/
def immZext : Imm → Word
  | .i16 v => v.setWidth 32
  | .i32 v => v
/-- A relative displacement, sign-extended (R251). -/
def immSext : Imm → Word
  | .i16 v => v.signExtend 32
  | .i32 v => v

end Sys2Proof.Machine
end

