-- ==== Sys2Proof/Machine/Arithmetic.lean ====
section
/-! DEFINITION. Arithmetic and logical instructions (40_arithmetic_logic.md R283 to R300): one meaning per table row,
over the operations of Flags and Operands. -/
namespace Sys2Proof.Machine
open Sys2Proof

/-- op r/m8, r8 (R283). -/
def aluEbGb (op : Byte → Byte → Act Byte) (d : RM8) (r : Reg8) : Act Unit :=
  rmw8 d fun a => do op a (← getReg8 r)
/-- op r/mv, rv (R283). -/
def aluEvGv (sz : OSize) (op : BitVec (osBits sz) → BitVec (osBits sz) → Act (BitVec (osBits sz))) (d : RMv) (r : Reg) :
    Act Unit :=
  rmwV sz d fun a => do op a (← getRegV sz r)
/-- op r8, r/m8 (R283). -/
def aluGbEb (op : Byte → Byte → Act Byte) (r : Reg8) (e : RM8) : Act Unit := do
  let b ← readRM8 e
  let a ← getReg8 r
  setReg8 r (← op a b)
/-- op rv, r/mv (R283). -/
def aluGvEv (sz : OSize) (op : BitVec (osBits sz) → BitVec (osBits sz) → Act (BitVec (osBits sz))) (r : Reg) (e : RMv) :
    Act Unit := do
  let b ← readRMv sz e
  let a ← getRegV sz r
  setRegN r (← op a b)
/-- op AL, ib (R283). -/
def aluAlIb (op : Byte → Byte → Act Byte) (i : Byte) : Act Unit := do
  let a ← getReg8 .al
  setReg8 .al (← op a i)
/-- op eAX, iv (R283). -/
def aluAxIv (i : Imm) (op : BitVec (osBits i.osize) → BitVec (osBits i.osize) → Act (BitVec (osBits i.osize))) :
    Act Unit := do
  let a ← getRegV i.osize .eax
  setRegN .eax (← op a (immVal i))
/-- op r/m8, ib (R283). -/
def aluEbIb (op : Byte → Byte → Act Byte) (d : RM8) (i : Byte) : Act Unit := rmw8 d fun a => op a i
/-- op r/mv, iv (R283). -/
def aluEvIv (d : RMv) (i : Imm) (op : BitVec (osBits i.osize) → BitVec (osBits i.osize) → Act (BitVec (osBits i.osize))) :
    Act Unit :=
  rmwV i.osize d fun a => op a (immVal i)
/-- op r/mv, ib sign-extended (R283, R250). -/
def aluEvIbs (sz : OSize) (op : BitVec (osBits sz) → BitVec (osBits sz) → Act (BitVec (osBits sz))) (d : RMv) (i : Byte) :
    Act Unit :=
  rmwV sz d fun a => op a (i.signExtend (osBits sz))

/-- ADD r/m8, r8 (R284). -/
def execAddEbGb (d : RM8) (r : Reg8) (s : State) := runInstr (aluEbGb addA d r) s
/-- ADD r/mv, rv (R284). -/
def execAddEvGv (sz : OSize) (d : RMv) (r : Reg) (s : State) := runInstr (aluEvGv sz addA d r) s
/-- ADD r8, r/m8 (R284). -/
def execAddGbEb (d : Reg8) (e : RM8) (s : State) := runInstr (aluGbEb addA d e) s
/-- ADD rv, r/mv (R284). -/
def execAddGvEv (sz : OSize) (d : Reg) (e : RMv) (s : State) := runInstr (aluGvEv sz addA d e) s
/-- ADD AL, ib (R284). -/
def execAddAlIb (i : Byte) (s : State) := runInstr (aluAlIb addA i) s
/-- ADD eAX, iv (R284). -/
def execAddAxIv (i : Imm) (s : State) := runInstr (aluAxIv i addA) s
/-- ADD r/m8, ib (R284). -/
def execAddEbIb (d : RM8) (i : Byte) (s : State) := runInstr (aluEbIb addA d i) s
/-- ADD r/mv, iv (R284). -/
def execAddEvIv (d : RMv) (i : Imm) (s : State) := runInstr (aluEvIv d i addA) s
/-- ADD r/mv, ib sign-extended (R284). -/
def execAddEvIbs (sz : OSize) (d : RMv) (i : Byte) (s : State) := runInstr (aluEvIbs sz addA d i) s
/-- OR r/m8, r8 (R289). -/
def execOrEbGb (d : RM8) (r : Reg8) (s : State) := runInstr (aluEbGb orA d r) s
/-- OR r/mv, rv (R289). -/
def execOrEvGv (sz : OSize) (d : RMv) (r : Reg) (s : State) := runInstr (aluEvGv sz orA d r) s
/-- OR r8, r/m8 (R289). -/
def execOrGbEb (d : Reg8) (e : RM8) (s : State) := runInstr (aluGbEb orA d e) s
/-- OR rv, r/mv (R289). -/
def execOrGvEv (sz : OSize) (d : Reg) (e : RMv) (s : State) := runInstr (aluGvEv sz orA d e) s
/-- OR AL, ib (R289). -/
def execOrAlIb (i : Byte) (s : State) := runInstr (aluAlIb orA i) s
/-- OR eAX, iv (R289). -/
def execOrAxIv (i : Imm) (s : State) := runInstr (aluAxIv i orA) s
/-- OR r/m8, ib (R289). -/
def execOrEbIb (d : RM8) (i : Byte) (s : State) := runInstr (aluEbIb orA d i) s
/-- OR r/mv, iv (R289). -/
def execOrEvIv (d : RMv) (i : Imm) (s : State) := runInstr (aluEvIv d i orA) s
/-- OR r/mv, ib sign-extended (R289). -/
def execOrEvIbs (sz : OSize) (d : RMv) (i : Byte) (s : State) := runInstr (aluEvIbs sz orA d i) s
/-- ADC r/m8, r8 (R285). -/
def execAdcEbGb (d : RM8) (r : Reg8) (s : State) := runInstr (aluEbGb adcA d r) s
/-- ADC r/mv, rv (R285). -/
def execAdcEvGv (sz : OSize) (d : RMv) (r : Reg) (s : State) := runInstr (aluEvGv sz adcA d r) s
/-- ADC r8, r/m8 (R285). -/
def execAdcGbEb (d : Reg8) (e : RM8) (s : State) := runInstr (aluGbEb adcA d e) s
/-- ADC rv, r/mv (R285). -/
def execAdcGvEv (sz : OSize) (d : Reg) (e : RMv) (s : State) := runInstr (aluGvEv sz adcA d e) s
/-- ADC AL, ib (R285). -/
def execAdcAlIb (i : Byte) (s : State) := runInstr (aluAlIb adcA i) s
/-- ADC eAX, iv (R285). -/
def execAdcAxIv (i : Imm) (s : State) := runInstr (aluAxIv i adcA) s
/-- ADC r/m8, ib (R285). -/
def execAdcEbIb (d : RM8) (i : Byte) (s : State) := runInstr (aluEbIb adcA d i) s
/-- ADC r/mv, iv (R285). -/
def execAdcEvIv (d : RMv) (i : Imm) (s : State) := runInstr (aluEvIv d i adcA) s
/-- ADC r/mv, ib sign-extended (R285). -/
def execAdcEvIbs (sz : OSize) (d : RMv) (i : Byte) (s : State) := runInstr (aluEvIbs sz adcA d i) s
/-- SBB r/m8, r8 (R287). -/
def execSbbEbGb (d : RM8) (r : Reg8) (s : State) := runInstr (aluEbGb sbbA d r) s
/-- SBB r/mv, rv (R287). -/
def execSbbEvGv (sz : OSize) (d : RMv) (r : Reg) (s : State) := runInstr (aluEvGv sz sbbA d r) s
/-- SBB r8, r/m8 (R287). -/
def execSbbGbEb (d : Reg8) (e : RM8) (s : State) := runInstr (aluGbEb sbbA d e) s
/-- SBB rv, r/mv (R287). -/
def execSbbGvEv (sz : OSize) (d : Reg) (e : RMv) (s : State) := runInstr (aluGvEv sz sbbA d e) s
/-- SBB AL, ib (R287). -/
def execSbbAlIb (i : Byte) (s : State) := runInstr (aluAlIb sbbA i) s
/-- SBB eAX, iv (R287). -/
def execSbbAxIv (i : Imm) (s : State) := runInstr (aluAxIv i sbbA) s
/-- SBB r/m8, ib (R287). -/
def execSbbEbIb (d : RM8) (i : Byte) (s : State) := runInstr (aluEbIb sbbA d i) s
/-- SBB r/mv, iv (R287). -/
def execSbbEvIv (d : RMv) (i : Imm) (s : State) := runInstr (aluEvIv d i sbbA) s
/-- SBB r/mv, ib sign-extended (R287). -/
def execSbbEvIbs (sz : OSize) (d : RMv) (i : Byte) (s : State) := runInstr (aluEvIbs sz sbbA d i) s
/-- AND r/m8, r8 (R288). -/
def execAndEbGb (d : RM8) (r : Reg8) (s : State) := runInstr (aluEbGb andA d r) s
/-- AND r/mv, rv (R288). -/
def execAndEvGv (sz : OSize) (d : RMv) (r : Reg) (s : State) := runInstr (aluEvGv sz andA d r) s
/-- AND r8, r/m8 (R288). -/
def execAndGbEb (d : Reg8) (e : RM8) (s : State) := runInstr (aluGbEb andA d e) s
/-- AND rv, r/mv (R288). -/
def execAndGvEv (sz : OSize) (d : Reg) (e : RMv) (s : State) := runInstr (aluGvEv sz andA d e) s
/-- AND AL, ib (R288). -/
def execAndAlIb (i : Byte) (s : State) := runInstr (aluAlIb andA i) s
/-- AND eAX, iv (R288). -/
def execAndAxIv (i : Imm) (s : State) := runInstr (aluAxIv i andA) s
/-- AND r/m8, ib (R288). -/
def execAndEbIb (d : RM8) (i : Byte) (s : State) := runInstr (aluEbIb andA d i) s
/-- AND r/mv, iv (R288). -/
def execAndEvIv (d : RMv) (i : Imm) (s : State) := runInstr (aluEvIv d i andA) s
/-- AND r/mv, ib sign-extended (R288). -/
def execAndEvIbs (sz : OSize) (d : RMv) (i : Byte) (s : State) := runInstr (aluEvIbs sz andA d i) s
/-- SUB r/m8, r8 (R286). -/
def execSubEbGb (d : RM8) (r : Reg8) (s : State) := runInstr (aluEbGb subA d r) s
/-- SUB r/mv, rv (R286). -/
def execSubEvGv (sz : OSize) (d : RMv) (r : Reg) (s : State) := runInstr (aluEvGv sz subA d r) s
/-- SUB r8, r/m8 (R286). -/
def execSubGbEb (d : Reg8) (e : RM8) (s : State) := runInstr (aluGbEb subA d e) s
/-- SUB rv, r/mv (R286). -/
def execSubGvEv (sz : OSize) (d : Reg) (e : RMv) (s : State) := runInstr (aluGvEv sz subA d e) s
/-- SUB AL, ib (R286). -/
def execSubAlIb (i : Byte) (s : State) := runInstr (aluAlIb subA i) s
/-- SUB eAX, iv (R286). -/
def execSubAxIv (i : Imm) (s : State) := runInstr (aluAxIv i subA) s
/-- SUB r/m8, ib (R286). -/
def execSubEbIb (d : RM8) (i : Byte) (s : State) := runInstr (aluEbIb subA d i) s
/-- SUB r/mv, iv (R286). -/
def execSubEvIv (d : RMv) (i : Imm) (s : State) := runInstr (aluEvIv d i subA) s
/-- SUB r/mv, ib sign-extended (R286). -/
def execSubEvIbs (sz : OSize) (d : RMv) (i : Byte) (s : State) := runInstr (aluEvIbs sz subA d i) s
/-- XOR r/m8, r8 (R290). -/
def execXorEbGb (d : RM8) (r : Reg8) (s : State) := runInstr (aluEbGb xorA d r) s
/-- XOR r/mv, rv (R290). -/
def execXorEvGv (sz : OSize) (d : RMv) (r : Reg) (s : State) := runInstr (aluEvGv sz xorA d r) s
/-- XOR r8, r/m8 (R290). -/
def execXorGbEb (d : Reg8) (e : RM8) (s : State) := runInstr (aluGbEb xorA d e) s
/-- XOR rv, r/mv (R290). -/
def execXorGvEv (sz : OSize) (d : Reg) (e : RMv) (s : State) := runInstr (aluGvEv sz xorA d e) s
/-- XOR AL, ib (R290). -/
def execXorAlIb (i : Byte) (s : State) := runInstr (aluAlIb xorA i) s
/-- XOR eAX, iv (R290). -/
def execXorAxIv (i : Imm) (s : State) := runInstr (aluAxIv i xorA) s
/-- XOR r/m8, ib (R290). -/
def execXorEbIb (d : RM8) (i : Byte) (s : State) := runInstr (aluEbIb xorA d i) s
/-- XOR r/mv, iv (R290). -/
def execXorEvIv (d : RMv) (i : Imm) (s : State) := runInstr (aluEvIv d i xorA) s
/-- XOR r/mv, ib sign-extended (R290). -/
def execXorEvIbs (sz : OSize) (d : RMv) (i : Byte) (s : State) := runInstr (aluEvIbs sz xorA d i) s
/-- INC rv (R291). -/
def execIncR (sz : OSize) (r : Reg) (s : State) := runInstr (rmwV sz (.reg r) incA) s
/-- DEC rv (R292). -/
def execDecR (sz : OSize) (r : Reg) (s : State) := runInstr (rmwV sz (.reg r) decA) s
/-- INC r/m8 (R291). -/
def execIncEb (d : RM8) (s : State) := runInstr (rmw8 d incA) s
/-- INC r/mv (R291). -/
def execIncEv (sz : OSize) (d : RMv) (s : State) := runInstr (rmwV sz d incA) s
/-- DEC r/m8 (R292). -/
def execDecEb (d : RM8) (s : State) := runInstr (rmw8 d decA) s
/-- DEC r/mv (R292). -/
def execDecEv (sz : OSize) (d : RMv) (s : State) := runInstr (rmwV sz d decA) s
/-- NEG r/m8 (R293). -/
def execNegEb (d : RM8) (s : State) := runInstr (rmw8 d negA) s
/-- NEG r/mv (R293). -/
def execNegEv (sz : OSize) (d : RMv) (s : State) := runInstr (rmwV sz d negA) s
/-- NOT r/m8 (R294). -/
def execNotEb (d : RM8) (s : State) := runInstr (rmw8 d notA) s
/-- NOT r/mv (R294). -/
def execNotEv (sz : OSize) (d : RMv) (s : State) := runInstr (rmwV sz d notA) s

/-- XADD r/m8, r8 (R295): the source register is written first, then the destination. -/
def execXaddEbGb (d : RM8) (r : Reg8) (s : State) := runInstr (do
  let p ← locate8 d .write
  let a ← readPlace 8 p
  let x ← addA a (← getReg8 r)
  setReg8 r a
  writePlace p x) s
/-- XADD r/mv, rv (R295). -/
def execXaddEvGv (sz : OSize) (d : RMv) (r : Reg) (s : State) := runInstr (do
  let p ← locateV sz d .write
  let a ← readPlace (osBits sz) p
  let x ← addA a (← getRegV sz r)
  setRegN r a
  writePlace p x) s
/-- CMPXCHG r/m8, r8 (R296): a memory destination is written back also when the comparison fails (R280). -/
def execCmpxchgEbGb (d : RM8) (r : Reg8) (s : State) := runInstr (do
  let p ← locate8 d .write
  let old ← readPlace 8 p
  let acc ← getReg8 .al
  let _ ← subA acc old
  if acc = old then writePlace p (← getReg8 r)
  else
    writePlace p old
    setReg8 .al old) s
/-- CMPXCHG r/mv, rv (R296). -/
def execCmpxchgEvGv (sz : OSize) (d : RMv) (r : Reg) (s : State) := runInstr (do
  let p ← locateV sz d .write
  let old ← readPlace (osBits sz) p
  let acc ← getRegV sz .eax
  let _ ← subA acc old
  if acc = old then writePlace p (← getRegV sz r)
  else
    writePlace p old
    setRegN .eax old) s

/-- The double-width result of a multiplication: DX:AX or EDX:EAX (R297). -/
def setProduct {n : Nat} (p : BitVec (n + n)) : Act Unit := do
  setRegN .eax (p.extractLsb' 0 n)
  setRegN .edx (p.extractLsb' n n)
/-- The double-width dividend DX:AX or EDX:EAX (R299). -/
def getDividend (sz : OSize) : Act (BitVec (osBits sz + osBits sz)) := do
  return (← getRegV sz .edx) ++ (← getRegV sz .eax)
/-- Unsigned product (R297). -/
def mulU {n : Nat} (a b : BitVec n) : BitVec (n + n) := a.setWidth (n + n) * b.setWidth (n + n)
/-- Signed product (R298). -/
def mulS {n : Nat} (a b : BitVec n) : BitVec (n + n) := a.signExtend (n + n) * b.signExtend (n + n)
/-- The high half of the product is not zero (R297). -/
def mulUOver {n : Nat} (p : BitVec (n + n)) : Bool := p.extractLsb' n n != 0#n
/-- The product is not the sign extension of its low half (R298). -/
def mulSOver {n : Nat} (p : BitVec (n + n)) : Bool := p != (p.extractLsb' 0 n).signExtend (n + n)
/-- MUL r/m8 (R297). -/
def execMulEb (d : RM8) (s : State) := runInstr (do
  let b ← readRM8 d
  let p := mulU (← getReg8 .al) b
  setRegN .eax p
  mulFlagsA (mulUOver p)) s
/-- MUL r/mv (R297). -/
def execMulEv (sz : OSize) (d : RMv) (s : State) := runInstr (do
  let b ← readRMv sz d
  let p := mulU (← getRegV sz .eax) b
  setProduct p
  mulFlagsA (mulUOver p)) s
/-- IMUL r/m8 (R298). -/
def execImulEb (d : RM8) (s : State) := runInstr (do
  let b ← readRM8 d
  let p := mulS (← getReg8 .al) b
  setRegN .eax p
  mulFlagsA (mulSOver p)) s
/-- IMUL r/mv (R298). -/
def execImulEv (sz : OSize) (d : RMv) (s : State) := runInstr (do
  let b ← readRMv sz d
  let p := mulS (← getRegV sz .eax) b
  setProduct p
  mulFlagsA (mulSOver p)) s

/-- Unsigned division: quotient and remainder, or none for #DE (R299). -/
def divU {n : Nat} (x : BitVec (n + n)) (b : BitVec n) : Option (BitVec n × BitVec n) :=
  if b = 0#n then none
  else if 2 ^ n ≤ x.toNat / b.toNat then none
  else some (BitVec.ofNat n (x.toNat / b.toNat), BitVec.ofNat n (x.toNat % b.toNat))
/-- Signed division truncated toward zero, or none for #DE (R300). -/
def divS {n : Nat} (x : BitVec (n + n)) (b : BitVec n) : Option (BitVec n × BitVec n) :=
  if b = 0#n then none
  else
    let q := x.toInt.tdiv b.toInt
    if q < -(2 ^ (n - 1) : Nat) ∨ ((2 ^ (n - 1) : Nat) : Int) ≤ q then none
    else some (BitVec.ofInt n q, BitVec.ofInt n (x.toInt.tmod b.toInt))
/-- Store AL and AH, the quotient and remainder of a byte division (R299). -/
def setDiv8 (r : Option (Byte × Byte)) : Act Unit :=
  match r with
  | none => raise .de
  | some (q, m) => do
    setReg8 .al q
    setReg8 .ah m
    freeFlagsA
/-- Store the quotient and remainder of a word or doubleword division (R299). -/
def setDivV {n : Nat} (r : Option (BitVec n × BitVec n)) : Act Unit :=
  match r with
  | none => raise .de
  | some (q, m) => do
    setRegN .eax q
    setRegN .edx m
    freeFlagsA
/-- AX as the dividend of a byte division. -/
def getAx : Act (BitVec (8 + 8)) := do return (← getReg .eax).setWidth 16
/-- DIV r/m8 (R299). -/
def execDivEb (d : RM8) (s : State) := runInstr (do
  let b ← readRM8 d
  setDiv8 (divU (← getAx) b)) s
/-- DIV r/mv (R299). -/
def execDivEv (sz : OSize) (d : RMv) (s : State) := runInstr (do
  let b ← readRMv sz d
  setDivV (divU (← getDividend sz) b)) s
/-- IDIV r/m8 (R300). -/
def execIdivEb (d : RM8) (s : State) := runInstr (do
  let b ← readRM8 d
  setDiv8 (divS (← getAx) b)) s
/-- IDIV r/mv (R300). -/
def execIdivEv (sz : OSize) (d : RMv) (s : State) := runInstr (do
  let b ← readRMv sz d
  setDivV (divS (← getDividend sz) b)) s

end Sys2Proof.Machine
end

