-- ==== Sys2Proof/Machine/BitShift.lean ====
section
/-! DEFINITION. Bit test instructions (41_bit_shift.md R310 to R313) and shifts and rotates by CL (R320 to R327). -/
namespace Sys2Proof.Machine
open Sys2Proof

/-- What a bit test instruction does to the bit (R311 to R313). -/
inductive BitOp | set | reset | complement
deriving DecidableEq, Repr
/-- The word with bit k set, reset or complemented. -/
def bitChange {n : Nat} (op : BitOp) (w : BitVec n) (k : Nat) : BitVec n :=
  match op with
  | .set => w ||| (1#n <<< k)
  | .reset => w &&& ~~~(1#n <<< k)
  | .complement => w ^^^ (1#n <<< k)
/-- Bit test and change of bit k of the operand at a place (R311). -/
def bitAtPlace (op : BitOp) (sz : OSize) (p : Place) (k : Nat) : Act Unit := do
  let w ← readPlace (osBits sz) p
  bitFlagsA (w.getLsbD k)
  writePlace p (bitChange op w k)
/-- BitLocate with an immediate offset (R310). -/
def bitImm (op : BitOp) (sz : OSize) (d : RMv) (i : Byte) : Act Unit := do
  let p ← locateV sz d .write
  bitAtPlace op sz p (i.toNat % osBits sz)
/-- The signed bit offset in a register (R310). -/
def bitOffset (sz : OSize) (v : Word) : Int := (v.setWidth (osBits sz)).toInt
/-- The offset of the word a register bit offset selects from OA (R310): wraps at the address size. -/
def bitWordAddr (m : Mem) (oa : Word) (sz : OSize) (o : Int) : Word :=
  let a := oa + BitVec.ofInt 32 ((osBytes sz : Int) * o.fdiv (osBits sz))
  match m.asize with
  | .a16 => a &&& 0xFFFF#32
  | .a32 => a
/-- BitLocate with a register offset (R310): a memory base is a bit string. -/
def bitReg (op : BitOp) (sz : OSize) (d : RMv) (r : Reg) : Act Unit := do
  let s ← get
  let o := bitOffset sz (s.regs.get r)
  let k := (o.fmod (osBits sz)).toNat
  match d with
  | .reg b => bitAtPlace op sz (.reg b) k
  | .mem m =>
    let pas ← segAccess (s.dataSeg (defaultSeg m)) (bitWordAddr m (effAddr s.regs m) sz o) (osBytes sz) .write (osBytes sz)
    bitAtPlace op sz (.mem pas) k
/-- BTS r/mv, rv (R311). -/
def execBtsEvGv (sz : OSize) (d : RMv) (r : Reg) (s : State) := runInstr (bitReg .set sz d r) s
/-- BTS r/mv, ib (R311). -/
def execBtsEvIb (sz : OSize) (d : RMv) (i : Byte) (s : State) := runInstr (bitImm .set sz d i) s
/-- BTR r/mv, rv (R312). -/
def execBtrEvGv (sz : OSize) (d : RMv) (r : Reg) (s : State) := runInstr (bitReg .reset sz d r) s
/-- BTR r/mv, ib (R312). -/
def execBtrEvIb (sz : OSize) (d : RMv) (i : Byte) (s : State) := runInstr (bitImm .reset sz d i) s
/-- BTC r/mv, rv (R313). -/
def execBtcEvGv (sz : OSize) (d : RMv) (r : Reg) (s : State) := runInstr (bitReg .complement sz d r) s
/-- BTC r/mv, ib (R313). -/
def execBtcEvIb (sz : OSize) (d : RMv) (i : Byte) (s : State) := runInstr (bitImm .complement sz d i) s

/-- The count c = CL AND 1Fh (R320). -/
def State.shiftCount (s : State) : Nat := (s.regs.get8 .cl).toNat % 32
/-- Shift or rotate the operand at a place by CL (R320). RCL and RCR by a count that is not 0 but rotates nothing (c = 9, 18 or
27 of 8 bits, 17 of 16) write the same value back: R320 keeps a count of 0 alone from being written (DESIGN CHOICE, log 58). -/
def shiftPlace (op : Shift) (n : Nat) (p : Place) : Act Unit := do
  let s ← get
  let a ← readPlace n p
  let ofl ← drawBit
  let af ← drawBit
  let cf ← drawBit
  let x := shiftResult op a s.shiftCount ofl af cf s.flags
  setFlags x.2
  writePlace p x.1
/-- A shift or rotate by CL of the operand that `loc` locates: with a count of 0 nothing is written; the checks of a write are made
all the same, but no page is marked and no data breakpoint met (R320; DESIGN CHOICE, log 60). -/
def shiftAt (op : Shift) (n : Nat) (loc : Act Place) : Act Unit := do
  if (← get).shiftCount = 0 then checkOnly loc
  else shiftPlace op n (← loc)
/-- A shift or rotate of r/m8 (R320). -/
def shiftEb (op : Shift) (d : RM8) : Act Unit := shiftAt op 8 (locate8 d .write)
/-- A shift or rotate of r/mv (R320). -/
def shiftEv (op : Shift) (sz : OSize) (d : RMv) : Act Unit := shiftAt op (osBits sz) (locateV sz d .write)
/-- ROL r/m8, CL (R321). -/
def execRolEbCl (d : RM8) (s : State) := runInstr (shiftEb .rol d) s
/-- ROL r/mv, CL (R321). -/
def execRolEvCl (sz : OSize) (d : RMv) (s : State) := runInstr (shiftEv .rol sz d) s
/-- ROR r/m8, CL (R322). -/
def execRorEbCl (d : RM8) (s : State) := runInstr (shiftEb .ror d) s
/-- ROR r/mv, CL (R322). -/
def execRorEvCl (sz : OSize) (d : RMv) (s : State) := runInstr (shiftEv .ror sz d) s
/-- RCL r/m8, CL (R323). -/
def execRclEbCl (d : RM8) (s : State) := runInstr (shiftEb .rcl d) s
/-- RCL r/mv, CL (R323). -/
def execRclEvCl (sz : OSize) (d : RMv) (s : State) := runInstr (shiftEv .rcl sz d) s
/-- RCR r/m8, CL (R324). -/
def execRcrEbCl (d : RM8) (s : State) := runInstr (shiftEb .rcr d) s
/-- RCR r/mv, CL (R324). -/
def execRcrEvCl (sz : OSize) (d : RMv) (s : State) := runInstr (shiftEv .rcr sz d) s
/-- SHL r/m8, CL (R325). -/
def execShlEbCl (d : RM8) (s : State) := runInstr (shiftEb .shl d) s
/-- SHL r/mv, CL (R325). -/
def execShlEvCl (sz : OSize) (d : RMv) (s : State) := runInstr (shiftEv .shl sz d) s
/-- SHR r/m8, CL (R326). -/
def execShrEbCl (d : RM8) (s : State) := runInstr (shiftEb .shr d) s
/-- SHR r/mv, CL (R326). -/
def execShrEvCl (sz : OSize) (d : RMv) (s : State) := runInstr (shiftEv .shr sz d) s
/-- SAR r/m8, CL (R327). -/
def execSarEbCl (d : RM8) (s : State) := runInstr (shiftEb .sar d) s
/-- SAR r/mv, CL (R327). -/
def execSarEvCl (sz : OSize) (d : RMv) (s : State) := runInstr (shiftEv .sar sz d) s

end Sys2Proof.Machine
end

