-- ==== Sys2Proof/Machine/DataTransfer.lean ====
section
/-! DEFINITION. Prefixes (30_encoding.md R241, R261), data transfer and stack instructions (43_data_transfer_string.md
R360 to R374). -/
namespace Sys2Proof.Machine
open Sys2Proof

/-- Read a prefix: record it for the instruction it belongs to (R261); of several segment overrides the last wins (R242 d). -/
def readPfx (f : Pfx → Pfx) : Act Unit :=
  upd fun s => { s with cur := { s.cur with pfx := { f s.cur.pfx with count := s.cur.pfx.count + 1 } } }
/-- ES segment override (R241). -/
def execSegEs (s : State) := runInstr (readPfx fun p => { p with seg := some .es }) s
/-- CS segment override (R241). -/
def execSegCs (s : State) := runInstr (readPfx fun p => { p with seg := some .cs }) s
/-- SS segment override (R241). -/
def execSegSs (s : State) := runInstr (readPfx fun p => { p with seg := some .ss }) s
/-- DS segment override (R241). -/
def execSegDs (s : State) := runInstr (readPfx fun p => { p with seg := some .ds }) s
/-- FS segment override (R241). -/
def execSegFs (s : State) := runInstr (readPfx fun p => { p with seg := some .fs }) s
/-- GS segment override (R241). -/
def execSegGs (s : State) := runInstr (readPfx fun p => { p with seg := some .gs }) s
/-- Operand-size override (R241). -/
def execOpsize (s : State) := runInstr (readPfx fun p => { p with os66 := true }) s
/-- Address-size override (R241). -/
def execAdsize (s : State) := runInstr (readPfx fun p => { p with as67 := true }) s
/-- LOCK (R241). -/
def execLock (s : State) := runInstr (readPfx fun p => { p with lock := true }) s
/-- REPNE (R241). -/
def execRepne (s : State) := runInstr (readPfx fun p => { p with repne := true }) s
/-- REP (R241). -/
def execRep (s : State) := runInstr (readPfx fun p => { p with rep := true }) s

/-! MOV (R361 to R363). -/

/-- MOV r/m8, r8 (R361). -/
def execMovEbGb (d : RM8) (r : Reg8) (s : State) := runInstr (do writeRM8 d (← getReg8 r)) s
/-- MOV r/mv, rv (R361). -/
def execMovEvGv (sz : OSize) (d : RMv) (r : Reg) (s : State) := runInstr (do writeRMv sz d (← getRegV sz r)) s
/-- MOV r8, r/m8 (R361). -/
def execMovGbEb (d : Reg8) (e : RM8) (s : State) := runInstr (do setReg8 d (← readRM8 e)) s
/-- MOV rv, r/mv (R361). -/
def execMovGvEv (sz : OSize) (d : Reg) (e : RMv) (s : State) := runInstr (do setRegN d (← readRMv sz e)) s
/-- MOV r8, ib (R361). -/
def execMovRIb (r : Reg8) (i : Byte) (s : State) := runInstr (setReg8 r i) s
/-- MOV rv, iv (R361). -/
def execMovRIv (r : Reg) (i : Imm) (s : State) := runInstr (setRegN r (immVal i)) s
/-- MOV r/m8, ib (R361). -/
def execMovEbIb (d : RM8) (i : Byte) (s : State) := runInstr (writeRM8 d i) s
/-- MOV r/mv, iv (R361). -/
def execMovEvIv (d : RMv) (i : Imm) (s : State) := runInstr (writeRMv i.osize d (immVal i)) s
/-- A moffs operand of n bytes, segment DS unless overridden (R362). -/
def locateMoffs (o : Moffs) (n : Nat) (kind : Acc) : Act (List PA) := do
  segAccess ((← get).dataSeg .ds) (moffs o) n kind n
/-- MOV AL, moffs8 (R362). -/
def execMovAlOb (o : Moffs) (s : State) := runInstr (do
  let v ← readPlace 8 (.mem (← locateMoffs o 1 .read))
  setReg8 .al v) s
/-- MOV eAX, moffsv (R362). -/
def execMovAxOv (sz : OSize) (o : Moffs) (s : State) := runInstr (do
  let v ← readPlace (osBits sz) (.mem (← locateMoffs o (osBytes sz) .read))
  setRegN .eax v) s
/-- MOV moffs8, AL (R362). -/
def execMovObAl (o : Moffs) (s : State) := runInstr (do
  let pas ← locateMoffs o 1 .write
  writePlace (.mem pas) (← getReg8 .al)) s
/-- MOV moffsv, eAX (R362). -/
def execMovOvAx (sz : OSize) (o : Moffs) (s : State) := runInstr (do
  let pas ← locateMoffs o (osBytes sz) .write
  writePlace (.mem pas) (← getRegV sz .eax)) s
/-- Store a 16-bit selector in r/m16; a 32-bit register destination gets an undefined upper half (R363, R425, R427). -/
def storeSel (sz : OSize) (d : RMv) (sel : Word16) : Act Unit :=
  match d, sz with
  | .reg r, .w16 => setRegN r sel
  | .reg r, .w32 => do setReg r ((← drawWord16) ++ sel)
  | .mem m, _ => do
    let pas ← locateMem m 2 2 .write
    writePlace (.mem pas) sel
/-- MOV r/m16, sreg (R363). -/
def execMovEwSw (sz : OSize) (d : RMv) (r : SegReg) (s : State) := runInstr (do
  storeSel sz d ((← get).segs.get r).sel) s
/-- After a load of SS, interrupts and debug traps wait for the next instruction (R363, R658). -/
def shadowIfSs (r : SegReg) : Act Unit := if r = .ss then upd fun s => { s with shadow := .ss } else pure ()
/-- MOV sreg, r/m16 (R363). -/
def execMovSwEw (d : SegReg) (e : RMv) (s : State) := runInstr (do
  loadSeg d (← readRM16 e)
  shadowIfSs d) s

/-! PUSH and POP (R366 to R371). -/

/-- Push a segment register (R366). -/
def pushSeg (sz : OSize) (r : SegReg) : Act Unit := do push sz (← selItem sz ((← get).segs.get r).sel)
/-- Pop into a segment register (R367). -/
def popSeg (sz : OSize) (r : SegReg) : Act Unit := do
  let v ← pop sz
  loadSeg r (v.setWidth 16)
  shadowIfSs r
/-- PUSH ES (R366). -/
def execPushEs (sz : OSize) (s : State) := runInstr (pushSeg sz .es) s
/-- PUSH CS (R366). -/
def execPushCs (sz : OSize) (s : State) := runInstr (pushSeg sz .cs) s
/-- PUSH SS (R366). -/
def execPushSs (sz : OSize) (s : State) := runInstr (pushSeg sz .ss) s
/-- PUSH DS (R366). -/
def execPushDs (sz : OSize) (s : State) := runInstr (pushSeg sz .ds) s
/-- PUSH FS (R366). -/
def execPushFs (sz : OSize) (s : State) := runInstr (pushSeg sz .fs) s
/-- PUSH GS (R366). -/
def execPushGs (sz : OSize) (s : State) := runInstr (pushSeg sz .gs) s
/-- POP ES (R367). -/
def execPopEs (sz : OSize) (s : State) := runInstr (popSeg sz .es) s
/-- POP SS (R367). -/
def execPopSs (sz : OSize) (s : State) := runInstr (popSeg sz .ss) s
/-- POP DS (R367). -/
def execPopDs (sz : OSize) (s : State) := runInstr (popSeg sz .ds) s
/-- POP FS (R367). -/
def execPopFs (sz : OSize) (s : State) := runInstr (popSeg sz .fs) s
/-- POP GS (R367). -/
def execPopGs (sz : OSize) (s : State) := runInstr (popSeg sz .gs) s
/-- PUSH rv (R366): the value before the decrement. -/
def execPushR (sz : OSize) (r : Reg) (s : State) := runInstr (do push sz (← getReg r)) s
/-- PUSH r/mv (R366). -/
def execPushEv (sz : OSize) (d : RMv) (s : State) := runInstr (do
  let v ← before ((← get).pushRefs sz 1 1) (readRMv sz d)
  push sz (v.setWidth 32)) s
/-- PUSH iv (R366). -/
def execPushIv (i : Imm) (s : State) := runInstr (push i.osize (immZext i)) s
/-- PUSH ib, sign-extended (R366). -/
def execPushIbs (sz : OSize) (i : Byte) (s : State) := runInstr (push sz (i.signExtend 32)) s
/-- POP rv (R367). -/
def execPopR (sz : OSize) (r : Reg) (s : State) := runInstr (do
  let v ← pop sz
  setRegN r (v.setWidth (osBits sz))) s
/-- POP r/mv (R367): a memory address through ESP uses the value after the increment. -/
def execPopEv (sz : OSize) (d : RMv) (s : State) := runInstr (do
  let s1 ← get
  let sp := newEsp s1.segs.ss s1.regs.esp (wrapSp s1.segs.ss (s1.stackPtr + BitVec.ofNat 32 (osBytes sz)))
  let s2 : State := { s1 with regs := { s1.regs with esp := sp } }
  let v ← before (s2.opRefs d (osBytes sz) .write) (peekStack sz 0)
  dropStack sz 1 0
  writeRMv sz d (v.setWidth (osBits sz))) s
/-- PUSHA (R368). -/
def execPusha (sz : OSize) (s : State) := runInstr (do
  let g := (← get).regs
  pushMany sz [g.eax, g.ecx, g.edx, g.ebx, g.esp, g.ebp, g.esi, g.edi]) s
/-- POPA (R369): the saved stack pointer is skipped. -/
def execPopa (sz : OSize) (s : State) := runInstr (do
  let di ← peekItem sz 8 0
  let si ← peekItem sz 8 1
  let bp ← peekItem sz 8 2
  let _ ← peekItem sz 8 3
  let bx ← peekItem sz 8 4
  let dx ← peekItem sz 8 5
  let cx ← peekItem sz 8 6
  let ax ← peekItem sz 8 7
  dropStack sz 8 0
  setRegN .edi (di.setWidth (osBits sz))
  setRegN .esi (si.setWidth (osBits sz))
  setRegN .ebp (bp.setWidth (osBits sz))
  setRegN .ebx (bx.setWidth (osBits sz))
  setRegN .edx (dx.setWidth (osBits sz))
  setRegN .ecx (cx.setWidth (osBits sz))
  setRegN .eax (ax.setWidth (osBits sz))) s
/-- The IOPL-sensitive instructions of V86 mode raise #GP(0) with IOPL below 3 (R531). -/
def v86Sensitive : Act Unit := do
  let s ← get
  if s.v86 && s.flags.iopl != 3#2 then raise (.gp 0#16)
/-- PUSHF (R371): VM and RF are pushed as 0. -/
def execPushf (sz : OSize) (s : State) := runInstr (do
  v86Sensitive
  push sz ((← getFlags).toWord &&& 0xFCFFFF#32)) s
/-- POPF (R370). -/
def execPopf (sz : OSize) (s : State) := runInstr (do
  v86Sensitive
  let v ← pop sz
  writeFlags v sz false) s

/-! XCHG, NOP, XLAT (R372 to R374). -/

/-- XCHG r/m8, r8 (R372), locked with a memory operand (R149). -/
def execXchgEbGb (d : RM8) (r : Reg8) (s : State) := runInstr (do
  let p ← locate8 d .write
  let p := (← get).lockPlace p
  let t ← readPlace 8 p
  writePlace p (← getReg8 r)
  setReg8 r t) s
/-- XCHG r/mv, rv (R372), locked with a memory operand (R149). -/
def execXchgEvGv (sz : OSize) (d : RMv) (r : Reg) (s : State) := runInstr (do
  let p ← locateV sz d .write
  let p := (← get).lockPlace p
  let t ← readPlace (osBits sz) p
  writePlace p (← getRegV sz r)
  setRegN r t) s
/-- XCHG eAX, rv (R372). -/
def execXchgAx (sz : OSize) (r : Reg) (s : State) := runInstr (do
  let t ← getRegV sz .eax
  setRegN .eax (← getRegV sz r)
  setRegN r t) s
/-- NOP (R373). -/
def execNop (s : State) := runInstr (pure ()) s
/-- An offset of address size (R243). -/
def asTrunc (az : ASize) (v : Word) : Word :=
  match az with
  | .a16 => v &&& 0xFFFF#32
  | .a32 => v
/-- XLAT (R374). -/
def execXlat (az : ASize) (s : State) := runInstr (do
  let st ← get
  let oa := asTrunc az (asTrunc az st.regs.ebx + (st.regs.get8 .al).setWidth 32)
  let v ← memRead (st.dataSeg .ds) oa 1 1
  setReg8 .al (BitVec.ofNat 8 v)) s

end Sys2Proof.Machine
end

