-- ==== Sys2Proof/Machine/Control.lean ====
section
/-! DEFINITION. Control transfer instructions (42_control_transfer.md R330 to R347). -/
namespace Sys2Proof.Machine
open Sys2Proof

/-- A far target that has passed its checks: the new CS, the new EIP, the descriptor to mark accessed (R332). -/
structure FarDest where
  cs : Seg
  eip : Word
  desc : Option (Word × BitVec 64)
deriving DecidableEq, Repr

/-- A system descriptor as the target of a far transfer (R332, D21). -/
def farSystem (typ : BitVec 4) (bad : Exc) : Act FarDest :=
  if typ == 0x4#4 || typ == 0xC#4 then refuse .callGate
  else if typ == 0x5#4 then refuse .taskGate
  else if typ == 0x1#4 || typ == 0x3#4 || typ == 0x9#4 || typ == 0xB#4 then refuse .taskSwitch
  else raise bad

/-- The checks of FarTarget (R332), nothing committed. -/
def checkFar (sel : Word16) (off : Word) : Act FarDest := do
  let s ← get
  if s.realLike then
    if decide (s.segs.cs.limit < off) then raise (.gp 0#16)
    return { cs := s.loadReal s.segs.cs sel, eip := off, desc := none }
  else
    if nullSel sel then raise (.gp 0#16)
    let bad := Exc.gp (selCode sel)
    let (a, d) ← readDesc sel bad
    let at' := descAttr d
    if at'.code then
      if at'.conforming && decide (s.cpl < at'.dpl) then raise bad
      if !at'.conforming && (decide (s.cpl < rpl sel) || at'.dpl != s.cpl) then raise bad
      if !at'.p then raise (.np (selCode sel))
      if decide (descLimit d < off) then raise (.gp 0#16)
      return { cs := Seg.ofDesc (selCode sel ||| s.cpl.setWidth 16) d, eip := off, desc := some (a, d) }
    else if !at'.dt then farSystem at'.typ bad
    else raise bad

/-- Load CS and EIP (R332). -/
def commitFar (t : FarDest) : Act Unit := do
  match t.desc with
  | some (a, d) => markAccessed a d
  | none => pure ()
  upd fun s => { s with segs := { s.segs with cs := t.cs }, eip := t.eip }
  branched

/-- The target of a relative branch (R251): EIP is already that of the next instruction. -/
def relTarget (disp : Word) : Act Word := do return (← get).eip + disp
/-- Near JMP (R333). -/
def jumpNear (sz : OSize) (t : Word) : Act Unit := do
  loadEip sz t
  branched
/-- Near CALL (R335): the target is checked, then the return offset is pushed. -/
def callNear (sz : OSize) (t : Word) : Act Unit := do
  let next := (← get).eip
  loadEip sz t
  push sz next
  branched
/-- Far JMP (R334). -/
def jumpFar (sel : Word16) (off : Word) : Act Unit := do commitFar (← checkFar sel off)
/-- Far CALL (R336): CS first, then EIP; all checks before any push is stored. A fault of the descriptor's read comes at its
place in the pseudocode, before those of the stack (R497; DESIGN CHOICE, log 68). -/
def callFar (sz : OSize) (sel : Word16) (off : Word) : Act Unit := do
  let t ← checkFar sel off
  let s ← get
  let places ← pushPlaces sz 1 (blanks 2)
  let cs ← selItem sz s.segs.cs.sel
  match t.desc with
  | some (a, d) => markAccessed a d
  | none => pure ()
  pushCommit sz places [cs, s.eip]
  commitFar { t with desc := none }
/-- A far pointer in memory: offset, then selector (R252); `later` are the references that follow (R497). -/
def readFarPtr (sz : OSize) (m : Mem) (later : List Ref) : Act (Word16 × Word) := do
  let s ← get
  let seg := s.dataSeg (defaultSeg m)
  let oa := effAddr s.regs m
  let oa2 := oa + BitVec.ofNat 32 (osBytes sz)
  let off ← before (⟨seg, oa2, 2, .read⟩ :: later) (memRead seg oa (osBytes sz) (osBytes sz))
  let sel ← before later (memRead seg oa2 2 2)
  return (BitVec.ofNat 16 sel, BitVec.ofNat 32 off)

/-- JMP rel8 (R333). -/
def execJmpRel8 (sz : OSize) (d : Byte) (s : State) := runInstr (do jumpNear sz (← relTarget (d.signExtend 32))) s
/-- JMP relv (R333). -/
def execJmpRel (d : Imm) (s : State) := runInstr (do jumpNear d.osize (← relTarget (immSext d))) s
/-- JMP r/mv (R333). -/
def execJmpEv (sz : OSize) (d : RMv) (s : State) := runInstr (do jumpNear sz ((← readRMv sz d).setWidth 32)) s
/-- JMP ptr16:v (R334). -/
def execJmpPtr (p : FarPtr) (s : State) := runInstr (jumpFar p.sel (immZext p.off)) s
/-- JMP m16:v (R334). -/
def execJmpMp (sz : OSize) (m : Mem) (s : State) := runInstr (do
  let p ← readFarPtr sz m []
  jumpFar p.1 p.2) s
/-- CALL relv (R335). -/
def execCallRel (d : Imm) (s : State) := runInstr (do callNear d.osize (← relTarget (immSext d))) s
/-- CALL r/mv (R335). -/
def execCallEv (sz : OSize) (d : RMv) (s : State) := runInstr (do
  let t ← before ((← get).pushRefs sz 1 1) (readRMv sz d)
  callNear sz (t.setWidth 32)) s
/-- CALL ptr16:v (R336). -/
def execCallPtr (p : FarPtr) (s : State) := runInstr (callFar p.off.osize p.sel (immZext p.off)) s
/-- CALL m16:v (R336). -/
def execCallMp (sz : OSize) (m : Mem) (s : State) := runInstr (do
  let p ← readFarPtr sz m ((← get).pushRefs sz 1 2)
  callFar sz p.1 p.2) s

/-- Near RET with `n` further bytes released (R337). -/
def retNear (sz : OSize) (n : Word16) : Act Unit := do
  let t ← peekStack sz 0
  loadEip sz t
  dropStack sz 1 n.toNat
  transferred
/-- RET (R337). -/
def execRet (sz : OSize) (s : State) := runInstr (retNear sz 0#16) s
/-- RET iw (R337). -/
def execRetIw (sz : OSize) (n : Word16) (s : State) := runInstr (retNear sz n) s

/-- Far RET with `n` further bytes released (R338). -/
def retFar (sz : OSize) (n : Word16) : Act Unit := do
  let off ← peekItem sz 2 0
  let sel32 ← peekItem sz 2 1
  let sel : Word16 := sel32.setWidth 16
  let s ← get
  if s.realLike then
    if decide (s.segs.cs.limit < off) then raise (.gp 0#16)
    dropStack sz 2 n.toNat
    upd fun s => { s with segs := { s.segs with cs := s.loadReal s.segs.cs sel }, eip := off }
  else
    let (a, d) ← checkReturnSel sel off
    if rpl sel == s.cpl then
      markAccessed a d
      dropStack sz 2 n.toNat
      upd fun s => { s with segs := { s.segs with cs := Seg.ofDesc sel d }, eip := off }
    else outerReturn sz sel off a d 2 n.toNat none
  transferred
/-- RET far (R338). -/
def execRetf (sz : OSize) (s : State) := runInstr (retFar sz 0#16) s
/-- RET far iw (R338). -/
def execRetfIw (sz : OSize) (n : Word16) (s : State) := runInstr (retFar sz n) s

/-- IRET (R340). -/
def execIret (sz : OSize) (s : State) := runInstr (interruptReturn sz) s
/-- INT n (R341). -/
def execIntN (v : Byte) (s : State) := runInstr (do
  v86Sensitive
  softInt v) s
/-- INT 3 (R342). -/
def execInt3 (s : State) := runInstr (softInt 3#8) s
/-- INTO (R343). -/
def execInto (s : State) := runInstr (do
  if (← getFlags).ofl then softInt 4#8) s
/-- BOUND (R344): the lower bound at OA, the upper bound after it. -/
def execBound (sz : OSize) (r : Reg) (m : Mem) (s : State) := runInstr (do
  let st ← get
  let n := osBytes sz
  let seg := st.dataSeg (defaultSeg m)
  let oa := effAddr st.regs m
  let oa2 := oa + BitVec.ofNat 32 n
  let lo := (BitVec.ofNat (osBits sz) (← before [⟨seg, oa2, n, .read⟩] (memRead seg oa n n))).toInt
  let hi := (BitVec.ofNat (osBits sz) (← memRead seg oa2 n n)).toInt
  let i := (← getRegV sz r).toInt
  if i < lo ∨ hi < i then raise .br) s

/-- Decrement the count register and answer whether it is not zero (R345). -/
def countDown (az : ASize) : Act Bool := do
  let c := asTrunc az ((← getReg .ecx) - 1#32)
  match az with
  | .a16 => setRegN .ecx (c.setWidth 16)
  | .a32 => setReg .ecx c
  return c != 0#32
/-- A loop instruction: branch when the count is not zero and the condition holds (R345 to R347). -/
def loopIf (sz : OSize) (az : ASize) (d : Byte) (cond : Flags → Bool) : Act Unit := do
  let more ← countDown az
  if more && cond (← getFlags) then loadEip sz (← relTarget (d.signExtend 32))
/-- LOOP (R345). -/
def execLoop (sz : OSize) (az : ASize) (d : Byte) (s : State) := runInstr (loopIf sz az d fun _ => true) s
/-- LOOPE (R346). -/
def execLoope (sz : OSize) (az : ASize) (d : Byte) (s : State) := runInstr (loopIf sz az d fun f => f.zf) s
/-- LOOPNE (R347). -/
def execLoopne (sz : OSize) (az : ASize) (d : Byte) (s : State) := runInstr (loopIf sz az d fun f => !f.zf) s

end Sys2Proof.Machine
end

