-- ==== Sys2Proof/Machine/Fpu.lean ====
section
/-! DEFINITION. Floating point and MMX instructions (44_fpu_mmx.md R400 to R416): availability and pending errors, the
state image in memory, WAIT, the save and restore instructions, the ESC class, EMMS, MOVD, MOVQ. -/
namespace Sys2Proof.Machine
open Sys2Proof

/-! Availability and pending errors (R400 to R402, R408, R412). -/

/-- CR0.MP -/
def State.mp (s : State) : Bool := s.cr0.getLsbD 1
/-- CR0.EM -/
def State.em (s : State) : Bool := s.cr0.getLsbD 2
/-- CR0.TS -/
def State.ts (s : State) : Bool := s.cr0.getLsbD 3
/-- CR0.NE -/
def State.ne (s : State) : Bool := s.cr0.getLsbD 5
/-- The ES bit of the status register: an unmasked error is pending (R55). -/
def Fpu.es (f : Fpu) : Bool := f.status.getLsbD 7
/-- A pending unmasked error: #MF with NE = 1, outside the spec with NE = 0 (R402). -/
def pendingError : Act Unit := do
  let s ← get
  if s.fpu.es then
    if s.ne then raise .mf
    refuse .fpuErrorExternal
/-- Device not available for ESC instructions (R401). -/
def escAvailable : Act Unit := do
  let s ← get
  if s.em || s.ts then raise .nm
/-- The checks of WAIT (R402). -/
def waitCheck : Act Unit := do
  let s ← get
  if s.mp && s.ts then raise .nm
  pendingError
/-- The checks of every MMX instruction (R412). -/
def mmxAvailable : Act Unit := do
  let s ← get
  if s.em then raise .ud
  if s.ts then raise .nm
  pendingError

/-! The data registers (R53, R57). -/

/-- Physical data register n. -/
def Fpu.phys (f : Fpu) (n : Nat) : BitVec 80 :=
  match n with
  | 0 => f.r0 | 1 => f.r1 | 2 => f.r2 | 3 => f.r3 | 4 => f.r4 | 5 => f.r5 | 6 => f.r6 | _ => f.r7
/-- Replace physical data register n. -/
def Fpu.setPhys (f : Fpu) (n : Nat) (v : BitVec 80) : Fpu :=
  match n with
  | 0 => { f with r0 := v } | 1 => { f with r1 := v } | 2 => { f with r2 := v } | 3 => { f with r3 := v }
  | 4 => { f with r4 := v } | 5 => { f with r5 := v } | 6 => { f with r6 := v } | _ => { f with r7 := v }
/-- The top-of-stack field SSS (R55). -/
def Fpu.top (f : Fpu) : Nat := (f.status.extractLsb' 11 3).toNat
/-- The status register with top of stack 0. -/
def Fpu.clearTop (f : Fpu) : Fpu := { f with status := f.status &&& ~~~0x3800#16 }
/-- The number of an MMX register. -/
def mmNum : MmReg → Nat
  | .mm0 => 0 | .mm1 => 1 | .mm2 => 2 | .mm3 => 3 | .mm4 => 4 | .mm5 => 5 | .mm6 => 6 | .mm7 => 7
/-- An MMX register: the low 64 bits of the data register (R57). -/
def Fpu.mm (f : Fpu) (r : MmReg) : BitVec 64 := (f.phys (mmNum r)).extractLsb' 0 64
/-- Write an MMX register: bits 79:64 become ones (R412). -/
def Fpu.setMm (f : Fpu) (r : MmReg) (v : BitVec 64) : Fpu := f.setPhys (mmNum r) (0xFFFF#16 ++ v)
/-- Read an MMX register. -/
def getMm (r : MmReg) : Act (BitVec 64) := fun s => .ok (s.fpu.mm r) s
/-- Write an MMX register. -/
def setMm (r : MmReg) (v : BitVec 64) : Act Unit := upd fun s => { s with fpu := s.fpu.setMm r v }
/-- After an MMX instruction: top of stack 0, the given tag word (R412, R413). -/
def mmxDone (tag : Word16) : Act Unit := upd fun s => { s with fpu := { s.fpu.clearTop with tag := tag } }

/-! The state image (R403). -/

/-- The four forms of the environment. -/
inductive EnvForm | prot16 | prot32 | real16 | real32
deriving DecidableEq, Repr
/-- The form chosen by operand size and mode. -/
def State.envForm (s : State) (sz : OSize) : EnvForm :=
  match sz, s.realLike with
  | .w16, false => .prot16
  | .w32, false => .prot32
  | .w16, true => .real16
  | .w32, true => .real32
/-- The bytes of an environment. -/
def envLen : OSize → Nat
  | .w16 => 14
  | .w32 => 28
/-- A word whose bits outside `mask` are undefined. -/
def freeOutside16 (mask v : Word16) : Act Word16 := do return ((← drawWord16) &&& ~~~mask) ||| (v &&& mask)
/-- A doubleword whose bits outside `mask` are undefined. -/
def freeOutside (mask v : Word) : Act Word := do return ((← drawWord) &&& ~~~mask) ||| (v &&& mask)
/-- The linear address of a pointer, as the real-mode forms store it (R403): 16 times the selector plus the offset, also of a
pointer that was loaded from a protected-mode image (DESIGN CHOICE, log 33). -/
def pointerLinear (sel : Word16) (off : Word) : Word := (sel.setWidth 32 <<< 4) + off
/-- The bytes of the environment (R403); reserved fields are undefined. -/
def envBytes (f : Fpu) (form : EnvForm) : Act (List Byte) := do
  let ip := pointerLinear f.ipSel f.ipOff
  let op := pointerLinear f.opSel f.opOff
  match form with
  | .prot16 =>
    return le16 f.mcr ++ le16 f.status ++ le16 f.tag ++ le16 (f.ipOff.setWidth 16) ++ le16 f.ipSel ++
      le16 (f.opOff.setWidth 16) ++ le16 f.opSel
  | .real16 =>
    let w1 ← freeOutside16 0xF7FF#16 ((ip.extractLsb' 16 4 ++ 0#1 ++ f.opcode : BitVec 16))
    let w2 ← freeOutside16 0xF000#16 ((op.extractLsb' 16 4 ++ 0#12 : BitVec 16))
    return le16 f.mcr ++ le16 f.status ++ le16 f.tag ++ le16 (ip.setWidth 16) ++ le16 w1 ++
      le16 (op.setWidth 16) ++ le16 w2
  | .prot32 =>
    let a ← drawWord16
    let b ← drawWord16
    let c ← drawWord16
    let d ← drawWord16
    return le16 f.mcr ++ le16 a ++ le16 f.status ++ le16 b ++ le16 f.tag ++ le16 c ++ le32 f.ipOff ++
      le16 f.ipSel ++ le16 (f.opcode.setWidth 16) ++ le32 f.opOff ++ le16 f.opSel ++ le16 d
  | .real32 =>
    let a ← drawWord16
    let b ← drawWord16
    let c ← drawWord16
    let d ← drawWord16
    let e ← drawWord16
    let w1 ← freeOutside 0x0FFFF7FF#32 (((ip.extractLsb' 16 16).setWidth 32 <<< 12) ||| f.opcode.setWidth 32)
    let w2 ← freeOutside 0x0FFFF000#32 ((op.extractLsb' 16 16).setWidth 32 <<< 12)
    return le16 f.mcr ++ le16 a ++ le16 f.status ++ le16 b ++ le16 f.tag ++ le16 c ++ le16 (ip.setWidth 16) ++ le16 d ++
      le32 w1 ++ le16 (op.setWidth 16) ++ le16 e ++ le32 w2
/-- The bytes of the data registers in stack order from ST(k), n of them (R403). -/
def stackBytes (f : Fpu) (k n : Nat) : List Byte :=
  match n with
  | 0 => []
  | m + 1 => bytesOf 10 (f.phys ((f.top + k) % 8)).toNat ++ stackBytes f (k + 1) m

/-- The word at byte k of an image. -/
def imgWord (bs : List Byte) (k : Nat) : Word16 := BitVec.ofNat 16 (leNat ((bs.drop k).take 2))
/-- The doubleword at byte k of an image. -/
def imgDword (bs : List Byte) (k : Nat) : Word := BitVec.ofNat 32 (leNat ((bs.drop k).take 4))
/-- A status register value with ES set if an exception bit is unmasked, and B its copy (R55, R408). -/
def statusLoaded (mcr st : Word16) : Word16 :=
  let es := st.getLsbD 7 || (st &&& ~~~mcr &&& 0x3F#16) != 0#16
  if es then st ||| 0x8080#16 else st &&& ~~~0x8080#16
/-- The control, status and tag words of an image: every w bytes. -/
def loadWords (bs : List Byte) (w : Nat) (f : Fpu) : Fpu :=
  { f with mcr := imgWord bs 0, status := statusLoaded (imgWord bs 0) (imgWord bs w), tag := imgWord bs (2 * w) }
/-- A linear pointer loaded from a real-mode image: the selector is undefined, the offset makes the address right. -/
def loadLinear (lin : Word) : Act (Word16 × Word) := do
  let sel ← drawWord16
  return (sel, lin - (sel.setWidth 32 <<< 4))
/-- Load the environment from an image (R406); what the form does not hold is undefined. -/
def loadEnv (form : EnvForm) (bs : List Byte) (f : Fpu) : Act Fpu := do
  match form with
  | .prot16 =>
    let a ← drawWord16
    let b ← drawWord16
    let c ← drawWord16
    return { loadWords bs 2 f with
      ipOff := a ++ imgWord bs 6, ipSel := imgWord bs 8, opOff := b ++ imgWord bs 10, opSel := imgWord bs 12
      opcode := c.setWidth 11 }
  | .prot32 =>
    return { loadWords bs 4 f with
      ipOff := imgDword bs 12, ipSel := imgWord bs 16, opcode := (imgWord bs 18).setWidth 11
      opOff := imgDword bs 20, opSel := imgWord bs 24 }
  | .real16 =>
    let a ← drawWord16
    let b ← drawWord16
    let ip ← loadLinear (((a.extractLsb' 0 12 ++ (imgWord bs 8).extractLsb' 12 4 : BitVec 16)) ++ imgWord bs 6)
    let op ← loadLinear (((b.extractLsb' 0 12 ++ (imgWord bs 12).extractLsb' 12 4 : BitVec 16)) ++ imgWord bs 10)
    return { loadWords bs 2 f with
      ipSel := ip.1, ipOff := ip.2, opSel := op.1, opOff := op.2, opcode := (imgWord bs 8).setWidth 11 }
  | .real32 =>
    let ip ← loadLinear ((imgDword bs 16).extractLsb' 12 16 ++ imgWord bs 12)
    let op ← loadLinear ((imgDword bs 24).extractLsb' 12 16 ++ imgWord bs 20)
    return { loadWords bs 4 f with
      ipSel := ip.1, ipOff := ip.2, opSel := op.1, opOff := op.2, opcode := (imgDword bs 16).setWidth 11 }
/-- Load n data registers in stack order from ST(k); `bs` starts at ST(k). -/
def loadStack (bs : List Byte) (k n : Nat) (f : Fpu) : Fpu :=
  match n with
  | 0 => f
  | m + 1 =>
    loadStack (bs.drop 10) (k + 1) m (f.setPhys ((f.top + k) % 8) (BitVec.ofNat 80 (leNat (bs.take 10))))

/-- The state after FNSAVE (R404): control 037Fh, status 0, all tags empty, pointers 0; the data registers stay. That the
opcode is cleared with the pointers is the model's choice (DESIGN CHOICE, log 33). -/
def Fpu.initialised (f : Fpu) : Fpu :=
  { f with mcr := 0x37F#16, status := 0#16, tag := 0xFFFF#16, ipSel := 0#16, ipOff := 0#32, opSel := 0#16, opOff := 0#32,
           opcode := 0#11 }

/-- FNSAVE (R404). -/
def fnsave (sz : OSize) (m : Mem) : Act Unit := do
  escAvailable
  let s ← get
  let pas ← locateMem m (envLen sz + 80) 1 .write
  let env ← envBytes s.fpu (s.envForm sz)
  physWrite pas (env ++ stackBytes s.fpu 0 8)
  upd fun s => { s with fpu := s.fpu.initialised }
/-- FNSTENV (R407): all exceptions are masked afterwards; the status word stays, a set ES and its copy B too (DESIGN CHOICE,
log 67). -/
def fnstenv (sz : OSize) (m : Mem) : Act Unit := do
  escAvailable
  let s ← get
  let pas ← locateMem m (envLen sz) 1 .write
  let env ← envBytes s.fpu (s.envForm sz)
  physWrite pas env
  upd fun s => { s with fpu := { s.fpu with mcr := s.fpu.mcr ||| 0x3F#16 } }
/-- FRSTOR (R406). -/
def frstor (sz : OSize) (m : Mem) : Act Unit := do
  escAvailable
  let s ← get
  let bs ← physRead (← locateMem m (envLen sz + 80) 1 .read)
  let f ← loadEnv (s.envForm sz) bs s.fpu
  upd fun s => { s with fpu := loadStack (bs.drop (envLen sz)) 0 8 f }

/-- Nothing can come between the two parts of FSAVE and FSTENV: no single step, no breakpoint enabled, no event
pending and none to come. -/
def State.quiet (s : State) : Bool :=
  !s.flags.tf && s.env == [] && !s.nmiPending && !s.smiPending && s.trap == none && s.dr.dr7.extractLsb' 0 8 == 0#8
/-- WAIT, then a second instruction (R405, R407): as one step where nothing can come between them, else the step ends
after WAIT, with EIP at the second instruction. A fault of the second part is at its own address. -/
def waitThen (part : Act Unit) (s : State) : Host.Outcome State Fault Refusal :=
  match waitCheck.run s with
  | .ok _ s1 =>
    if s1.quiet then runInstr part { s1 with cur := { s1.cur with ip := s1.offAfter s1.cur.ip 1 } }
    else .next { s1 with eip := s1.offAfter s1.cur.ip 1 }
  | .error _ _ => runInstr waitCheck s

/-- WAIT (R402). -/
def execWait (s : State) := runInstr waitCheck s
/-- FNSAVE (R404). -/
def execFnsave (sz : OSize) (m : Mem) (s : State) := runInstr (fnsave sz m) s
/-- FSAVE (R405). -/
def execFsave (sz : OSize) (m : Mem) (s : State) := waitThen (fnsave sz m) s
/-- FRSTOR, which the source writes FNRSTOR (R406). -/
def execFrstor (sz : OSize) (m : Mem) (s : State) := runInstr (frstor sz m) s
/-- FNSTENV (R407). -/
def execFnstenv (sz : OSize) (m : Mem) (s : State) := runInstr (fnstenv sz m) s
/-- FSTENV (R407). -/
def execFstenv (sz : OSize) (m : Mem) (s : State) := waitThen (fnstenv sz m) s
/-- The unnamed ESC instructions of the family that do not test for a pending error: the control and status word
stores, DB E0 to DB E7 and DF E0 (PRESUMED, log 12). -/
def escNonWaiting (op ext : Bits3) (rm : RMmm) : Bool :=
  match rm with
  | .mem _ => (op == 1#3 || op == 5#3) && ext == 7#3
  | .reg r => (op == 3#3 || (op == 7#3 && r == .mm0)) && ext == 4#3
/-- Every other floating point instruction: #NM, then for a waiting one the pending error, then outside the spec (R401). -/
def execEsc (op ext : Bits3) (rm : RMmm) (s : State) := runInstr (do
  escAvailable
  if !escNonWaiting op ext rm then pendingError
  refuse .escClass) s

/-! MMX (R412 to R415). -/

/-- EMMS (R413). -/
def execEmms (s : State) := runInstr (do
  mmxAvailable
  mmxDone 0xFFFF#16) s
/-- MOVD mm, r/m32 (R414). -/
def execMovdPE (d : MmReg) (e : RMv) (s : State) := runInstr (do
  mmxAvailable
  let v ← readRM32 e
  setMm d (v.setWidth 64)
  mmxDone 0#16) s
/-- MOVD r/m32, mm (R414). -/
def execMovdEP (d : RMv) (r : MmReg) (s : State) := runInstr (do
  mmxAvailable
  let p ← locateN 4 d .write
  writePlace p (((← getMm r).setWidth 32 : Word))
  mmxDone 0#16) s
/-- Read an mm/m64 operand (R415). -/
def readMm64 (e : RMmm) : Act (BitVec 64) :=
  match e with
  | .reg r => getMm r
  | .mem m => do return BitVec.ofNat 64 (leNat (← physRead (← locateMem m 8 8 .read)))
/-- Write an mm/m64 operand (R415). -/
def writeMm64 (d : RMmm) (v : BitVec 64) : Act Unit :=
  match d with
  | .reg r => setMm r v
  | .mem m => do physWrite (← locateMem m 8 8 .write) (bytesOf 8 v.toNat)
/-- MOVQ mm, mm/m64 (R415). -/
def execMovqPQ (d : MmReg) (e : RMmm) (s : State) := runInstr (do
  mmxAvailable
  setMm d (← readMm64 e)
  mmxDone 0#16) s
/-- MOVQ mm/m64, mm (R415). -/
def execMovqQP (d : RMmm) (r : MmReg) (s : State) := runInstr (do
  mmxAvailable
  writeMm64 d (← getMm r)
  mmxDone 0#16) s

end Sys2Proof.Machine
end

