-- ==== Sys2Proof/Machine/IoString.lean ====
section
/-! DEFINITION. The I/O space and the configuration registers behind ports 22h and 23h (11_config_registers.md R101 to
R121, 20_memory.md R141 to R143, 60_exceptions.md R530), and the I/O and string instructions
(43_data_transfer_string.md R380 to R390). -/
namespace Sys2Proof.Machine
open Sys2Proof

/-! The I/O permission check (R530). -/

/-- The n bits of the permission map from bit number `k` are all 0 (R530). -/
def ioMapAllows (base : Word) (k n : Nat) : Act Unit :=
  match n with
  | 0 => pure ()
  | m + 1 => do
    let b := BitVec.ofNat 8 (← linRead (base + BitVec.ofNat 32 (k / 8)) 1)
    if b.getLsbD (k % 8) then raise (.gp 0#16)
    ioMapAllows base (k + 1) m
/-- The I/O permission bit map of a 32-bit TSS (R530). -/
def ioMapCheck (port : Word16) (n : Nat) : Act Unit := do
  let s ← get
  if s.tr.attr.typ == 0x1#4 || s.tr.attr.typ == 0x3#4 then raise (.gp 0#16)
  if decide (s.tr.limit.toNat < 0x67) then raise (.gp 0#16)
  let mb ← linRead (s.tr.base + 0x66#32) 2
  if decide (s.tr.limit.toNat < mb + (port.toNat + n - 1) / 8) then raise (.gp 0#16)
  ioMapAllows (s.tr.base + BitVec.ofNat 32 mb) port.toNat n
/-- The access needs no consultation of the map: real mode, or protected mode with CPL ≤ IOPL (R530). -/
def State.ioFree (s : State) : Bool := !s.pe || (!s.flags.vm && decide (s.cpl ≤ s.flags.iopl))
/-- IoPermit (R530). -/
def ioPermit (port : Word16) (n : Nat) : Act Unit := do
  if !(← get).ioFree then ioMapCheck port n

/-! Configuration registers (R101 to R121). -/

/-- What an index holds (R103). -/
inductive CfgSlot | ccr (n : Nat) | arr (n k : Nat) | rcr (n : Nat) | empty
deriving DecidableEq, Repr
/-- The register map (R103): byte k of an address region register is 0 for A31 to A24. -/
def cfgSlot (i : Nat) : CfgSlot :=
  if 0xC0 ≤ i ∧ i ≤ 0xC3 then .ccr (i - 0xC0)
  else if 0xC4 ≤ i ∧ i ≤ 0xCF then .arr ((i - 0xC4) / 3) ((i - 0xC4) % 3)
  else if 0xD0 ≤ i ∧ i ≤ 0xDB then .arr (4 + (i - 0xD0) / 3) ((i - 0xD0) % 3)
  else if 0xDC ≤ i ∧ i ≤ 0xE3 then .rcr (i - 0xDC)
  else if 0xE8 ≤ i ∧ i ≤ 0xEA then .ccr (i - 0xE4)
  else .empty
/-- MAPEN = 1h: every index is on the chip (R113). -/
def CfgRegs.mapAll (c : CfgRegs) : Bool := c.ccr3.extractLsb' 4 4 == 1#4
/-- OnChip (R101, R102). -/
def CfgRegs.onChip (c : CfgRegs) (i : Byte) : Bool :=
  c.mapAll || (decide (0xC0 ≤ i.toNat) && decide (i.toNat ≤ 0xCF)) || decide (0xFC ≤ i.toNat)
/-- Configuration control register n. -/
def CfgRegs.ccr (c : CfgRegs) (n : Nat) : Byte :=
  match n with
  | 0 => c.ccr0 | 1 => c.ccr1 | 2 => c.ccr2 | 3 => c.ccr3 | 4 => c.ccr4 | 5 => c.ccr5 | _ => c.ccr6
/-- Replace configuration control register n. -/
def CfgRegs.setCcr (c : CfgRegs) (n : Nat) (v : Byte) : CfgRegs :=
  match n with
  | 0 => { c with ccr0 := v } | 1 => { c with ccr1 := v } | 2 => { c with ccr2 := v } | 3 => { c with ccr3 := v }
  | 4 => { c with ccr4 := v } | 5 => { c with ccr5 := v } | _ => { c with ccr6 := v }
/-- Replace address region register n. -/
def CfgRegs.setArr (c : CfgRegs) (n : Nat) (v : BitVec 24) : CfgRegs :=
  match n with
  | 0 => { c with arr0 := v } | 1 => { c with arr1 := v } | 2 => { c with arr2 := v } | 3 => { c with arr3 := v }
  | 4 => { c with arr4 := v } | 5 => { c with arr5 := v } | 6 => { c with arr6 := v } | _ => { c with arr7 := v }
/-- Replace region control register n. -/
def CfgRegs.setRcr (c : CfgRegs) (n : Nat) (v : Byte) : CfgRegs :=
  match n with
  | 0 => { c with rcr0 := v } | 1 => { c with rcr1 := v } | 2 => { c with rcr2 := v } | 3 => { c with rcr3 := v }
  | 4 => { c with rcr4 := v } | 5 => { c with rcr5 := v } | 6 => { c with rcr6 := v } | _ => { c with rcr7 := v }
/-- Byte k of an address region register, most significant first (R118). -/
def arrByte (a : BitVec 24) (k : Nat) : Byte := a.extractLsb' (16 - 8 * k) 8
/-- Replace byte k of an address region register. -/
def setArrByte (a : BitVec 24) (k : Nat) (v : Byte) : BitVec 24 :=
  (a &&& ~~~(0xFF#24 <<< (16 - 8 * k))) ||| (v.setWidth 24 <<< (16 - 8 * k))
/-- The new value with the bits of `mask` kept from the old one. -/
def keepBits (mask old new : Byte) : Byte := (new &&& ~~~mask) ||| (old &&& mask)
/-- The bits of a configuration control register that SMI_LOCK freezes (R116): USE_SMI, SMAC, SM3; NMI_EN; N, SMM_MODE. -/
def lockedBits (n : Nat) : Byte :=
  match n with
  | 1 => 0x86#8
  | 3 => 0x02#8
  | 6 => 0x41#8
  | _ => 0#8
/-- The value a write of `v` leaves in configuration control register n (R116, D8): frozen bits stay while locked
outside SMM, and SMI_LOCK once set stays set. -/
def State.ccrWritten (s : State) (n : Nat) (v : Byte) : Byte :=
  let old := s.cfg.ccr n
  let locked := s.cfg.ccr3.getLsbD 0 && !s.inSmm
  let w := if locked then keepBits (lockedBits n) old v else v
  if n = 3 then w ||| (old &&& 1#8) else w
/-- CfgWrite (R103, R116): a write to ARR3 clears the valid bit of SMHR (R560) unless SMI_LOCK drops it; an index that
holds no register ignores it (D6). -/
def State.cfgWrite (s : State) (i v : Byte) : State :=
  match cfgSlot i.toNat with
  | .ccr n => { s with cfg := s.cfg.setCcr n (s.ccrWritten n v) }
  | .arr n k =>
    if n = 3 then
      if s.cfg.ccr3.getLsbD 0 && !s.inSmm then s
      else { s with cfg := s.cfg.setArr 3 (setArrByte s.cfg.arr3 k v), smhr := s.smhr &&& ~~~1#32 }
    else { s with cfg := s.cfg.setArr n (setArrByte (s.cfg.arr n) k v) }
  | .rcr n => { s with cfg := s.cfg.setRcr n v }
  | .empty => s
/-- CfgRead (R103): an index that holds no register reads as an undefined byte (D6). -/
def cfgRead (i : Byte) : Act Byte := do
  let s ← get
  match cfgSlot i.toNat with
  | .ccr n => return s.cfg.ccr n
  | .arr n k => return arrByte (s.cfg.arr n) k
  | .rcr n => return s.cfg.rcr n
  | .empty => drawByte
/-- A port 23h transfer uses the selected index up (R101). -/
def consumeIndex : Act Unit := upd fun s => { s with cfg := { s.cfg with indexValid := false } }

/-! The I/O primitives (R143). -/

/-- The low n bytes of a doubleword. -/
def ioTrunc (n : Nat) (v : Word) : Word :=
  match n with
  | 1 => v &&& 0xFF#32
  | 2 => v &&& 0xFFFF#32
  | _ => v
/-- An external read cycle: the platform supplies the value (IO_PLATFORM, R8, R143). -/
def externalRead (port : Word16) (n : Nat) : Act Word := fun s =>
  let v := ioTrunc n (Config.ioRead s.freeCtr port)
  .ok v { s with freeCtr := s.freeCtr + 1,
                 ioLog := { write := false, port := port, size := n, value := v } :: s.ioLog }
/-- An external write cycle. -/
def externalWrite (port : Word16) (n : Nat) (v : Word) : Act Unit :=
  upd fun s => { s with ioLog := { write := true, port := port, size := n, value := v } :: s.ioLog }
/-- A byte transfer from port 22h or 23h (R101). -/
def cfgPortRead (port : Word16) : Act Word := do
  let s ← get
  if port = 0x23#16 ∧ s.cfg.indexValid then
    let v ← cfgRead s.cfg.index
    consumeIndex
    return v.setWidth 32
  else externalRead port 1
/-- A byte transfer to port 22h or 23h (R101). -/
def cfgPortWrite (port : Word16) (v : Word) : Act Unit := do
  let s ← get
  let b : Byte := v.setWidth 8
  if port = 0x22#16 then
    if s.cfg.onChip b then upd fun s => { s with cfg := { s.cfg with index := b, indexValid := true } }
    else
      consumeIndex
      externalWrite port 1 v
  else if s.cfg.indexValid then
    upd fun s => s.cfgWrite s.cfg.index b
    consumeIndex
  else externalWrite port 1 v
/-- The port is 22h or 23h. -/
def cfgPort (port : Word16) : Bool := port == 0x22#16 || port == 0x23#16
/-- The accesses the spec refuses: past port FFFFh (D24), a word or doubleword that touches port 22h or 23h (D5). -/
def ioBounds (port : Word16) (n : Nat) : Act Unit := do
  if 0x10000 < port.toNat + n then refuse .ioPastEnd
  if n ≠ 1 ∧ port.toNat ≤ 0x23 ∧ 0x22 < port.toNat + n then refuse .configPortWidth
/-- What an I/O instruction leaves for breakpoints (R592) and for the SMM header (R557). -/
def noteIo (write : Bool) (port : Word16) (n : Nat) (v : Word) (index : Option Word) : Act Unit := do
  noteHits fun s => s.ioHits port n
  upd fun s => { s with cur := { s.cur with
    io := some { write := write, rep := s.cur.pfx.rep
                 transfer := some { size := n, port := port, data := v, index := index } } } }
/-- IoRead (R143). -/
def ioRead (port : Word16) (n : Nat) (index : Option Word) : Act Word := do
  ioBounds port n
  let v ← if cfgPort port then cfgPortRead port else externalRead port n
  noteIo false port n v index
  return v
/-- IoWrite (R143). -/
def ioWrite (port : Word16) (n : Nat) (v : Word) (index : Option Word) : Act Unit := do
  ioBounds port n
  if cfgPort port then cfgPortWrite port v else externalWrite port n v
  noteIo true port n v index

/-! IN and OUT (R381, R382). -/

/-- The port number in DX. -/
def portDx : Act Word16 := do return (← getReg .edx).setWidth 16
/-- IN of n bytes. -/
def inPort (port : Word16) (n : Nat) : Act Word := do
  ioPermit port n
  ioRead port n none
/-- OUT of n bytes. -/
def outPort (port : Word16) (n : Nat) (v : Word) : Act Unit := do
  ioPermit port n
  ioWrite port n v none
/-- IN AL, ib (R381). -/
def execInAlIb (p : Byte) (s : State) := runInstr (do
  let v ← inPort (p.setWidth 16) 1
  setReg8 .al (v.setWidth 8)) s
/-- IN eAX, ib (R381). -/
def execInAxIb (sz : OSize) (p : Byte) (s : State) := runInstr (do
  let v ← inPort (p.setWidth 16) (osBytes sz)
  setRegN .eax (v.setWidth (osBits sz))) s
/-- OUT ib, AL (R382). -/
def execOutIbAl (p : Byte) (s : State) := runInstr (do
  outPort (p.setWidth 16) 1 ((← getReg8 .al).setWidth 32)) s
/-- OUT ib, eAX (R382). -/
def execOutIbAx (sz : OSize) (p : Byte) (s : State) := runInstr (do
  outPort (p.setWidth 16) (osBytes sz) (osTrunc sz (← getReg .eax))) s
/-- IN AL, DX (R381). -/
def execInAlDx (s : State) := runInstr (do
  let v ← inPort (← portDx) 1
  setReg8 .al (v.setWidth 8)) s
/-- IN eAX, DX (R381). -/
def execInAxDx (sz : OSize) (s : State) := runInstr (do
  let v ← inPort (← portDx) (osBytes sz)
  setRegN .eax (v.setWidth (osBits sz))) s
/-- OUT DX, AL (R382). -/
def execOutDxAl (s : State) := runInstr (do
  outPort (← portDx) 1 ((← getReg8 .al).setWidth 32)) s
/-- OUT DX, eAX (R382). -/
def execOutDxAx (sz : OSize) (s : State) := runInstr (do
  outPort (← portDx) (osBytes sz) (osTrunc sz (← getReg .eax))) s

/-! String instructions and REP (R386 to R390). -/

/-- The index register value: SI or DI with 16-bit addresses (R386). -/
def indexReg (az : ASize) (r : Reg) : Act Word := do return asTrunc az (← getReg r)
/-- The index register value after one item of n bytes: up with DF = 0, down with DF = 1, modulo 2^AS (R386). -/
def stepped (az : ASize) (old : Word) (df : Bool) (n : Nat) : Word :=
  let x := if df then old - BitVec.ofNat 32 n else old + BitVec.ofNat 32 n
  match az with
  | .a16 => old.extractLsb' 16 16 ++ x.extractLsb' 0 16
  | .a32 => x
/-- Step an index register. -/
def stepIndex (az : ASize) (r : Reg) (n : Nat) : Act Unit :=
  upd fun s => { s with regs := s.regs.set r (stepped az (s.regs.get r) s.flags.df n) }
/-- One iteration of a string instruction, or, under REP, one iteration if the count is not 0; when iterations remain
EIP stays at this instruction (R390). -/
def repeated (az : ASize) (iter : Act Unit) : Act Unit := do
  let s ← get
  if !s.cur.pfx.rep then iter
  else if asTrunc az s.regs.ecx = 0#32 then pure ()
  else
    iter
    let more ← countDown az
    if more then upd fun s => { s with eip := s.cur.ip, cur := { s.cur with repeating := true } }
/-- An I/O string instruction: one whose count is 0 under REP is an I/O instruction all the same for the SMM header, with I and
P but no transfer (R557 f). -/
def repeatedIo (write : Bool) (az : ASize) (iter : Act Unit) : Act Unit := do
  let s ← get
  if s.cur.pfx.rep && asTrunc az s.regs.ecx == 0#32 then
    upd fun s => { s with cur := { s.cur with io := some { write := write, rep := true, transfer := none } } }
  else repeated az iter
/-- One item of MOVS (R387). -/
def movsItem (az : ASize) (n : Nat) : Act Unit := do
  let s ← get
  let di := asTrunc az s.regs.edi
  let v ← before [⟨.es, di, n, .write⟩] (memRead (s.dataSeg .ds) (← indexReg az .esi) n n)
  memWrite .es (← indexReg az .edi) n n v
  stepIndex az .esi n
  stepIndex az .edi n
/-- One item of STOS (R388). -/
def stosItem (az : ASize) (n : Nat) : Act Unit := do
  memWrite .es (← indexReg az .edi) n n (← getReg .eax).toNat
  stepIndex az .edi n
/-- One item of INS (R383): the destination is checked before the port is read. -/
def insItem (az : ASize) (n : Nat) : Act Unit := do
  let port ← portDx
  ioPermit port n
  let pas ← segAccess .es (← indexReg az .edi) n .write n
  let v ← ioRead port n (some (← getReg .edi))
  physWrite pas (bytesOf n v.toNat)
  stepIndex az .edi n
/-- One item of OUTS (R384). -/
def outsItem (az : ASize) (n : Nat) : Act Unit := do
  let port ← portDx
  ioPermit port n
  let v ← memRead ((← get).dataSeg .ds) (← indexReg az .esi) n n
  ioWrite port n (BitVec.ofNat 32 v) (some (← getReg .esi))
  stepIndex az .esi n
/-- INSB (R383). -/
def execInsb (az : ASize) (s : State) := runInstr (repeatedIo false az (insItem az 1)) s
/-- INSW, INSD (R383). -/
def execInsv (sz : OSize) (az : ASize) (s : State) := runInstr (repeatedIo false az (insItem az (osBytes sz))) s
/-- OUTSB (R384). -/
def execOutsb (az : ASize) (s : State) := runInstr (repeatedIo true az (outsItem az 1)) s
/-- OUTSW, OUTSD (R384). -/
def execOutsv (sz : OSize) (az : ASize) (s : State) := runInstr (repeatedIo true az (outsItem az (osBytes sz))) s
/-- MOVSB (R387). -/
def execMovsb (az : ASize) (s : State) := runInstr (repeated az (movsItem az 1)) s
/-- MOVSW, MOVSD (R387). -/
def execMovsv (sz : OSize) (az : ASize) (s : State) := runInstr (repeated az (movsItem az (osBytes sz))) s
/-- STOSB (R388). -/
def execStosb (az : ASize) (s : State) := runInstr (repeated az (stosItem az 1)) s
/-- STOSW, STOSD (R388). -/
def execStosv (sz : OSize) (az : ASize) (s : State) := runInstr (repeated az (stosItem az (osBytes sz))) s

end Sys2Proof.Machine
end

