-- ==== Sys2Proof/Machine/System.lean ====
section
/-! DEFINITION. System instructions (45_system.md R420 to R443) with the cache and TLB test operations (20_memory.md R176
to R182, 21_translation.md R222 to R227). -/
namespace Sys2Proof.Machine
open Sys2Proof

/-- RequireCPL0 fails: protected mode above level 0, or V86 mode (R420). -/
def State.unprivileged (s : State) : Bool := s.pe && (s.flags.vm || s.cpl != 0#2)
/-- RequireCPL0 (R420). -/
def requireCpl0 : Act Unit := do
  if (← get).unprivileged then raise (.gp 0#16)

/-! Descriptor table registers and the task register (R421 to R427, R434). -/

/-- Read a six-byte table register operand: limit, then base, 24 bits of it with 16-bit operand size (R421, R422). -/
def readTableReg (sz : OSize) (m : Mem) : Act TableReg := do
  let s ← get
  let seg := s.dataSeg (defaultSeg m)
  let oa := effAddr s.regs m
  let lim ← before [⟨seg, oa + 2#32, 4, .read⟩] (memRead seg oa 2 2)
  let b := BitVec.ofNat 32 (← memRead seg (oa + 2#32) 4 4)
  return { limit := BitVec.ofNat 16 lim, base := if sz = .w32 then b else b &&& 0x00FFFFFF#32 }
/-- Store a table register: with 16-bit operand size the last byte is undefined (R423, R434). -/
def storeTableReg (sz : OSize) (m : Mem) (t : TableReg) : Act Unit := do
  let s ← get
  let seg := s.dataSeg (defaultSeg m)
  let oa := effAddr s.regs m
  let p1 ← before [⟨seg, oa + 2#32, 4, .write⟩] (segAccess seg oa 2 .write 2)
  let p2 ← segAccess seg (oa + 2#32) 4 .write 4
  let b ← match sz with
    | .w32 => pure t.base
    | .w16 => freeOutside24 t.base
  physWrite p1 (bytesOf 2 t.limit.toNat)
  physWrite p2 (bytesOf 4 b.toNat)
where
  /-- The top byte undefined. -/
  freeOutside24 (b : Word) : Act Word := do return (← drawByte) ++ b.extractLsb' 0 24
/-- LGDT (R421). -/
def execLgdt (sz : OSize) (m : Mem) (s : State) := runInstr (do
  requireCpl0
  let t ← readTableReg sz m
  upd fun s => { s with gdtr := t }) s
/-- LIDT (R422). -/
def execLidt (sz : OSize) (m : Mem) (s : State) := runInstr (do
  requireCpl0
  let t ← readTableReg sz m
  upd fun s => { s with idtr := t }) s
/-- SGDT (R423). -/
def execSgdt (sz : OSize) (m : Mem) (s : State) := runInstr (do storeTableReg sz m (← get).gdtr) s
/-- SIDT (R434). -/
def execSidt (sz : OSize) (m : Mem) (s : State) := runInstr (do storeTableReg sz m (← get).idtr) s

/-- LDTR and TR can be accessed in protected mode only (R424 to R427). -/
def protectedOnly : Act Unit := do
  if (← get).realLike then raise .ud
/-- A present system descriptor of the GDT whose type `ok` accepts (R424, R426). -/
def systemDesc (sel : Word16) (ok : BitVec 4 → Bool) : Act (Word × BitVec 64) := do
  let bad := Exc.gp (selCode sel)
  if sel.getLsbD 2 then raise bad
  let (a, d) ← readDesc sel bad
  if (descAttr d).dt || !ok (descAttr d).typ then raise bad
  if !(descAttr d).p then raise (.np (selCode sel))
  return (a, d)
/-- LLDT (R424): a null selector marks LDTR invalid (what its hidden part shows then: log 44). -/
def execLldt (e : RMv) (s : State) := runInstr (do
  protectedOnly
  requireCpl0
  let sel ← readRM16 e
  if nullSel sel then
    upd fun s => { s with ldtr := s.ldtr.nullLoad sel, ldtrInvalid := true }
  else
    let (_, d) ← systemDesc sel (· == 0x2#4)
    upd fun s => { s with ldtr := Seg.ofDesc sel d, ldtrInvalid := false }) s
/-- SLDT (R425). -/
def execSldt (sz : OSize) (d : RMv) (s : State) := runInstr (do
  protectedOnly
  storeSel sz d (← get).ldtr.sel) s
/-- The busy bit of a TSS descriptor (R426: TYPE OR 2). -/
def busyBit : BitVec 64 := 0x20000000000#64
/-- LTR (R426): the descriptor becomes busy in memory and in TR. -/
def execLtr (e : RMv) (s : State) := runInstr (do
  protectedOnly
  requireCpl0
  let sel ← readRM16 e
  if nullSel sel then raise (.gp (selCode sel))
  let (a, d) ← systemDesc sel fun t => t == 0x1#4 || t == 0x9#4
  linWrite (a + 5#32) 1 ((d ||| busyBit).extractLsb' 40 8).toNat
  upd fun s => { s with tr := Seg.ofDesc sel (d ||| busyBit) }) s
/-- STR (R427). -/
def execStr (sz : OSize) (d : RMv) (s : State) := runInstr (do
  protectedOnly
  storeSel sz d (← get).tr.sel) s

/-! TLB maintenance (R222, R431). -/

/-- An entry with V clear. -/
def TlbEntry.invalid (e : TlbEntry) : TlbEntry := { e with v := false }
/-- Invalidate the entries that `p` selects, in both arrays and among the cached translations (R222). An entry of L1 or L2 loses
V alone: a test read still shows its address and attributes (DESIGN CHOICE, log 65). -/
def Tlb.invalidate (t : Tlb) (p : TlbEntry → Bool) : Tlb :=
  { l1 := t.l1.map fun e => (e.1, if p e.2 then e.2.invalid else e.2)
    l2 := t.l2.map fun e => (e.1, if p e.2 then e.2.invalid else e.2)
    cached := t.cached.filter fun e => !p e }
/-- Flush everything, global entries included (R222, R428). -/
def Tlb.flushAll (t : Tlb) : Tlb := t.invalidate fun _ => true
/-- The flush of a CR3 load: global entries stay while CR4.PGE = 1 (R222). -/
def Tlb.flushCr3 (t : Tlb) (pge : Bool) : Tlb := t.invalidate fun e => !(pge && e.g)
/-- INVLPG (R431): the operand's address is formed, memory is not accessed. -/
def execInvlpg (m : Mem) (s : State) := runInstr (do
  requireCpl0
  upd fun s =>
    let la := (s.segs.get (s.dataSeg (defaultSeg m))).base + effAddr s.regs m
    { s with tlb := s.tlb.invalidate fun e => e.lin == la.extractLsb' 12 20 }) s

/-! The TLB test operations (R225 to R227). -/

/-- The entry TR6 and TR7 describe (R226, R227). PG is TR6 bit 9, which the list of fields for a write leaves out (R225); W, the
"Write Protect bit", is 1 in a writable page, as in R216 (DESIGN CHOICE, log 52). -/
def TestRegs.tlbEntry (t : TestRegs) : TlbEntry :=
  { lin := t.tr6.extractLsb' 12 20, phys := t.tr7.extractLsb' 12 20, v := t.tr6.getLsbD 11, d := t.tr6.getLsbD 10,
    g := t.tr6.getLsbD 9, u := t.tr6.getLsbD 8, w := t.tr6.getLsbD 6, a := t.tr6.getLsbD 4, pcd := t.tr7.getLsbD 11,
    pwt := t.tr7.getLsbD 10 }
/-- The L1 entry number: linear address bits 15:12 (R225). -/
def TestRegs.l1Key (t : TestRegs) : Nat := (t.tr6.extractLsb' 12 4).toNat
/-- The L2 line: linear address bits 17:12. -/
def TestRegs.l2Line (t : TestRegs) : Nat := (t.tr6.extractLsb' 12 6).toNat
/-- The SET field of TR7. -/
def TestRegs.l2Set (t : TestRegs) : Nat := (t.tr7.extractLsb' 7 3).toNat
/-- The number of the L2 entry of a set. -/
def TestRegs.l2Key (t : TestRegs) (k : Nat) : Nat := 6 * t.l2Line + k
/-- The set that an L2 command accesses (R225): TR7.SET. The sets are 0 to 5 (R227); which of them SET 6 and 7 access the spec does
not state: a free choice (DESIGN CHOICE, log 61). -/
def accessedSet : Act Nat := do
  let k := (← get).test.l2Set
  if k ≤ 5 then return k else drawChoice 5
/-- The entry with number k: the commands alone write the arrays (C19), so one that none has written is invalid; its other
fields are undefined (log 39). -/
def tlbEntryAt (l : List (Nat × TlbEntry)) (k : Nat) : Act TlbEntry := do
  match l.find? fun e => e.1 == k with
  | some e => return e.2
  | none =>
    let x ← drawWord
    let y ← drawWord
    return { lin := x.extractLsb' 12 20, phys := y.extractLsb' 12 20, v := false, d := x.getLsbD 10, g := x.getLsbD 9,
             u := x.getLsbD 8, w := x.getLsbD 6, a := x.getLsbD 4, pcd := y.getLsbD 11, pwt := y.getLsbD 10 }
/-- TR6 loaded from an entry; CMD stays (R225). -/
def tr6Of (e : TlbEntry) (old : Word) : Word :=
  (e.lin ++ 0#12) ||| bitAt 11 e.v ||| bitAt 10 e.d ||| bitAt 9 e.g ||| bitAt 8 e.u ||| bitAt 6 e.w ||| bitAt 4 e.a |||
    (old &&& 0x7#32)
/-- TR7 loaded from an entry: address, PCD and PWT; the other bits stay. -/
def tr7Of (e : TlbEntry) (old : Word) : Word :=
  (e.phys ++ 0#12) ||| bitAt 11 e.pcd ||| bitAt 10 e.pwt ||| (old &&& 0x3FF#32)
/-- Read an L1 entry: H1 tells whether the specified linear address hits it (R225). The selected entry is loaded without a hit
too, as R225 says; R226 updates the fields on exactly one match only (DESIGN CHOICE, log 53). -/
def tlbReadL1 : Act Unit := do
  let s ← get
  let e ← tlbEntryAt s.tlb.l1 s.test.l1Key
  let hit := e.v && e.lin == s.test.tr6.extractLsb' 12 20
  upd fun s => { s with test := { s.test with
    tr6 := tr6Of e s.test.tr6
    tr7 := (tr7Of e s.test.tr7 &&& ~~~(bitAt 5 true)) ||| bitAt 5 hit } }
/-- The sets of an L2 line in which a valid listed entry holds the linear page (R225). -/
def l2Hits (t : Tlb) (line : Nat) (page : BitVec 20) : List Nat :=
  [0, 1, 2, 3, 4, 5].filter fun k => t.l2.any fun e => e.1 == 6 * line + k && e.2.v && e.2.lin == page
/-- H2 and HSET (R225, R227): HSET is the set that hit, one of them where several did, undefined without a hit. -/
def l2HitBits (hits : List Nat) : Act Word := do
  match hits with
  | [] => return (← drawWord) &&& 0x7#32
  | k :: ks =>
    let n ← drawChoice ks.length
    return bitAt 4 true ||| BitVec.ofNat 32 ((k :: ks).getD n k)
/-- Load TR6 and TR7 from an entry; H2 and HSET are set apart. -/
def TestRegs.loaded (t : TestRegs) (e : TlbEntry) : TestRegs := { t with tr6 := tr6Of e t.tr6, tr7 := tr7Of e t.tr7 }
/-- TR6 and TR7 looked up by match (R226): per the matching entry where one and only one set hit, else as they are. -/
def lookedUp (s : State) (hits : List Nat) : Act TestRegs :=
  match hits with
  | [k] => do return s.test.loaded (← tlbEntryAt s.tlb.l2 (s.test.l2Key k))
  | _ => pure s.test
/-- Read an L2 entry. R225 loads the entry of the line and TR7.SET; R226 updates the fields where one and only one entry
matches the address, and per that one. Where the two differ a free value says which holds (log 53). -/
def tlbReadL2 : Act Unit := do
  let k ← accessedSet
  let s ← get
  let hits := l2Hits s.tlb s.test.l2Line (s.test.tr6.extractLsb' 12 20)
  let h ← l2HitBits hits
  let selected ← tlbEntryAt s.tlb.l2 (s.test.l2Key k)
  let found ← lookedUp s hits
  let t := if ← drawBit then found else s.test.loaded selected
  upd fun s => { s with test := { t with tr7 := (t.tr7 &&& ~~~0x17#32) ||| h } }
/-- The operation TR6.CMD starts (R225); CMD 100 and 101 are refused (U14). -/
def tlbTest : Act Unit := do
  let s ← get
  match (s.test.tr6.extractLsb' 0 3).toNat with
  | 0 => upd fun s => { s with tlb := { s.tlb with l1 := putKey s.tlb.l1 s.test.l1Key s.test.tlbEntry } }
  | 1 => do
    let k ← accessedSet
    upd fun s => { s with tlb := { s.tlb with l2 := putKey s.tlb.l2 (s.test.l2Key k) s.test.tlbEntry } }
  | 2 => tlbReadL1
  | 6 => tlbReadL1
  | 3 => tlbReadL2
  | 7 => tlbReadL2
  | _ => refuse .undefinedTlbCommand

/-! The cache test operations (R176 to R181) and cache maintenance (R182, R432, R433). -/

/-- The line number TR4 selects (R179). -/
def TestRegs.line (t : TestRegs) : Nat := (t.tr4.extractLsb' 5 9).toNat
/-- The SET field of TR5 (R180). -/
def TestRegs.set (t : TestRegs) : Nat := (t.tr5.extractLsb' 4 2).toNat
/-- The number of the line that TR4 and TR5 select. -/
def TestRegs.lineKey (t : TestRegs) : Nat := 512 * t.set + t.line
/-- The entry TR4 selects (R179). -/
def TestRegs.entry (t : TestRegs) : Nat := (t.tr4.extractLsb' 2 3).toNat
/-- The MESI field of TR5 (R180). -/
def TestRegs.mesi (t : TestRegs) : BitVec 4 := t.tr5.extractLsb' 16 4
/-- One of the six MESI codes (R180). -/
def mesiKnown (m : BitVec 4) : Bool := mesiValid m || m == 0x3#4 || m == 0x7#4
/-- A line that holds locked memory; locking is by line (R176). -/
def CacheLine.isLocked (l : CacheLine) : Bool := mesiLocked l.mesi0 || mesiLocked l.mesi1
/-- A sector of the line satisfies `p`. -/
def CacheLine.anySector (l : CacheLine) (p : BitVec 4 → Bool) : Bool := p l.mesi0 || p l.mesi1
/-- The line with both sectors' MESI codes changed. -/
def CacheLine.mapMesi (l : CacheLine) (f : BitVec 4 → BitVec 4) : CacheLine := { l with mesi0 := f l.mesi0, mesi1 := f l.mesi1 }
/-- n undefined doublewords. -/
def drawWords (n : Nat) : Act (List Word) :=
  match n with
  | 0 => pure []
  | m + 1 => do
    let w ← drawWord
    let ws ← drawWords m
    return w :: ws
/-- Line k as the test operations left it; one they have not written is invalid, its data undefined. -/
def lineOf (k : Nat) : Act CacheLine := do
  match (← get).cache.lines.find? fun e => e.1 == k with
  | some e => return e.2
  | none => return { tag := 0#18, smi := false, mesi0 := 0x3#4, mesi1 := 0x3#4, mru := 0#4, data := ← drawWords 8 }
/-- Another set of the line holds the same address, valid: a synonym (R176). U11 speaks of cache locking; a write with a valid code
that does not lock makes a second copy of the address as well, and counts too (DESIGN CHOICE, log 62). -/
def Cache.synonym (c : Cache) (k : Nat) (l : CacheLine) : Bool :=
  c.lines.any fun e =>
    e.1 != k && e.1 % 512 == k % 512 && e.2.tag == l.tag && e.2.smi == l.smi &&
      ((mesiValid e.2.mesi0 && mesiValid l.mesi0) || (mesiValid e.2.mesi1 && mesiValid l.mesi1))
/-- How many other sets of the line are locked. -/
def Cache.otherLocked (c : Cache) (k : Nat) : Nat :=
  (c.lines.filter fun e => e.1 != k && e.1 % 512 == k % 512 && e.2.isLocked).length
/-- The line after CTL = 01 (R181): TR3 in the entry, tag, SMI bit and MRU, and the MESI code of the sector that TR4 addresses
(R171); a code that locks, and one that unlocks, is for the whole line (R176; log 54). -/
def TestRegs.written (t : TestRegs) (l : CacheLine) : CacheLine :=
  let l1 : CacheLine := { l with
    tag := t.tr4.extractLsb' 14 18, smi := t.tr5.getLsbD 23, mru := t.tr5.extractLsb' 8 4, data := l.data.set t.entry t.tr3 }
  if mesiLocked t.mesi || l.isLocked then l1.mapMesi fun _ => t.mesi else l1.setMesi t.tr4 t.mesi
/-- CTL = 01 (R181). Locking all sets is read as locking one line index in all four sets of the cache (R656, R176, U11; DESIGN
CHOICE, log 66). -/
def cacheTestWrite : Act Unit := do
  let t := (← get).test
  if !mesiKnown t.mesi then refuse .undefinedMesi
  let l := t.written (← lineOf t.lineKey)
  let c := (← get).cache
  if c.synonym t.lineKey l then refuse .cacheSynonym
  if mesiLocked t.mesi ∧ 3 ≤ c.otherLocked t.lineKey then refuse .allSetsLocked
  upd fun s => { s with cache := { s.cache with lines := putKey s.cache.lines t.lineKey l } }
/-- The cache may hold lines that ordinary fills put in: fills may have happened, or with CR0.CD = 0 the fetch of the instruction in
progress may have made one (R160). -/
def State.cacheFilled (s : State) : Bool := s.cache.used || !s.cr0.getLsbD 30
/-- CTL = 10 (R181): the MESI code of the sector, MRU and the SMM identification bit (R575) go to TR5, the selected entry to
TR3. The TVB field has no position in the source: the undescribed bits of TR5 become undefined. A line that no test operation
has written is invalid if nothing can have been cached, else in one of the four states of R171, a free choice: only the test
operations lock lines (R176), and none is modified unless the cache may hold a modified line (R182: none after the TR5 flush). -/
def cacheTestRead : Act Unit := do
  let s ← get
  let t := s.test
  let x ← drawWord
  let (smi, mesi, mru, w) ← match s.cache.lines.find? fun e => e.1 == t.lineKey with
    | some e => pure (e.2.smi, e.2.mesi t.tr4, e.2.mru, e.2.data.getD t.entry 0#32)
    | none => unlistedLine s.cacheFilled s.cache.dirty
  upd fun s => { s with test := { s.test with
    tr5 := (x &&& 0xFF70F0CC#32) ||| (s.test.tr5 &&& 0x00000033#32) ||| bitAt 23 smi ||| (mesi.setWidth 32 <<< 16) |||
      (mru.setWidth 32 <<< 8)
    tr3 := w } }
where
  /-- SMI, MESI, MRU and data of a line not listed. -/
  unlistedLine (filled dirty : Bool) : Act (Bool × BitVec 4 × BitVec 4 × Word) := do
    let y ← drawWord
    let w ← drawWord
    return (y.getLsbD 23, if filled then fillState dirty (y.extractLsb' 16 2) else 0x3#4, y.extractLsb' 8 4, w)
  /-- The MESI code of a line that an ordinary fill may have put in: invalid, shared, exclusive or, if one may be, modified. -/
  fillState (dirty : Bool) : BitVec 2 → BitVec 4
    | 0#2 => 0x3#4
    | 1#2 => 0x9#4
    | 2#2 => 0xA#4
    | _ => if dirty then 0x8#4 else 0x9#4
/-- Write the modified sectors of a line back. -/
def State.writeBackLine (s : State) (k : Nat) (l : CacheLine) : State := (s.writeBackSector k 0 l).writeBackSector k 1 l
/-- Write every modified line back. -/
def State.writeBackAll (s : State) (ls : List (Nat × CacheLine)) : State :=
  match ls with
  | [] => s
  | e :: rest => State.writeBackAll (s.writeBackLine e.1 e.2) rest
/-- CTL = 00 (R181): modified lines are written back and become shared. -/
def State.cacheFlushKeep (s : State) : State :=
  let s' := s.writeBackAll s.cache.lines
  { s' with cache := { s'.cache with
    lines := s'.cache.lines.map fun e => (e.1, e.2.mapMesi fun m => if m == 0x8#4 then 0x9#4 else m)
    dirty := false } }
/-- Drop every line that is not locked (R432, R433, R182). The mark `used` stays clear until the step ends; whether the fetch of
an instruction that follows a FLUSH# in the same step has filled a line is left open (State.cacheFilled; DESIGN CHOICE, log 38). -/
def State.cacheInvalidate (s : State) : State :=
  { s with cache := { lines := s.cache.lines.filter fun e => e.2.isLocked, used := false, dirty := false } }
/-- Write back and invalidate: WBINVD (R433) and FLUSH# (R182). -/
def State.cacheFlush (s : State) : State := (s.writeBackAll s.cache.lines).cacheInvalidate
/-- The operation TR5.CTL starts (R181). -/
def cacheTest : Act Unit := do
  match ((← get).test.tr5.extractLsb' 0 2).toNat with
  | 0 => upd State.cacheFlushKeep
  | 1 => cacheTestWrite
  | 2 => cacheTestRead
  | _ => pure ()
/-- INVD (R432): refused where a modified line may be lost (D9). -/
def execInvd (s : State) := runInstr (do
  requireCpl0
  let c := (← get).cache
  if c.dirty || (c.lines.any fun e => e.2.anySector (· == 0x8#4)) then refuse .invdModified
  upd State.cacheInvalidate) s
/-- WBINVD (R433). -/
def execWbinvd (s : State) := runInstr (do
  requireCpl0
  upd State.cacheFlush) s

/-! Moves to and from control, debug and test registers (R428 to R430). -/

/-- The bits of CR0 that are not reserved (R36). -/
def cr0Mask : Word := 0xE005003F#32
/-- The bits of CR4 that are not reserved (R41). -/
def cr4Mask : Word := 0x18C#32
/-- The value CR0 takes: NW keeps while CCR2.LOCK_NW = 1 (R37, R112). -/
def State.cr0Written (s : State) (v : Word) : Word :=
  if s.cfg.ccr2.getLsbD 2 then (v &&& ~~~(bitAt 29 true)) ||| (s.cr0 &&& bitAt 29 true) else v
/-- The state after CR0 takes a value: a change of PG or PE flushes the TLBs, a change of PG must be followed by a
branch (R428, R651). -/
def State.setCr0 (s : State) (v : Word) : State :=
  let pgChanged := v.getLsbD 31 != s.cr0.getLsbD 31
  { s with
    cr0 := v
    tlb := if pgChanged || v.getLsbD 0 != s.cr0.getLsbD 0 then s.tlb.flushAll else s.tlb
    branchDue := pgChanged }
/-- Write CR0 (R428). -/
def writeCr0 (v : Word) : Act Unit := do
  if v &&& ~~~cr0Mask != 0#32 || !v.getLsbD 4 then refuse .reservedControlBits
  if v.getLsbD 31 && !v.getLsbD 0 then raise (.gp 0#16)
  upd fun s => s.setCr0 (s.cr0Written v)
/-- Write CR4 (R428). -/
def writeCr4 (v : Word) : Act Unit := do
  if v &&& ~~~cr4Mask != 0#32 then refuse .reservedControlBits
  upd fun s => { s with cr4 := v, tlb := if v.getLsbD 7 != s.cr4.getLsbD 7 then s.tlb.flushAll else s.tlb }
/-- Write control register n (R428). -/
def writeCr (n : Nat) (v : Word) : Act Unit :=
  match n with
  | 0 => writeCr0 v
  | 2 => upd fun s => { s with cr2 := v }
  | 3 => upd fun s => { s with cr3 := v, tlb := s.tlb.flushCr3 s.pge }
  | 4 => writeCr4 v
  | _ => raise .ud
/-- Read control register n (R428). -/
def readCr (n : Nat) : Act Word := do
  let s ← get
  match n with
  | 0 => return s.cr0
  | 2 => return s.cr2
  | 3 => return s.cr3
  | 4 => return s.cr4
  | _ => raise .ud
/-- MOV r32, CRn (R428): the arithmetic flags are undefined afterwards. -/
def execMovRCr (r : Reg) (n : Bits3) (s : State) := runInstr (do
  requireCpl0
  setReg r (← readCr n.toNat)
  freeFlagsA) s
/-- MOV CRn, r32 (R428). -/
def execMovCrR (n : Bits3) (r : Reg) (s : State) := runInstr (do
  requireCpl0
  writeCr n.toNat (← getReg r)
  freeFlagsA) s
/-- The checks of a move to or from DRn (R429, R595): the debug exception of DR7.GD is a fault. -/
def debugMoveCheck (n : Bits3) : Act Unit := do
  requireCpl0
  if n == 4#3 || n == 5#3 then refuse .debugRegister45
  if (← get).dr.dr7.getLsbD 13 then raise ⟨1#8, none⟩
/-- Read debug register n. -/
def DebugRegs.read (d : DebugRegs) (n : Bits3) : Word :=
  match n.toNat with
  | 0 => d.dr0 | 1 => d.dr1 | 2 => d.dr2 | 3 => d.dr3 | 6 => d.dr6 | _ => d.dr7
/-- Write debug register n. The unnamed bits of DR6 and DR7 are stored and read back (U8; log 55). -/
def DebugRegs.write (d : DebugRegs) (n : Bits3) (v : Word) : DebugRegs :=
  match n.toNat with
  | 0 => { d with dr0 := v } | 1 => { d with dr1 := v } | 2 => { d with dr2 := v } | 3 => { d with dr3 := v }
  | 6 => { d with dr6 := v }
  | _ => { d with dr7 := v }
/-- MOV r32, DRn (R429). -/
def execMovRDr (r : Reg) (n : Bits3) (s : State) := runInstr (do
  debugMoveCheck n
  setReg r ((← get).dr.read n)
  freeFlagsA) s
/-- MOV DRn, r32 (R429). -/
def execMovDrR (n : Bits3) (r : Reg) (s : State) := runInstr (do
  debugMoveCheck n
  let v ← getReg r
  upd fun s => { s with dr := s.dr.write n v }
  freeFlagsA) s
/-- Read test register n. -/
def TestRegs.read (t : TestRegs) (n : Nat) : Word :=
  match n with
  | 3 => t.tr3 | 4 => t.tr4 | 5 => t.tr5 | 6 => t.tr6 | _ => t.tr7
/-- Write a test register; TR5 and TR6 start their operations (R430). Bits 7, 5 and 3 of TR6 are 0 (R226). -/
def writeTr (n : Nat) (v : Word) : Act Unit :=
  match n with
  | 3 => upd fun s => { s with test := { s.test with tr3 := v } }
  | 4 => upd fun s => { s with test := { s.test with tr4 := v } }
  | 5 => do
    upd fun s => { s with test := { s.test with tr5 := v } }
    cacheTest
  | 6 => do
    upd fun s => { s with test := { s.test with tr6 := v &&& 0xFFFFFF57#32 } }
    tlbTest
  | _ => upd fun s => { s with test := { s.test with tr7 := v } }
/-- MOV r32, TRn (R430). -/
def execMovRTr (r : Reg) (n : Bits3) (s : State) := runInstr (do
  requireCpl0
  if n.toNat < 3 then raise .ud
  setReg r ((← get).test.read n.toNat)
  freeFlagsA) s
/-- MOV TRn, r32 (R430). -/
def execMovTrR (n : Bits3) (r : Reg) (s : State) := runInstr (do
  requireCpl0
  if n.toNat < 3 then raise .ud
  writeTr n.toNat (← getReg r)
  freeFlagsA) s

/-! Counters and model specific registers (R435 to R439). -/

/-- Write EDX:EAX. -/
def setEdxEax (hi lo : Word) : Act Unit := do
  setReg .edx hi
  setReg .eax lo
/-- RDTSC (R435). -/
def execRdtsc (s : State) := runInstr (do
  let s ← get
  if s.cr4.getLsbD 2 && s.unprivileged then raise (.gp 0#16)
  setEdxEax (s.tsc.extractLsb' 32 32) (s.tsc.extractLsb' 0 32)) s
/-- RDPMC (R439). -/
def execRdpmc (s : State) := runInstr (do
  let s ← get
  if !s.cr4.getLsbD 8 && s.unprivileged then raise (.gp 0#16)
  if s.regs.ecx == 0#32 then setEdxEax ((s.pmc0.extractLsb' 32 16).setWidth 32) (s.pmc0.extractLsb' 0 32)
  else if s.regs.ecx == 1#32 then setEdxEax ((s.pmc1.extractLsb' 32 16).setWidth 32) (s.pmc1.extractLsb' 0 32)
  else raise (.gp 0#16)) s
/-- A model specific register with its upper half (R436, R438); what it does not have is undefined. -/
def readMsr (i : Nat) : Act (Word × Word) := do
  let s ← get
  match i with
  | 0x3 => return (← drawWord, s.test.tr3)
  | 0x4 => return (← drawWord, s.test.tr4)
  | 0x5 => return (← drawWord, s.test.tr5)
  | 0x10 => return (s.tsc.extractLsb' 32 32, s.tsc.extractLsb' 0 32)
  | 0x11 => return (s.cesr.extractLsb' 32 32, s.cesr.extractLsb' 0 32)
  | 0x12 => return ((← drawWord16) ++ s.pmc0.extractLsb' 32 16, s.pmc0.extractLsb' 0 32)
  | 0x13 => return ((← drawWord16) ++ s.pmc1.extractLsb' 32 16, s.pmc1.extractLsb' 0 32)
  | _ => raise (.gp 0#16)
/-- Write a model specific register (R437). -/
def writeMsr (i : Nat) (hi lo : Word) : Act Unit :=
  match i with
  | 0x3 => writeTr 3 lo
  | 0x4 => writeTr 4 lo
  | 0x5 => writeTr 5 lo
  | 0x10 => upd fun s => { s with tsc := hi ++ lo }
  | 0x11 => upd fun s => { s with cesr := hi ++ lo }
  | 0x12 => upd fun s => { s with pmc0 := hi.extractLsb' 0 16 ++ lo }
  | 0x13 => upd fun s => { s with pmc1 := hi.extractLsb' 0 16 ++ lo }
  | _ => raise (.gp 0#16)
/-- RDMSR (R436). -/
def execRdmsr (s : State) := runInstr (do
  requireCpl0
  let v ← readMsr (← getReg .ecx).toNat
  setEdxEax v.1 v.2) s
/-- WRMSR (R437). -/
def execWrmsr (s : State) := runInstr (do
  requireCpl0
  let g := (← get).regs
  writeMsr g.ecx.toNat g.edx g.eax) s

/-! HLT, CLI, STI, CPUID (R440 to R443). -/

/-- HLT (R440). -/
def execHlt (s : State) := runInstr (do
  requireCpl0
  upd fun s => { s with halted := true, suspended := s.cfg.ccr2.getLsbD 3 }) s
/-- The privilege to change IF (R441, R530, R531). -/
def ifSensitive : Act Unit := do
  let s ← get
  if s.pe && !s.flags.vm && decide (s.flags.iopl < s.cpl) then raise (.gp 0#16)
  v86Sensitive
/-- CLI (R441). -/
def execCli (s : State) := runInstr (do
  ifSensitive
  upd fun s => { s with flags := { s.flags with ifl := false } }) s
/-- STI (R442): if IF was 0, INTR waits for the next instruction. -/
def execSti (s : State) := runInstr (do
  ifSensitive
  upd fun s => { s with
    shadow := if s.flags.ifl then s.shadow else .sti
    flags := { s.flags with ifl := true } }) s
/-- CPUID (R443). -/
def execCpuid (s : State) := runInstr (do
  let s ← get
  if !s.cfg.ccr4.getLsbD 7 then raise .ud
  let v := Config.cpuid s.regs.eax
  setReg .eax v.1
  setReg .ebx v.2.1
  setReg .ecx v.2.2.1
  setReg .edx v.2.2.2) s

end Sys2Proof.Machine
end

