-- ==== Sys2Proof/Machine/Smm.lean ====
section
/-! DEFINITION. System Management Mode: entry, header and exit (61_smm.md R549 to R577), and the ten SMM instructions
(46_smm_instructions.md R460 to R471). -/
namespace Sys2Proof.Machine
open Sys2Proof

/-! Conditions (R460, R553). -/

/-- CCR1.USE_SMI -/
def State.useSmi (s : State) : Bool := s.cfg.ccr1.getLsbD 1
/-- CCR1.SMAC -/
def State.smac (s : State) : Bool := s.cfg.ccr1.getLsbD 2
/-- CCR1.SM3 -/
def State.sm3 (s : State) : Bool := s.cfg.ccr1.getLsbD 7
/-- CCR6.N: nesting enabled. -/
def State.nestEnabled (s : State) : Bool := s.cfg.ccr6.getLsbD 6
/-- ARR3 SIZE > 0 -/
def State.arr3Sized (s : State) : Bool := arrSizeField s.cfg.arr3 != 0
/-- SmmInsnAllowed (R460). -/
def State.smmInsnAllowed (s : State) : Bool :=
  s.arr3Sized && s.cpl == 0#2 && (s.smac || s.inSmm) && s.useSmi && s.sm3
/-- SmintAllowed (R460). -/
def State.smintAllowed (s : State) : Bool :=
  s.useSmi && s.smac && s.arr3Sized && s.sm3 && (s.cpl == 0#2 || !s.part.smintCpl0)
/-- Every SMM instruction but SMINT begins with this check (R460). -/
def smmInsn : Act Unit := do
  if !(← get).smmInsnAllowed then raise .ud

/-! The 80-bit operand (R471). -/

/-- The ten bytes of descriptor image and selector as SVDC_LAYOUT orders them (R471, R8). -/
def layOut (layout : List Nat) (bs : List Byte) : List Byte := layout.map fun i => bs.getD i 0#8
/-- The ten bytes back in their own order: byte i is where the layout puts i. -/
def layIn (layout : List Nat) (bs : List Byte) : List Byte :=
  (List.range 10).map fun i => bs.getD (layout.findIdx (· == i)) 0#8
/-- Pack80 (R471): descriptor image and selector. -/
def Seg.pack80 (layout : List Nat) (g : Seg) : List Byte := layOut layout (bytesOf 8 g.toDesc.toNat ++ le16 g.sel)
/-- Unpack80 (R471): no check of any kind. -/
def Seg.unpack80 (layout : List Nat) (img : List Byte) : Seg :=
  let bs := layIn layout img
  let d := BitVec.ofNat 64 (leNat (bs.take 8))
  { sel := BitVec.ofNat 16 (leNat (bs.drop 8)), base := descBase d, limit := descLimit d, attr := descAttr d }
/-- Save a register's selector and hidden part (R461, R463, R465). -/
def savePack (m : Mem) (g : Seg) : Act Unit := do
  physWrite (← locateMem m 10 1 .write) (g.pack80 (← get).part.svdcLayout)
/-- Read a saved selector and hidden part (R462, R464, R466). -/
def loadPack (m : Mem) : Act Seg := do
  let bs ← physRead (← locateMem m 10 1 .read)
  return Seg.unpack80 (← get).part.svdcLayout bs

/-- SVDC (R461). -/
def execSvdc (m : Mem) (r : SegReg) (s : State) := runInstr (do
  smmInsn
  if r = .cs then refuse .svdcCs
  savePack m ((← get).segs.get r)) s
/-- RSDC (R462): CS is an invalid opcode. -/
def execRsdc (r : SegReg) (m : Mem) (s : State) := runInstr (do
  smmInsn
  if r = .cs then raise .ud
  setSeg r (← loadPack m)) s
/-- SVLDT (R463). -/
def execSvldt (m : Mem) (s : State) := runInstr (do
  smmInsn
  savePack m (← get).ldtr) s
/-- RSLDT (R464): LDTR is valid after it, whatever the image (log 44). -/
def execRsldt (m : Mem) (s : State) := runInstr (do
  smmInsn
  let g ← loadPack m
  upd fun s => { s with ldtr := g, ldtrInvalid := false }) s
/-- SVTS (R465). -/
def execSvts (m : Mem) (s : State) := runInstr (do
  smmInsn
  savePack m (← get).tr) s
/-- RSTS (R466). -/
def execRsts (m : Mem) (s : State) := runInstr (do
  smmInsn
  let g ← loadPack m
  upd fun s => { s with tr := g }) s

/-! The header (R556, R557). -/

/-- The address of the header's end: SMHR without its two low bits (R560). -/
def State.headerTop (s : State) : Word := s.smhr &&& 0xFFFFFFFC#32
/-- I/O Write Data Size (R557). -/
def ioSizeCode (n : Nat) : Word16 :=
  match n with
  | 1 => 0x01#16
  | 2 => 0x03#16
  | _ => 0x0F#16
/-- The I/O fields: I, P, the size and address row, the data row, the index row. -/
structure IoFields where
  write : Bool
  rep : Bool
  target : Word
  data : Word
  index : Word
deriving DecidableEq, Repr
/-- The I/O fields of the last instruction (R557 f): undefined where it was no I/O instruction, the write fields
undefined after a read, the index undefined but for INS and OUTS. -/
def ioFields (r : Option IoRecord) : Act IoFields := do
  let b1 ← drawBit
  let b2 ← drawBit
  let w1 ← drawWord
  let w2 ← drawWord
  let w3 ← drawWord
  match r with
  | none => return { write := b1, rep := b2, target := w1, data := w2, index := w3 }
  | some x =>
    match x.transfer with
    | none => return { write := x.write, rep := x.rep, target := w1, data := w2, index := w3 }
    | some t =>
      return { write := x.write, rep := x.rep, target := if x.write then ioSizeCode t.size ++ t.port else w1,
               data := if x.write then t.data else w2, index := t.index.getD w3 }
/-- The selector row: which half holds CS.sel is SMM_CS_SEL_HIGH (R556, D19); the other half is undefined. -/
def selRow (high : Bool) (sel free : Word16) : Word := if high then sel ++ free else free ++ sel
/-- The selector in that row. -/
def selOfRow (high : Bool) (w : Word) : Word16 := if high then w.extractLsb' 16 16 else w.extractLsb' 0 16
/-- The named bits of row h - 24h: CPL, N, IS, H, S, P, I, C (R556). -/
def statusRowMask : Word := 0x60A01F#32
/-- Row h - 24h (R556). -/
def statusRow (cpl : BitVec 2) (nested internal halted smint rep write writable : Bool) : Word :=
  (cpl.setWidth 32 <<< 21) ||| bitAt 15 nested ||| bitAt 13 internal ||| bitAt 4 halted ||| bitAt 3 smint |||
    bitAt 2 rep ||| bitAt 1 write ||| bitAt 0 writable
/-- The C bit (R557 d). -/
def State.csWritable (s : State) : Bool := s.realLike || s.segs.cs.attr.writable

/-- The rows of the header from h - 30h up (R556). -/
def headerRows (s : State) (smint nested halted : Bool) (curIp nextIp : Word) (io : Option IoRecord) : Act (List Word) := do
  let f ← ioFields io
  let internal ← if smint then drawBit else pure false
  let reserved ← drawWord
  let selFree ← drawWord16
  let d := s.segs.cs.toDesc
  let row := statusRow s.cpl nested internal halted smint f.rep f.write s.csWritable
  return [f.index, f.data, f.target, (reserved &&& ~~~statusRowMask) ||| row, d.extractLsb' 0 32, d.extractLsb' 32 32,
    selRow s.part.smmCsSelHigh s.segs.cs.sel selFree, nextIp, curIp, s.cr0, s.flags.toWord, s.dr.dr7]
/-- Store rows at rising physical addresses. -/
def writeRows (a : Word) (rows : List Word) : Act Unit :=
  match rows with
  | [] => pure ()
  | w :: rest => do
    physWriteN a 4 w.toNat
    writeRows (a + 4#32) rest
/-- The header pointer computed on entry when SMHR is not valid (R554, R560). -/
def State.entrySmhr (s : State) : Word :=
  if s.smhr.getLsbD 0 then s.smhr
  else (BitVec.ofNat 32 (s.smmBase + s.smmSize) &&& 0xFFFFFFFC#32) ||| 1#32
/-- CS when the service routine starts (R555, D28); G = 1 so that the descriptor image holds its limit (log 23). -/
def State.smmCs (s : State) : Seg :=
  { sel := BitVec.ofNat 16 (s.smmBase / 16), base := BitVec.ofNat 32 s.smmBase, limit := 0xFFFFFFFF#32,
    attr := { Attr.realMode with g := true } }
/-- The state in which the service routine starts (R554, R555). -/
def State.smmStart (s : State) : State :=
  { s with
    cr0 := 0x60000010#32, flags := Flags.reset, dr := { s.dr with dr7 := 0x400#32 }
    segs := { s.segs with cs := s.smmCs }, eip := 0#32, cpl := 0#2
    cfg := { s.cfg with ccr6 := s.cfg.ccr6 &&& ~~~0x40#8 }
    halted := false, shutdown := false, suspended := false, stale := [] }
/-- EnterSMM (R554). -/
def enterSmm (smint : Bool) (curIp nextIp : Word) (io : Option IoRecord) : Act Unit := do
  let s ← get
  upd fun s => { s with smhr := s.entrySmhr, inSmm := true }
  let rows ← headerRows s smint s.inSmm (s.halted || s.shutdown) curIp nextIp io
  writeRows ((← get).headerTop - 0x30#32) rows
  upd State.smmStart

/-- SMINT (R467): inside a service routine only where nesting is enabled (U27). -/
def execSmint (s : State) := runInstr (do
  let s ← get
  if !s.smintAllowed then raise .ud
  if s.inSmm && !(s.smmMode && s.nestEnabled) then refuse .nestedSmint
  enterSmm true s.cur.ip s.eip none) s

/-! Exit (R565). -/

/-- Read n rows from a physical address. -/
def readRows (a : Word) (n : Nat) : Act (List Word) :=
  match n with
  | 0 => pure []
  | m + 1 => do
    let w := BitVec.ofNat 32 (← physReadN a 4)
    let ws ← readRows (a + 4#32) m
    return w :: ws
/-- What RSM takes from the header (R565). -/
structure Header where
  status : Word
  cs : Seg
  eip : Word
  cr0 : Word
  eflags : Word
  dr7 : Word
deriving DecidableEq, Repr
/-- Row i. -/
def rowAt (ws : List Word) (i : Nat) : Word := ws.getD i 0#32
/-- The fields of the rows from h - 30h up (R556). -/
def Header.ofRows (high : Bool) (ws : List Word) : Header :=
  let d : BitVec 64 := rowAt ws 5 ++ rowAt ws 4
  { status := rowAt ws 3
    cs := { sel := selOfRow high (rowAt ws 6), base := descBase d, limit := descLimit d, attr := descAttr d }
    eip := rowAt ws 7, cr0 := rowAt ws 9, eflags := rowAt ws 10, dr7 := rowAt ws 11 }
/-- CPL -/
def Header.cpl (h : Header) : BitVec 2 := h.status.extractLsb' 21 2
/-- The CR0 image is one the rules reach: no reserved bit, bit 4 set, paging only in protected mode (R36, R37). -/
def Header.cr0Ok (h : Header) : Bool :=
  h.cr0 &&& ~~~cr0Mask == 0#32 && h.cr0.getLsbD 4 && (!h.cr0.getLsbD 31 || h.cr0.getLsbD 0)
/-- The EFLAGS image is one the rules reach: reserved bits at their values, VM only in protected mode (R26, R532). -/
def Header.flagsOk (h : Header) : Bool :=
  (Flags.ofWord h.eflags).toWord == h.eflags && (!h.eflags.getLsbD 17 || h.cr0.getLsbD 0)
/-- CS and CPL agree with the mode (R34, R152, R332, R525, R531): in real mode and at level 0, where CS may be left from real
mode (R652) or loaded by RSM, it is present, of level 0, and an accessed code segment or the writable data that real mode
gives it (R33, D28); above level 0 an accessed code segment of that level; in V86 mode what an entry to that mode loads. -/
def Header.csOk (h : Header) : Bool :=
  let a := h.cs.attr
  let realCode := a.dt && a.typ == 0x3#4 && !a.d && !a.avl
  let code := a.code && a.typ.getLsbD 0
  let ofLevel := if a.conforming then decide (a.dpl ≤ h.cpl) else a.dpl == h.cpl
  if h.eflags.getLsbD 17 then h.cpl == 3#2 && h.cs == Seg.v86Load h.cs.sel
  else if h.cpl == 0#2 then a.p && a.dpl == 0#2 && (code || realCode)
  else h.cr0.getLsbD 0 && a.p && code && !nullSel h.cs.sel && rpl h.cs.sel == h.cpl && ofLevel
/-- The header describes a state the rules can reach (D15). -/
def Header.ok (h : Header) : Bool := h.cr0Ok && h.flagsOk && h.csOk
/-- The state a header restores (R565). -/
def State.restored (s : State) (h : Header) : State :=
  { s with
    dr := { s.dr with dr7 := h.dr7 }, cr0 := h.cr0, flags := Flags.ofWord h.eflags
    segs := { s.segs with cs := h.cs }, cpl := h.cpl, eip := h.eip
    cfg := { s.cfg with ccr6 := s.cfg.ccr6 ||| 0x40#8 }, inSmm := h.status.getLsbD 15 }
/-- ExitSMM (R565). -/
def exitSmm : Act Unit := do
  let rows ← readRows ((← get).headerTop - 0x30#32) 12
  let h := Header.ofRows (← get).part.smmCsSelHigh rows
  if !h.ok then refuse .inconsistentHeader
  upd fun s => s.restored h
/-- RSM (R468): refused outside a service routine (U28). -/
def execRsm (s : State) := runInstr (do
  smmInsn
  if !(← get).inSmm then refuse .rsmOutsideSmm
  exitSmm) s

/-! SMHR (R469, R470). -/

/-- RDSHR (R469). -/
def execRdshr (d : RMv) (s : State) := runInstr (do
  smmInsn
  writePlace (← locateN 4 d .write) (← get).smhr) s
/-- WRSHR (R470). -/
def execWrshr (e : RMv) (s : State) := runInstr (do
  smmInsn
  let v ← readRM32 e
  upd fun s => { s with smhr := v }) s

end Sys2Proof.Machine
end

