-- ==== Sys2Proof/Machine/Dispatch.lean ====
section
/-! DEFINITION. Dispatch: one arm per constructor of Instr, each a direct call of that instruction's meaning. -/
namespace Sys2Proof.Machine
open Sys2Proof

def exec (i : Instr) (s : State) : Host.Outcome State Fault Refusal :=
  match i with
  | .segEs => Sys2Proof.Machine.execSegEs s
  | .segCs => Sys2Proof.Machine.execSegCs s
  | .segSs => Sys2Proof.Machine.execSegSs s
  | .segDs => Sys2Proof.Machine.execSegDs s
  | .segFs => Sys2Proof.Machine.execSegFs s
  | .segGs => Sys2Proof.Machine.execSegGs s
  | .opsize => Sys2Proof.Machine.execOpsize s
  | .adsize => Sys2Proof.Machine.execAdsize s
  | .lock => Sys2Proof.Machine.execLock s
  | .repne => Sys2Proof.Machine.execRepne s
  | .rep => Sys2Proof.Machine.execRep s
  | .addEbGb d sreg => Sys2Proof.Machine.execAddEbGb d sreg s
  | .addEvGv sz d sreg => Sys2Proof.Machine.execAddEvGv sz d sreg s
  | .addGbEb d sreg => Sys2Proof.Machine.execAddGbEb d sreg s
  | .addGvEv sz d sreg => Sys2Proof.Machine.execAddGvEv sz d sreg s
  | .addAlIb imm => Sys2Proof.Machine.execAddAlIb imm s
  | .addAxIv imm => Sys2Proof.Machine.execAddAxIv imm s
  | .orEbGb d sreg => Sys2Proof.Machine.execOrEbGb d sreg s
  | .orEvGv sz d sreg => Sys2Proof.Machine.execOrEvGv sz d sreg s
  | .orGbEb d sreg => Sys2Proof.Machine.execOrGbEb d sreg s
  | .orGvEv sz d sreg => Sys2Proof.Machine.execOrGvEv sz d sreg s
  | .orAlIb imm => Sys2Proof.Machine.execOrAlIb imm s
  | .orAxIv imm => Sys2Proof.Machine.execOrAxIv imm s
  | .adcEbGb d sreg => Sys2Proof.Machine.execAdcEbGb d sreg s
  | .adcEvGv sz d sreg => Sys2Proof.Machine.execAdcEvGv sz d sreg s
  | .adcGbEb d sreg => Sys2Proof.Machine.execAdcGbEb d sreg s
  | .adcGvEv sz d sreg => Sys2Proof.Machine.execAdcGvEv sz d sreg s
  | .adcAlIb imm => Sys2Proof.Machine.execAdcAlIb imm s
  | .adcAxIv imm => Sys2Proof.Machine.execAdcAxIv imm s
  | .sbbEbGb d sreg => Sys2Proof.Machine.execSbbEbGb d sreg s
  | .sbbEvGv sz d sreg => Sys2Proof.Machine.execSbbEvGv sz d sreg s
  | .sbbGbEb d sreg => Sys2Proof.Machine.execSbbGbEb d sreg s
  | .sbbGvEv sz d sreg => Sys2Proof.Machine.execSbbGvEv sz d sreg s
  | .sbbAlIb imm => Sys2Proof.Machine.execSbbAlIb imm s
  | .sbbAxIv imm => Sys2Proof.Machine.execSbbAxIv imm s
  | .andEbGb d sreg => Sys2Proof.Machine.execAndEbGb d sreg s
  | .andEvGv sz d sreg => Sys2Proof.Machine.execAndEvGv sz d sreg s
  | .andGbEb d sreg => Sys2Proof.Machine.execAndGbEb d sreg s
  | .andGvEv sz d sreg => Sys2Proof.Machine.execAndGvEv sz d sreg s
  | .andAlIb imm => Sys2Proof.Machine.execAndAlIb imm s
  | .andAxIv imm => Sys2Proof.Machine.execAndAxIv imm s
  | .subEbGb d sreg => Sys2Proof.Machine.execSubEbGb d sreg s
  | .subEvGv sz d sreg => Sys2Proof.Machine.execSubEvGv sz d sreg s
  | .subGbEb d sreg => Sys2Proof.Machine.execSubGbEb d sreg s
  | .subGvEv sz d sreg => Sys2Proof.Machine.execSubGvEv sz d sreg s
  | .subAlIb imm => Sys2Proof.Machine.execSubAlIb imm s
  | .subAxIv imm => Sys2Proof.Machine.execSubAxIv imm s
  | .xorEbGb d sreg => Sys2Proof.Machine.execXorEbGb d sreg s
  | .xorEvGv sz d sreg => Sys2Proof.Machine.execXorEvGv sz d sreg s
  | .xorGbEb d sreg => Sys2Proof.Machine.execXorGbEb d sreg s
  | .xorGvEv sz d sreg => Sys2Proof.Machine.execXorGvEv sz d sreg s
  | .xorAlIb imm => Sys2Proof.Machine.execXorAlIb imm s
  | .xorAxIv imm => Sys2Proof.Machine.execXorAxIv imm s
  | .addEbIb d imm => Sys2Proof.Machine.execAddEbIb d imm s
  | .addEvIv d imm => Sys2Proof.Machine.execAddEvIv d imm s
  | .addEvIbs sz d imm => Sys2Proof.Machine.execAddEvIbs sz d imm s
  | .orEbIb d imm => Sys2Proof.Machine.execOrEbIb d imm s
  | .orEvIv d imm => Sys2Proof.Machine.execOrEvIv d imm s
  | .orEvIbs sz d imm => Sys2Proof.Machine.execOrEvIbs sz d imm s
  | .adcEbIb d imm => Sys2Proof.Machine.execAdcEbIb d imm s
  | .adcEvIv d imm => Sys2Proof.Machine.execAdcEvIv d imm s
  | .adcEvIbs sz d imm => Sys2Proof.Machine.execAdcEvIbs sz d imm s
  | .sbbEbIb d imm => Sys2Proof.Machine.execSbbEbIb d imm s
  | .sbbEvIv d imm => Sys2Proof.Machine.execSbbEvIv d imm s
  | .sbbEvIbs sz d imm => Sys2Proof.Machine.execSbbEvIbs sz d imm s
  | .andEbIb d imm => Sys2Proof.Machine.execAndEbIb d imm s
  | .andEvIv d imm => Sys2Proof.Machine.execAndEvIv d imm s
  | .andEvIbs sz d imm => Sys2Proof.Machine.execAndEvIbs sz d imm s
  | .subEbIb d imm => Sys2Proof.Machine.execSubEbIb d imm s
  | .subEvIv d imm => Sys2Proof.Machine.execSubEvIv d imm s
  | .subEvIbs sz d imm => Sys2Proof.Machine.execSubEvIbs sz d imm s
  | .xorEbIb d imm => Sys2Proof.Machine.execXorEbIb d imm s
  | .xorEvIv d imm => Sys2Proof.Machine.execXorEvIv d imm s
  | .xorEvIbs sz d imm => Sys2Proof.Machine.execXorEvIbs sz d imm s
  | .pushEs sz => Sys2Proof.Machine.execPushEs sz s
  | .pushCs sz => Sys2Proof.Machine.execPushCs sz s
  | .pushSs sz => Sys2Proof.Machine.execPushSs sz s
  | .pushDs sz => Sys2Proof.Machine.execPushDs sz s
  | .popEs sz => Sys2Proof.Machine.execPopEs sz s
  | .popSs sz => Sys2Proof.Machine.execPopSs sz s
  | .popDs sz => Sys2Proof.Machine.execPopDs sz s
  | .incR sz r => Sys2Proof.Machine.execIncR sz r s
  | .decR sz r => Sys2Proof.Machine.execDecR sz r s
  | .pushR sz r => Sys2Proof.Machine.execPushR sz r s
  | .popR sz r => Sys2Proof.Machine.execPopR sz r s
  | .pusha sz => Sys2Proof.Machine.execPusha sz s
  | .popa sz => Sys2Proof.Machine.execPopa sz s
  | .bound sz r m => Sys2Proof.Machine.execBound sz r m s
  | .pushIv imm => Sys2Proof.Machine.execPushIv imm s
  | .pushIbs sz imm => Sys2Proof.Machine.execPushIbs sz imm s
  | .insb az => Sys2Proof.Machine.execInsb az s
  | .insv sz az => Sys2Proof.Machine.execInsv sz az s
  | .outsb az => Sys2Proof.Machine.execOutsb az s
  | .outsv sz az => Sys2Proof.Machine.execOutsv sz az s
  | .xchgEbGb d sreg => Sys2Proof.Machine.execXchgEbGb d sreg s
  | .xchgEvGv sz d sreg => Sys2Proof.Machine.execXchgEvGv sz d sreg s
  | .movEbGb d sreg => Sys2Proof.Machine.execMovEbGb d sreg s
  | .movEvGv sz d sreg => Sys2Proof.Machine.execMovEvGv sz d sreg s
  | .movGbEb d sreg => Sys2Proof.Machine.execMovGbEb d sreg s
  | .movGvEv sz d sreg => Sys2Proof.Machine.execMovGvEv sz d sreg s
  | .movEwSw sz d sreg => Sys2Proof.Machine.execMovEwSw sz d sreg s
  | .movSwEw d sreg => Sys2Proof.Machine.execMovSwEw d sreg s
  | .popEv sz d => Sys2Proof.Machine.execPopEv sz d s
  | .nop => Sys2Proof.Machine.execNop s
  | .xchgAx sz r => Sys2Proof.Machine.execXchgAx sz r s
  | .callPtr p => Sys2Proof.Machine.execCallPtr p s
  | .fsave sz m => Sys2Proof.Machine.execFsave sz m s
  | .fstenv sz m => Sys2Proof.Machine.execFstenv sz m s
  | .wait => Sys2Proof.Machine.execWait s
  | .pushf sz => Sys2Proof.Machine.execPushf sz s
  | .popf sz => Sys2Proof.Machine.execPopf sz s
  | .movAlOb o => Sys2Proof.Machine.execMovAlOb o s
  | .movAxOv sz o => Sys2Proof.Machine.execMovAxOv sz o s
  | .movObAl o => Sys2Proof.Machine.execMovObAl o s
  | .movOvAx sz o => Sys2Proof.Machine.execMovOvAx sz o s
  | .movsb az => Sys2Proof.Machine.execMovsb az s
  | .movsv sz az => Sys2Proof.Machine.execMovsv sz az s
  | .stosb az => Sys2Proof.Machine.execStosb az s
  | .stosv sz az => Sys2Proof.Machine.execStosv sz az s
  | .movRIb r imm => Sys2Proof.Machine.execMovRIb r imm s
  | .movRIv r imm => Sys2Proof.Machine.execMovRIv r imm s
  | .retIw sz n => Sys2Proof.Machine.execRetIw sz n s
  | .ret sz => Sys2Proof.Machine.execRet sz s
  | .movEbIb d imm => Sys2Proof.Machine.execMovEbIb d imm s
  | .movEvIv d imm => Sys2Proof.Machine.execMovEvIv d imm s
  | .retfIw sz n => Sys2Proof.Machine.execRetfIw sz n s
  | .retf sz => Sys2Proof.Machine.execRetf sz s
  | .int3 => Sys2Proof.Machine.execInt3 s
  | .intN n => Sys2Proof.Machine.execIntN n s
  | .into => Sys2Proof.Machine.execInto s
  | .iret sz => Sys2Proof.Machine.execIret sz s
  | .rolEbCl d => Sys2Proof.Machine.execRolEbCl d s
  | .rolEvCl sz d => Sys2Proof.Machine.execRolEvCl sz d s
  | .rorEbCl d => Sys2Proof.Machine.execRorEbCl d s
  | .rorEvCl sz d => Sys2Proof.Machine.execRorEvCl sz d s
  | .rclEbCl d => Sys2Proof.Machine.execRclEbCl d s
  | .rclEvCl sz d => Sys2Proof.Machine.execRclEvCl sz d s
  | .rcrEbCl d => Sys2Proof.Machine.execRcrEbCl d s
  | .rcrEvCl sz d => Sys2Proof.Machine.execRcrEvCl sz d s
  | .shlEbCl d => Sys2Proof.Machine.execShlEbCl d s
  | .shlEvCl sz d => Sys2Proof.Machine.execShlEvCl sz d s
  | .shrEbCl d => Sys2Proof.Machine.execShrEbCl d s
  | .shrEvCl sz d => Sys2Proof.Machine.execShrEvCl sz d s
  | .sarEbCl d => Sys2Proof.Machine.execSarEbCl d s
  | .sarEvCl sz d => Sys2Proof.Machine.execSarEvCl sz d s
  | .xlat az => Sys2Proof.Machine.execXlat az s
  | .fnsave sz m => Sys2Proof.Machine.execFnsave sz m s
  | .frstor sz m => Sys2Proof.Machine.execFrstor sz m s
  | .fnstenv sz m => Sys2Proof.Machine.execFnstenv sz m s
  | .esc op ext rm => Sys2Proof.Machine.execEsc op ext rm s
  | .loopne sz az rel => Sys2Proof.Machine.execLoopne sz az rel s
  | .loope sz az rel => Sys2Proof.Machine.execLoope sz az rel s
  | .loop sz az rel => Sys2Proof.Machine.execLoop sz az rel s
  | .inAlIb p => Sys2Proof.Machine.execInAlIb p s
  | .inAxIb sz p => Sys2Proof.Machine.execInAxIb sz p s
  | .outIbAl p => Sys2Proof.Machine.execOutIbAl p s
  | .outIbAx sz p => Sys2Proof.Machine.execOutIbAx sz p s
  | .callRel rel => Sys2Proof.Machine.execCallRel rel s
  | .jmpRel rel => Sys2Proof.Machine.execJmpRel rel s
  | .jmpPtr p => Sys2Proof.Machine.execJmpPtr p s
  | .jmpRel8 sz rel => Sys2Proof.Machine.execJmpRel8 sz rel s
  | .inAlDx => Sys2Proof.Machine.execInAlDx s
  | .inAxDx sz => Sys2Proof.Machine.execInAxDx sz s
  | .outDxAl => Sys2Proof.Machine.execOutDxAl s
  | .outDxAx sz => Sys2Proof.Machine.execOutDxAx sz s
  | .hlt => Sys2Proof.Machine.execHlt s
  | .notEb d => Sys2Proof.Machine.execNotEb d s
  | .notEv sz d => Sys2Proof.Machine.execNotEv sz d s
  | .negEb d => Sys2Proof.Machine.execNegEb d s
  | .negEv sz d => Sys2Proof.Machine.execNegEv sz d s
  | .mulEb d => Sys2Proof.Machine.execMulEb d s
  | .mulEv sz d => Sys2Proof.Machine.execMulEv sz d s
  | .imulEb d => Sys2Proof.Machine.execImulEb d s
  | .imulEv sz d => Sys2Proof.Machine.execImulEv sz d s
  | .divEb d => Sys2Proof.Machine.execDivEb d s
  | .divEv sz d => Sys2Proof.Machine.execDivEv sz d s
  | .idivEb d => Sys2Proof.Machine.execIdivEb d s
  | .idivEv sz d => Sys2Proof.Machine.execIdivEv sz d s
  | .cli => Sys2Proof.Machine.execCli s
  | .sti => Sys2Proof.Machine.execSti s
  | .incEb d => Sys2Proof.Machine.execIncEb d s
  | .decEb d => Sys2Proof.Machine.execDecEb d s
  | .incEv sz d => Sys2Proof.Machine.execIncEv sz d s
  | .decEv sz d => Sys2Proof.Machine.execDecEv sz d s
  | .callEv sz d => Sys2Proof.Machine.execCallEv sz d s
  | .callMp sz m => Sys2Proof.Machine.execCallMp sz m s
  | .jmpEv sz d => Sys2Proof.Machine.execJmpEv sz d s
  | .jmpMp sz m => Sys2Proof.Machine.execJmpMp sz m s
  | .pushEv sz d => Sys2Proof.Machine.execPushEv sz d s
  | .sldt sz d => Sys2Proof.Machine.execSldt sz d s
  | .str sz d => Sys2Proof.Machine.execStr sz d s
  | .lldt sreg => Sys2Proof.Machine.execLldt sreg s
  | .ltr sreg => Sys2Proof.Machine.execLtr sreg s
  | .sgdt sz m => Sys2Proof.Machine.execSgdt sz m s
  | .sidt sz m => Sys2Proof.Machine.execSidt sz m s
  | .lgdt sz m => Sys2Proof.Machine.execLgdt sz m s
  | .lidt sz m => Sys2Proof.Machine.execLidt sz m s
  | .invlpg m => Sys2Proof.Machine.execInvlpg m s
  | .invd => Sys2Proof.Machine.execInvd s
  | .wbinvd => Sys2Proof.Machine.execWbinvd s
  | .movRCr r n => Sys2Proof.Machine.execMovRCr r n s
  | .movRDr r n => Sys2Proof.Machine.execMovRDr r n s
  | .movCrR n r => Sys2Proof.Machine.execMovCrR n r s
  | .movDrR n r => Sys2Proof.Machine.execMovDrR n r s
  | .movRTr r n => Sys2Proof.Machine.execMovRTr r n s
  | .movTrR n r => Sys2Proof.Machine.execMovTrR n r s
  | .wrmsr => Sys2Proof.Machine.execWrmsr s
  | .rdtsc => Sys2Proof.Machine.execRdtsc s
  | .rdmsr => Sys2Proof.Machine.execRdmsr s
  | .rdpmc => Sys2Proof.Machine.execRdpmc s
  | .rdshr d => Sys2Proof.Machine.execRdshr d s
  | .wrshr sreg => Sys2Proof.Machine.execWrshr sreg s
  | .smint => Sys2Proof.Machine.execSmint s
  | .movdPE d sreg => Sys2Proof.Machine.execMovdPE d sreg s
  | .movqPQ d sreg => Sys2Proof.Machine.execMovqPQ d sreg s
  | .emms => Sys2Proof.Machine.execEmms s
  | .svdc m sreg => Sys2Proof.Machine.execSvdc m sreg s
  | .rsdc d m => Sys2Proof.Machine.execRsdc d m s
  | .svldt m => Sys2Proof.Machine.execSvldt m s
  | .rsldt m => Sys2Proof.Machine.execRsldt m s
  | .svts m => Sys2Proof.Machine.execSvts m s
  | .rsts m => Sys2Proof.Machine.execRsts m s
  | .movdEP d sreg => Sys2Proof.Machine.execMovdEP d sreg s
  | .movqQP d sreg => Sys2Proof.Machine.execMovqQP d sreg s
  | .pushFs sz => Sys2Proof.Machine.execPushFs sz s
  | .popFs sz => Sys2Proof.Machine.execPopFs sz s
  | .cpuid => Sys2Proof.Machine.execCpuid s
  | .pushGs sz => Sys2Proof.Machine.execPushGs sz s
  | .popGs sz => Sys2Proof.Machine.execPopGs sz s
  | .rsm => Sys2Proof.Machine.execRsm s
  | .btsEvGv sz d sreg => Sys2Proof.Machine.execBtsEvGv sz d sreg s
  | .cmpxchgEbGb d sreg => Sys2Proof.Machine.execCmpxchgEbGb d sreg s
  | .cmpxchgEvGv sz d sreg => Sys2Proof.Machine.execCmpxchgEvGv sz d sreg s
  | .btrEvGv sz d sreg => Sys2Proof.Machine.execBtrEvGv sz d sreg s
  | .btsEvIb sz d imm => Sys2Proof.Machine.execBtsEvIb sz d imm s
  | .btrEvIb sz d imm => Sys2Proof.Machine.execBtrEvIb sz d imm s
  | .btcEvIb sz d imm => Sys2Proof.Machine.execBtcEvIb sz d imm s
  | .btcEvGv sz d sreg => Sys2Proof.Machine.execBtcEvGv sz d sreg s
  | .xaddEbGb d sreg => Sys2Proof.Machine.execXaddEbGb d sreg s
  | .xaddEvGv sz d sreg => Sys2Proof.Machine.execXaddEvGv sz d sreg s

end Sys2Proof.Machine
end

