-- ==== Sys2Proof/Machine/Fetch.lean ====
section
/-! DEFINITION. Reading and running one instruction (30_encoding.md R242, R243, R254, R261; 20_memory.md R166): fetch, decode,
prefixes, the checks that precede execution, and what follows it (62_debug_counters_power.md R593, R594). -/
namespace Sys2Proof.Machine
open Sys2Proof

/-! What prefixes an instruction may have (R242). -/

/-- A prefix, not an instruction (R241). -/
def isPrefix : Instr → Bool
  | .segEs | .segCs | .segSs | .segDs | .segFs | .segGs | .opsize | .adsize | .lock | .repne | .rep => true
  | _ => false
/-- LOCK may precede it: the instructions of R242 (a) with a memory destination. -/
def lockable : Instr → Bool
  | .addEbGb (.mem _) _ | .addEvGv _ (.mem _) _ | .addEbIb (.mem _) _ | .addEvIv (.mem _) _ => true
  | .addEvIbs _ (.mem _) _ | .orEbGb (.mem _) _ | .orEvGv _ (.mem _) _ | .orEbIb (.mem _) _ => true
  | .orEvIv (.mem _) _ | .orEvIbs _ (.mem _) _ | .adcEbGb (.mem _) _ | .adcEvGv _ (.mem _) _ => true
  | .adcEbIb (.mem _) _ | .adcEvIv (.mem _) _ | .adcEvIbs _ (.mem _) _ | .sbbEbGb (.mem _) _ => true
  | .sbbEvGv _ (.mem _) _ | .sbbEbIb (.mem _) _ | .sbbEvIv (.mem _) _ | .sbbEvIbs _ (.mem _) _ => true
  | .andEbGb (.mem _) _ | .andEvGv _ (.mem _) _ | .andEbIb (.mem _) _ | .andEvIv (.mem _) _ => true
  | .andEvIbs _ (.mem _) _ | .subEbGb (.mem _) _ | .subEvGv _ (.mem _) _ | .subEbIb (.mem _) _ => true
  | .subEvIv (.mem _) _ | .subEvIbs _ (.mem _) _ | .xorEbGb (.mem _) _ | .xorEvGv _ (.mem _) _ => true
  | .xorEbIb (.mem _) _ | .xorEvIv (.mem _) _ | .xorEvIbs _ (.mem _) _ | .incEb (.mem _) => true
  | .incEv _ (.mem _) | .decEb (.mem _) | .decEv _ (.mem _) | .notEb (.mem _) => true
  | .notEv _ (.mem _) | .negEb (.mem _) | .negEv _ (.mem _) | .xchgEbGb (.mem _) _ => true
  | .xchgEvGv _ (.mem _) _ | .xaddEbGb (.mem _) _ | .xaddEvGv _ (.mem _) _ | .cmpxchgEbGb (.mem _) _ => true
  | .cmpxchgEvGv _ (.mem _) _ | .btsEvGv _ (.mem _) _ | .btsEvIb _ (.mem _) _ | .btrEvGv _ (.mem _) _ => true
  | .btrEvIb _ (.mem _) _ | .btcEvGv _ (.mem _) _ | .btcEvIb _ (.mem _) _ => true
  | _ => false
/-- REP may precede it (R390). -/
def repeatable : Instr → Bool
  | .insb _ | .insv _ _ | .outsb _ | .outsv _ _ | .movsb _ | .movsv _ _ | .stosb _ | .stosv _ _ => true
  | _ => false
/-- An unconditional JMP or CALL, near or far (R651). -/
def jumpOrCall : Instr → Bool
  | .jmpRel8 _ _ | .jmpRel _ | .jmpEv _ _ | .jmpPtr _ | .jmpMp _ _ => true
  | .callRel _ | .callEv _ _ | .callPtr _ | .callMp _ _ => true
  | _ => false
/-- It never continues with the next instruction in sequence (R25). -/
def neverFallsThrough : Instr → Bool
  | .jmpRel8 _ _ | .jmpRel _ | .jmpEv _ _ | .jmpPtr _ | .jmpMp _ _ => true
  | .ret _ | .retIw _ _ | .retf _ | .retfIw _ _ | .iret _ | .rsm => true
  | _ => false
/-- It saves the offset of the next instruction, in sequence or not (R25, R335, R336, R341 to R343, R554). -/
def savesNext : Instr → Bool
  | .callRel _ | .callEv _ _ | .callPtr _ | .callMp _ _ | .intN _ | .int3 | .into | .smint => true
  | _ => false
/-- It loads RF itself: a 32-bit IRET and RSM (R594, R339). -/
def loadsRf : Instr → Bool
  | .iret .w32 | .rsm => true
  | _ => false

/-! Fetch (R152, R166, R261). -/

/-- The sizes for the decoder, with the prefixes read so far (R243). -/
def State.ctx (s : State) : Ctx :=
  { os := if s.codeD != s.cur.pfx.os66 then .w32 else .w16
    as := if s.codeD != s.cur.pfx.as67 then .a32 else .a16
    bare := s.cur.pfx.count == 0 }
/-- The physical address of a code byte (R206, R216). -/
def fetchPlace (off : Word) : Act Word := do
  let la ← segCheck .cs off 1 .exec
  let pas ← linAccess la 1 .exec ((← get).cpl == 3#2) 1
  return (pas.map PA.addr).headD 0#32
/-- The byte fetched at a physical address: the one in memory, or one that was stored over since the last unconditional
transfer (R166, D3). -/
def fetchPhys (pa : Word) : Act Byte := do
  let b ← physReadByte pa
  let s ← get
  match s.stale.filter fun c => c.smm == s.smmSelected pa && c.addr == pa.toNat with
  | [] => return b
  | c :: cs => do
    let k ← drawChoice (cs.length + 1)
    return (b :: c.byte :: cs.map StaleByte.byte).getD k b
/-- The n bytes that start at offset `start` go on past FFFF FFFFh (R25, D14). -/
def pastTop (start : Word) (n : Nat) : Bool := decide (0xFFFFFFFF < start.toNat + n)
/-- Fetch byte k of what starts at EIP; past FFFF FFFFh the spec refuses (R25). -/
def fetchByte (k : Nat) : Act Byte := do
  let s ← get
  if pastTop s.eip k then refuse .eipWrap
  let pa ← fetchPlace (s.offAfter s.eip k)
  busPoint true
  fetchPhys pa
/-- An instruction or prefix with its length in bytes. -/
structure Fetched where
  instr : Instr
  len : Nat
deriving DecidableEq, Repr
/-- Look beyond a WAIT for FSAVE or FSTENV; if it is neither, nothing was looked at (R264). -/
def lookBeyond (a : Act Fetched) : Act Fetched := fun s =>
  match a s with
  | .ok f s' => if f.instr = .wait then .ok { instr := .wait, len := 1 } s else .ok f s'
  | .error _ _ => .ok { instr := .wait, len := 1 } s
/-- The checks between decoding and execution, in the order of R261: the length, at most 15 bytes with prefixes (R254), LOCK
(R242 a); then REP (D26; after LOCK by the model's choice, log 56) and the branch after a change of paging (D30). The branch is
due of whatever instruction runs next, that of a handler too where an event comes between, and that one discharges it (R651;
DESIGN CHOICE, log 59). -/
def checkPrefixes (n : Nat) (lockOk repOk branch : Bool) : Act Unit := do
  let s ← get
  if 15 < s.cur.pfx.count + n then raise (.gp 0#16)
  if s.cur.pfx.lock && !lockOk then raise .ud
  if s.cur.pfx.repne || (s.cur.pfx.rep && !repOk) then refuse .repMisuse
  if s.branchDue && !branch then refuse .pgChangeWithoutBranch
/-- An instruction of n bytes whose rule rejects its operands: the checks that precede execution come first (R261); the SMM
instructions then check their conditions (R460) before a reserved field counts (U20). -/
def lateStop (w : LateStop) (n : Nat) : Act Fetched := do
  checkPrefixes n false false false
  match w with
  | .invalidOperand => raise .ud
  | .reservedRegField => if (← get).smmInsnAllowed then refuse .reservedRegField else raise .ud
/-- Fetch bytes until the decoder has an instruction, at most `room` more (R261). -/
def fetchDecode (c : Ctx) (got : List Byte) (room : Nat) : Act Fetched :=
  match room with
  | 0 =>
    match decode c got with
    | .ok i rest => pure { instr := i, len := got.length - rest.length }
    | .more => raise (.gp 0#16)
    | .soft => pure { instr := .wait, len := 1 }
    | .invalid => raise .ud
    | .refused => refuse .unnamedOpcode
    | .late w rest => lateStop w (got.length - rest.length)
  | k + 1 =>
    match decode c got with
    | .ok i rest => pure { instr := i, len := got.length - rest.length }
    | .more => do fetchDecode c (got ++ [← fetchByte got.length]) k
    | .soft => lookBeyond (do fetchDecode c (got ++ [← fetchByte got.length]) k)
    | .invalid => raise .ud
    | .refused => refuse .unnamedOpcode
    | .late w rest => lateStop w (got.length - rest.length)
/-- Fetch and decode at EIP: its length is checked after the lookup (R261), and none is longer than 16 bytes. -/
def fetchInstr : Act Fetched := do
  let s ← get
  fetchDecode s.ctx [] 16

/-! Running (R261, R593, R594). -/

/-- The checks between the decoding of instruction i of n bytes and its execution (R261). -/
def checkStart (i : Instr) (n : Nat) : Act Unit := checkPrefixes n (lockable i) (repeatable i) (jumpOrCall i)
/-- The state in which an instruction executes: EIP is already that of the next (R24, R25). -/
def State.advance (s : State) (n : Nat) : State := { s with eip := s.offAfter s.eip n }
/-- Merge a debug trap with one still held (R658). -/
def mergeTrap (held : Option DebugTrap) (hits : BitVec 4) (bs now : Bool) : Option DebugTrap :=
  match held with
  | none => if now then some { hits := hits, bs := bs } else none
  | some h => if now then some { hits := h.hits ||| hits, bs := h.bs || bs } else some h
/-- After an instruction that completed: RF is cleared (R594), a trap may be pending (R593, R591) with every condition met in
the instruction or its fetch (R590), the SMM header's fields know the instruction (R557), and a delay in force at the start of
a REP string instruction lasts while iterations remain (R442, R658). `tf` is TF at its start. -/
def State.completed (s : State) (i : Instr) (tf : Bool) : State :=
  { s with
    flags := { s.flags with rf := s.flags.rf && (loadsRf i || s.cur.repeating) }
    trap := mergeTrap s.trap (s.cur.hits ||| s.cur.fetchHits) tf (tf || s.hitEnabled s.cur.hits)
    shadow := if s.cur.repeating then s.cur.held else s.shadow
    lastIp := some s.cur.ip
    lastIo := s.cur.io }
/-- An instruction that ends at FFFF FFFFh and continues in sequence, or saves the offset after it, is outside the spec (R25,
D14). -/
def pastEnd (i : Instr) (start : Word) (n : Nat) (s : State) : Bool :=
  pastTop start n && ((s.eip == start + BitVec.ofNat 32 n && !neverFallsThrough i) || savesNext i)
/-- What follows execution; an instruction that ended in a handler has not completed. -/
def afterExec (i : Instr) (start : Word) (n : Nat) (tf : Bool) :
    Host.Outcome State Fault Refusal → Host.Outcome State Fault Refusal
  | .next s =>
    if s.cur.entered then .next s
    else if pastEnd i start n s then .refused .eipWrap
    else .next (s.completed i tf)
  | .fault x => .fault x
  | .refused r => .refused r
/-- Run a decoded instruction of n bytes that starts (its prefixes read) at EIP. -/
def runDecoded (i : Instr) (n : Nat) (s : State) : Host.Outcome State Fault Refusal :=
  match (checkStart i n).run s with
  | .ok _ _ => afterExec i s.eip n s.flags.tf (exec i (s.advance n))
  | .error (.refuse r) _ => .refused r
  | .error (.exc x) _ => deliverFault x s
/-- Fetch, decode and run: prefixes are read one after the other, then the instruction runs (R261). A prefix that ends at
FFFF FFFFh has the next byte past it, which is refused (R25, D14). Prefixes without end, where IP wraps in a segment full of
them, are an instruction that is too long (R254). -/
def runFetched (fuel : Nat) (s : State) : Host.Outcome State Fault Refusal :=
  match fetchInstr.run s with
  | .error (.refuse r) _ => .refused r
  | .error (.exc x) s' => deliverFault x (rollback s s')
  | .ok f s' =>
    if isPrefix f.instr then
      match fuel with
      | 0 => deliverFault (.gp 0#16) s
      | k + 1 =>
        if pastTop s'.eip f.len then .refused .eipWrap
        else match exec f.instr (s'.advance f.len) with
        | .next s2 => runFetched k s2
        | .fault x => .fault x
        | .refused r => .refused r
    else runDecoded f.instr f.len s'
/-- The state at the start of an instruction: nothing read, the execution breakpoint conditions noted, the interrupt delay over
unless iterations of this instruction will remain. So the delay is over too where this instruction ends in a fault (DESIGN
CHOICE, log 34). -/
def State.startInstr (s : State) : State :=
  { s with
    shadow := .none
    cur := { Current.start s.eip with fetchHits := s.execHits (s.segs.cs.base + s.eip), held := s.shadow } }
/-- More prefixes than any code segment holds. -/
def prefixFuel : Nat := 0x100000000
/-- Execute the instruction at CS:EIP. -/
def runInstruction (s : State) : Host.Outcome State Fault Refusal := runFetched prefixFuel s.startInstr

end Sys2Proof.Machine
end

