-- ==== Sys2Proof/Machine/Boundary.lean ====
section
/-! DEFINITION. The instruction boundary (60_exceptions.md R498): the pins, reset and warm reset (70_reset_and_hazards.md R640,
R641), debug exceptions, FLUSH#, SMI#, NMI and INTR in their order, halt, suspend and shutdown
(62_debug_counters_power.md R610 to R614), and the counters (R600 to R602). -/
namespace Sys2Proof.Machine
open Sys2Proof

/-! The counters (R600, R601). -/

/-- A counter counts: CPx2 at CPL below 3, CPx3 at CPL 3 (R601). -/
def counterOn (low high : Bool) (cpl : BitVec 2) : Bool := (low && cpl != 3#2) || (high && cpl == 3#2)
/-- A performance counter after a step of `d` clocks and `e` events (R601). -/
def counterNext (on clocks : Bool) (d e : Nat) (c : BitVec 48) : BitVec 48 :=
  if on then c + BitVec.ofNat 48 (if clocks then d else e) else c
/-- Twice the core clocks in a bus clock, by Device ID (R642, R661 d). -/
def Part.clockRatio (p : Part) : Nat :=
  if p.deviceId = 0x55#8 ∨ p.deviceId = 0x5A#8 then 5
  else if p.deviceId = 0x53#8 ∨ p.deviceId = 0x5B#8 then 6
  else if p.deviceId = 0x54#8 ∨ p.deviceId = 0x5C#8 then 7
  else 4
/-- The core clocks from the end of RESET to the first fetch (R640): RESET_DELAY_CLOCKS, 220 more bus clocks with self-test. -/
def Part.startClocks (p : Part) : Nat :=
  (p.resetDelay + (if p.selfTestRequested then 220 else 0)) * p.clockRatio / 2
/-- The end of the delay after RESET: its clocks are counted before the first instruction is fetched, so that the first TSC value
software reads has them (R640, D29). -/
def State.started (s : State) : State :=
  { s with
    tsc := s.tsc + BitVec.ofNat 64 (if s.starting then s.part.startClocks else 0)
    starting := false }
/-- The clocks of this step: at least one if an instruction executed (R600, D29). -/
def State.clocks (s : State) (executed : Bool) : Nat := Config.tscTick s.freeCtr + (if executed then 1 else 0)
/-- The end of a step: other agents do what they still do in it; the counters advance; in 16-bit code the upper half of EIP is
zero (R25); and with CR0.CD = 0 the cache may have filled lines (R160). An event counter draws its events in a halted step too
(R602), where R610 lets the TSC and the counters of clocks alone change (DESIGN CHOICE, log 19). -/
def State.tick (executed : Bool) (s : State) : State :=
  let s := s.busRest
  let d := s.clocks executed
  let tc0 : BitVec 7 := s.cesr.extractLsb' 10 1 ++ s.cesr.extractLsb' 0 6
  let tc1 : BitVec 7 := s.cesr.extractLsb' 26 1 ++ s.cesr.extractLsb' 16 6
  { s with
    tsc := s.tsc + BitVec.ofNat 64 d
    pmc0 := counterNext (counterOn (s.cesr.getLsbD 6) (s.cesr.getLsbD 7) s.cpl) (s.cesr.getLsbD 8) d
      (Config.pmcEvents s.freeCtr 0 tc0) s.pmc0
    pmc1 := counterNext (counterOn (s.cesr.getLsbD 22) (s.cesr.getLsbD 23) s.cpl) (s.cesr.getLsbD 24) d
      (Config.pmcEvents s.freeCtr 1 tc1) s.pmc1
    freeCtr := s.freeCtr + 1
    eip := s.offAfter s.eip 0
    cache := { s.cache with used := s.cacheFilled } }

/-! The pins (R13, R487, R553, R612). -/

/-- The pins as they are at this boundary. -/
def State.pins (s : State) : Pins := s.env.headD Pins.idle
/-- SUSP# is asserted and enabled: CCR2.USE_SUSP (R612). -/
def State.suspPin (s : State) (p : Pins) : Bool := p.susp && s.cfg.ccr2.getLsbD 7
/-- An SMI# edge is latched: SL-compatible mode, the pin not ignored (R553), and not in SUSP#-initiated suspend inside a
service routine (R577). -/
def State.latchSmi (s : State) (p : Pins) : Bool :=
  p.smi && !s.smiLevel && !s.smmMode && s.useSmi && !s.smac && !(s.inSmm && s.suspended && s.suspPin p)
/-- Sample the environment: what other agents do at the boundary and in the step, KEN#, an NMI edge and an SMI# edge. -/
def State.sampled (s : State) (p : Pins) : State :=
  { s.busDo (p.bus.headD []) with
    bus := p.bus.tail
    ken := p.ken
    env := s.env.tail
    nmiPending := s.nmiPending || (p.nmi && !s.nmiLevel)
    smiPending := s.smiPending || s.latchSmi p
    nmiLevel := p.nmi
    smiLevel := p.smi }

/-! Reset and warm reset. -/

/-- RESET (R640, R642): memory keeps its contents, the part its parameters; the pins and the free values go on. -/
def State.resetPin (s : State) : State :=
  { State.resetFor s.part with
    mem := s.mem, smm := s.smm, ioLog := s.ioLog, env := s.env, nmiLevel := s.nmiLevel, smiLevel := s.smiLevel
    ken := s.ken, freeCtr := s.freeCtr }
/-- A memory in which some of the bytes that differ in `new` have been stored. -/
def Memory.partly (done : Nat → Bool) (old new : Memory) : Memory :=
  (old ++ new).foldl (fun m c => if done c.1 then m.write c.1 (new.read c.1) else m) old
/-- The instruction in progress when RESET comes is abandoned with whatever partial effects on memory it had (R640): any part
of its stores, its I/O cycles or none; of an instruction that the model refuses or that ends in its fault, which leaves no state,
nothing stays (DESIGN CHOICE, log 57). While RESET is held nothing executes. What other agents do in the step they do
all the same. -/
def State.abandoned (s : State) : State :=
  let s := s.busRest
  if s.halted || s.shutdown || s.suspended || s.starting then s
  else
    match runInstruction s with
    | .next t =>
      { s with
        mem := Memory.partly (Config.storeDone t.freeCtr) s.mem t.mem
        smm := Memory.partly (Config.storeDone (t.freeCtr + 1)) s.smm t.smm
        ioLog := if Config.freeBit t.freeCtr then t.ioLog else s.ioLog
        freeCtr := t.freeCtr + 2 }
    | _ => s
/-- WM_RST (R641, D23). Fetch sees every store made before it, as after a transfer, and the index latch of port 22h keeps its
index and whether it is valid (DESIGN CHOICE, log 41). -/
def State.warmReset (s : State) : State :=
  { s with
    regs := Regs.reset s.part, eip := 0xFFF0#32, flags := Flags.reset, segs := Segs.reset, cpl := 0#2
    idtr := State.reset.idtr, cr0 := State.reset.cr0, cr4 := State.reset.cr4
    dr := { s.dr with dr7 := DebugRegs.reset.dr7 }
    halted := false, shutdown := false, suspended := false, nmiBlocked := false, inSmm := false
    shadow := .none, trap := none, lastIp := none, lastIo := none, branchDue := false, stale := []
    cur := Current.start 0xFFF0#32 }

/-! Events at the boundary (R498). -/

/-- Leave halt and suspend for a delivery (R483, R487). -/
def State.awake (s : State) : State := { s with halted := false, suspended := false }
/-- Interrupted inside a REP string instruction: EIP is still the string instruction's (R481, R390). -/
def State.midString (s : State) : Bool := s.cur.repeating && !s.cur.entered
/-- A debug trap is to be taken: not within the shadow of a load of SS (R658), not in shutdown (R614). -/
def State.trapDue (s : State) : Option DebugTrap := if s.shutdown || s.shadow = .ss then none else s.trap
/-- The conditions of an enabled instruction breakpoint at the next instruction, RF being 0 (R498 step 2, R591, R594); a
halted machine makes this check too (R610). -/
def State.breakDue (s : State) : Option (BitVec 4) :=
  let h := s.execHits (s.segs.cs.base + s.eip)
  if s.shutdown || s.midString || s.shadow = .ss || s.flags.rf || !s.hitEnabled h then none else some h
/-- The debug exception of steps 1 and 2, one for both (R498): conditions, single step, whether it is a fault. -/
def State.debugDue (s : State) : Option (BitVec 4 × Bool × Bool) :=
  match s.trapDue, s.breakDue with
  | none, none => none
  | some t, none => some (t.hits, t.bs, false)
  | none, some h => some (h, false, true)
  | some t, some h => some (t.hits ||| h, t.bs, true)

/-- SmiRecognised (R553); interrupts wait while SS is being loaded (R658). -/
def State.smiRecognised (s : State) (p : Pins) : Bool :=
  s.useSmi && !s.smac && s.arr3Sized && s.sm3 && (!s.inSmm || (s.smmMode && s.nestEnabled)) &&
    (s.smiPending || (p.smi && s.smmMode)) && s.shadow != .ss
/-- Current IP of the header: the instruction last completed, undefined if there is none (R557). -/
def currentIp : Act Word := do
  match (← get).lastIp with
  | some x => pure x
  | none => drawWord
/-- Enter SMM from the pin (R554). Where SMI# ends shutdown, the EIP and CS that the failed delivery left are saved: R614 calls
them undefined for the NMI only (DESIGN CHOICE, log 36). -/
def smiEntry : Act Unit := do
  let s ← get
  let c ← currentIp
  enterSmm false c s.eip s.lastIo
  upd fun s => { s with smiPending := false }

/-- An NMI may be taken (R487, R562). -/
def State.nmiReady (s : State) : Bool :=
  s.nmiPending && !s.nmiBlocked && !(s.inSmm && !s.cfg.ccr3.getLsbD 1) && s.shadow != .ss
/-- The IDT limit takes in vector 2 (R614). -/
def State.nmiVector (s : State) : Bool := decide ((if s.pe then 0x17 else 0x0B) ≤ s.idtr.limit.toNat)
/-- The stack on which an NMI frame would go in protected mode has room for it (R614, R502). -/
def protRoom : Act Bool := do
  let s ← get
  let g := BitVec.ofNat 64 (← linRead (s.idtr.base + 16#32) 8)
  let sz : OSize := if g.getLsbD 43 then .w32 else .w16
  let (_, d) ← readDesc (g.extractLsb' 16 16) .doubleFault
  let a := descAttr d
  if !a.conforming && decide (a.dpl < s.cpl) then
    let (nss, nsp) ← tssStack a.dpl 1#16
    let (_, sd) ← readDesc nss .doubleFault
    let ss := Seg.ofDesc nss sd
    return stackRoom ss sz (wrapSp ss nsp) (if s.flags.vm then 9 else 5)
  else return stackRoom s.segs.ss sz s.stackPtr 3
/-- The stack has room for the NMI frame; where what would say so cannot be read, delivery decides (R614). -/
def State.nmiRoom (s : State) : Bool :=
  if s.pe then
    match protRoom.run s with
    | .ok b _ => b
    | .error _ _ => true
  else stackRoom s.segs.ss .w16 s.stackPtr 3
/-- CS and EIP as saved from shutdown are undefined (R614). -/
def shutdownFrame : Act Word := do
  let c ← drawWord16
  let e ← drawWord
  upd fun s => { s with segs := { s.segs with cs := { s.segs.cs with sel := c } } }
  return e
/-- Take an NMI (R487). -/
def takeNmi (e : Word) (s : State) : Host.Outcome State Fault Refusal :=
  mapNext State.enteredHandler (deliverAll deliveryFuel .external 2#8 e none false
    ({ s with nmiPending := false, nmiBlocked := true } : State).awake)
/-- Take an NMI in shutdown (R614). -/
def takeNmiShutdown (s : State) : Host.Outcome State Fault Refusal :=
  match shutdownFrame.run s with
  | .ok e s' => takeNmi e s'
  | .error _ _ => .next s
/-- Take an INTR with vector v (R483). -/
def takeIntr (v : Byte) (s : State) : Host.Outcome State Fault Refusal :=
  mapNext State.enteredHandler (deliverAll deliveryFuel .external v s.eip none false s.awake)

/-- FLUSH# (R182, R498 step 3); execution goes on. -/
def State.flushPin (s : State) (p : Pins) : State := if p.flush then s.cacheFlush else s
/-- The vector of an INTR that is taken (R483). -/
def State.intrDue (s : State) (p : Pins) : Option Byte :=
  if s.flags.ifl && s.shadow = .none && !s.shutdown then p.intr else none
/-- SMI# at the boundary (R498 step 4). -/
def takeSmi (s : State) : Host.Outcome State Fault Refusal :=
  match smiEntry.run s with
  | .ok _ s' => .next s'.enteredHandler
  | .error (.refuse r) _ => .refused r
  | .error (.exc x) s' => deliverFault x (rollback s s')

/-- Steps 5 and 6 of R498, then the instruction (7 to 14). -/
def boundaryIntr (p : Pins) (s : State) : Host.Outcome State Fault Refusal :=
  if s.nmiReady && !s.shutdown then mapNext (State.tick false) (takeNmi s.eip s)
  else if s.nmiReady && s.nmiVector && s.nmiRoom then mapNext (State.tick false) (takeNmiShutdown s)
  else
    match s.intrDue p with
    | some v => mapNext (State.tick false) (takeIntr v s)
    | none =>
      if s.halted || s.shutdown then .next (s.tick false)
      else mapNext (State.tick true) (runInstruction s)
/-- Steps 1 to 4 of R498. -/
def boundaryEvents (p : Pins) (s : State) : Host.Outcome State Fault Refusal :=
  match s.debugDue with
  | some (h, bs, fault) =>
    mapNext (State.tick false) (debugException h bs fault s.eip ({ s with trap := none } : State).awake)
  | none =>
    let s := s.flushPin p
    if s.smiRecognised p then mapNext (State.tick false) (takeSmi s) else boundaryIntr p s
/-- WM_RST of step 0 of R498, and suspend (R612). -/
def boundaryReset (p : Pins) (s : State) : Host.Outcome State Fault Refusal :=
  if s.suspended && s.suspPin p then .next (s.tick false)
  else if p.wmRst then .next (s.warmReset.tick false)
  else if s.suspPin p && !s.midString then .next (({ s with suspended := true } : State).tick false)
  else boundaryEvents p { s with suspended := s.halted && s.suspended && s.cfg.ccr2.getLsbD 3 }
/-- RESET of step 0 of R498, and A20M# (D11). -/
def boundary (p : Pins) (s : State) : Host.Outcome State Fault Refusal :=
  if p.reset then .next s.abandoned.resetPin
  else if p.a20m then .refused .a20Masked
  else boundaryReset p s.started

/-- One step (R498). -/
def stepBoundary (s : State) : Host.Outcome State Fault Refusal := boundary s.pins (s.sampled s.pins)

/-! Placing an instruction where the next fetch reads. -/

/-- The state with a byte where a fetch k bytes after EIP reads it; ROM is written too. -/
def State.placeByte (s : State) (k : Nat) (v : Byte) : State :=
  match (fetchPlace (s.offAfter s.eip k)).run s with
  | .error _ _ => s
  | .ok pa _ =>
    let s' := { s with stale := s.stale.filter fun c => c.addr != pa.toNat }
    match s'.lineAt pa with
    | some e => { s' with cache := { s'.cache with lines := putKey s'.cache.lines e.1 (e.2.setByte pa v) } }
    | none =>
      if s'.smmSelected pa then { s' with smm := s'.smm.write pa.toNat v }
      else { s' with mem := s'.mem.write pa.toNat v }
/-- Bytes placed one after the other from EIP + k. -/
def State.placeBytes (s : State) (k : Nat) (bs : List Byte) : State :=
  match bs with
  | [] => s
  | b :: rest => (s.placeByte k b).placeBytes (k + 1) rest

end Sys2Proof.Machine
end

