-- ==== Sys2Proof/Machine/Step.lean ====
section
/-! DEFINITION. One step of the machine, and the placing of an instruction where the next step fetches (R498, R642). -/
namespace Sys2Proof.Machine
open Sys2Proof

/-- One step: the pins are sampled, the events of the instruction boundary taken, else one instruction is executed (R498). -/
def step (s : State) : Host.Outcome State Fault Refusal := stepBoundary s

/-- The state with the instruction whose bits are `w`, numbered as the opcode table numbers them, at CS:EIP, zero bytes
following up to the 15 bytes of the longest instruction (R254). -/
def State.withFetchWord (s : State) (nbits w : Nat) : State := s.placeBytes 0 (tableBytes nbits w)

end Sys2Proof.Machine
end

