-- ==== Sys2Proof/Safety.lean ====
section
/-! DEFINITION. Safety: the invariants a run keeps and what counts as a safe run, and the terms in which the statements speak
of operands and stores: what a place holds, whether it can be read or written, the state after a write. -/
namespace Sys2Proof.Machine
open Sys2Proof

/-! Invariants. -/

/-- Both memories are in their canonical form. -/
def State.memoryOk (s : State) : Bool := s.mem.wf && s.smm.wf
/-- The mode is one of R525: level 0 and no V86 flag in real mode, level 3 in V86 mode. -/
def State.modeOk (s : State) : Bool := (s.pe || (s.cpl == 0#2 && !s.flags.vm)) && (!s.flags.vm || s.cpl == 3#2)
/-- CR0, CR4 and TR6 hold values that the rules can reach (R36, R37, R41, R226): reserved bits at their values, paging only
in protected mode. -/
def State.controlOk (s : State) : Bool :=
  s.cr0 &&& ~~~cr0Mask == 0#32 && s.cr0.getLsbD 4 && (!s.pg || s.pe) && s.cr4 &&& ~~~cr4Mask == 0#32 &&
    s.test.tr6 &&& 0xA8#32 == 0#32
/-- Each cache line is listed once, has eight doublewords (R170), and is a synonym of no other (R176, U11). -/
def State.cacheOk (s : State) : Bool :=
  decide (s.cache.lines.map Prod.fst).Nodup && s.cache.lines.all fun e =>
    e.2.data.length == 8 && !s.cache.synonym e.1 e.2
/-- The invariant of every run. -/
def State.Ok (s : State) : Bool := s.memoryOk && s.modeOk && s.controlOk && s.cacheOk

/-- A run is safe while no step ends in a fault of the model. -/
def safeStep (s : State) : Prop := ∀ f, step s ≠ .fault f

/-! Reading and writing bytes and operands, without the checks. -/

/-- The bytes at physical addresses. -/
def State.bytesAt (s : State) (pas : List Word) : List Byte := pas.map s.physByte
/-- Bytes stored at physical addresses, one after the other. -/
def State.storeBytes (s : State) (pas : List PA) (bs : List Byte) : State :=
  match pas, bs with
  | p :: rest, b :: bs' => (s.storeByte p b).storeBytes rest bs'
  | _, _ => s
/-- A store there is kept: a listed cache line answers, or SMM memory, or RAM; ROM and absent memory ignore it (R156). -/
def State.keepsWrite (s : State) (pa : Word) : Bool := (s.lineAt pa).isSome || s.smmSelected pa || s.part.ram pa
/-- A byte of memory reads the same in both states, free values apart. -/
def sameByte (s t : State) (a : Word) : Prop := ({ t with freeCtr := s.freeCtr } : State).physByte a = s.physByte a
/-- Other bus agents do nothing in the rest of this step (R13 d). -/
def State.busIdle (s : State) : Bool := s.bus == []
/-- Physical memory can be read, and no other agent acts meanwhile: no enabled address region is misaligned (R120, U13). -/
def State.readOk (s : State) : Bool := !s.cfg.anyRegionBad && s.busIdle
/-- The bytes can be written: no write-protected region takes them in (R108, R117, U12). -/
def State.storeOk (s : State) (pas : List PA) : Bool := !s.cfg.anyRegionBad && pas.all fun p => !s.writeProtected p
/-- The bytes can be written, and no other agent acts meanwhile. -/
def State.writeOk (s : State) (pas : List PA) : Bool := s.storeOk pas && s.busIdle
/-- A place can be read. -/
def State.placeReadable (s : State) : Place → Bool
  | .reg _ => true
  | .reg8 _ => true
  | .mem _ => s.readOk
/-- A place can be written. -/
def State.placeWritable (s : State) : Place → Bool
  | .reg _ => true
  | .reg8 _ => true
  | .mem pas => s.writeOk pas
/-- The n bits that a place holds. -/
def State.placeValue (n : Nat) (s : State) : Place → BitVec n
  | .reg r => (s.regs.get r).setWidth n
  | .reg8 r => (s.regs.get8 r).setWidth n
  | .mem pas => BitVec.ofNat n (leNat (s.bytesAt (addrs pas)))
/-- The state after n bits are written to a place. -/
def State.putPlace {n : Nat} (s : State) (p : Place) (v : BitVec n) : State :=
  match p with
  | .reg r => { s with regs := s.regs.set r (mergeLow (s.regs.get r) v) }
  | .reg8 r => { s with regs := s.regs.set8 r (v.setWidth 8) }
  | .mem pas => s.storeBytes pas (bytesOf (n / 8) v.toNat)
/-! Results with their flags; a flag the spec leaves undefined is the next free bit. -/

/-- The state with the flags of a logical result (R281). -/
def State.withLogic {n : Nat} (s : State) (r : BitVec n) : State :=
  { s with flags := logicFlags r (Config.freeBit s.freeCtr) s.flags, freeCtr := s.freeCtr + 1 }
/-- The result of an operation and the state with its flags (R284 to R290). -/
def aluNext (op : Alu) {n : Nat} (a b : BitVec n) (s : State) : BitVec n × State :=
  match op with
  | .add => ((addFlags a b false s.flags).1, { s with flags := (addFlags a b false s.flags).2 })
  | .adc => ((addFlags a b s.flags.cf s.flags).1, { s with flags := (addFlags a b s.flags.cf s.flags).2 })
  | .sub => ((subFlags a b false s.flags).1, { s with flags := (subFlags a b false s.flags).2 })
  | .sbb => ((subFlags a b s.flags.cf s.flags).1, { s with flags := (subFlags a b s.flags.cf s.flags).2 })
  | .and => (a &&& b, s.withLogic (a &&& b))
  | .or => (a ||| b, s.withLogic (a ||| b))
  | .xor => (a ^^^ b, s.withLogic (a ^^^ b))

/-- The state with all six arithmetic flags undefined (R299, R428). -/
def State.withFreeFlags (s : State) : State :=
  let k := s.freeCtr
  { s with
    flags := freeFlags (Config.freeBit k) (Config.freeBit (k + 1)) (Config.freeBit (k + 2)) (Config.freeBit (k + 3))
      (Config.freeBit (k + 4)) (Config.freeBit (k + 5)) s.flags
    freeCtr := k + 6 }
/-- The state with the flags of a multiplication (R297). -/
def State.withMulFlags (s : State) (ovf : Bool) : State :=
  let k := s.freeCtr
  { s with
    flags := mulFlags ovf (Config.freeBit k) (Config.freeBit (k + 1)) (Config.freeBit (k + 2)) (Config.freeBit (k + 3))
      s.flags
    freeCtr := k + 4 }
/-- The state with the flags of a bit test (R311). -/
def State.withBitFlags (s : State) (bit : Bool) : State :=
  let k := s.freeCtr
  { s with
    flags := bitFlags bit (Config.freeBit k) (Config.freeBit (k + 1)) (Config.freeBit (k + 2)) (Config.freeBit (k + 3))
      s.flags
    freeCtr := k + 4 }
/-- The result of a shift or rotate by the count in CL, and the state with its flags (R320 to R327). -/
def shiftNext (op : Shift) {n : Nat} (a : BitVec n) (s : State) : BitVec n × State :=
  let k := s.freeCtr
  let x := shiftResult op a s.shiftCount (Config.freeBit k) (Config.freeBit (k + 1)) (Config.freeBit (k + 2)) s.flags
  (x.1, { s with flags := x.2, freeCtr := k + 3 })

/-! Registers and control transfers. -/

/-- The state with the low n bits of a register written (R21). -/
def State.putReg {n : Nat} (s : State) (r : Reg) (v : BitVec n) : State :=
  { s with regs := s.regs.set r (mergeLow (s.regs.get r) v) }
/-- The state with a byte register written. -/
def State.putReg8 (s : State) (r : Reg8) (v : Byte) : State := { s with regs := s.regs.set8 r v }
/-- The state with a segment register written. -/
def State.putSeg (s : State) (r : SegReg) (g : Seg) : State := { s with segs := s.segs.set r g }
/-- The state after a return to offset x of the same code segment: fetch sees every store (R337, R166). -/
def State.returned (s : State) (x : Word) : State := { s with eip := x, stale := [] }
/-- The state after a JMP or CALL to offset x of the same code segment: also the branch that R651 calls for. -/
def State.jumped (s : State) (x : Word) : State := { s.returned x with branchDue := false }
/-- The state after a return, an exception or an interrupt to offset x of code segment g. -/
def State.returnedFar (s : State) (g : Seg) (x : Word) : State :=
  { s with segs := { s.segs with cs := g }, eip := x, stale := [] }
/-- The state after a JMP or CALL to offset x of code segment g. -/
def State.jumpedFar (s : State) (g : Seg) (x : Word) : State := { s.returnedFar g x with branchDue := false }
/-- A segment register loaded in real or V86 mode: the base is 16 times the selector, the rights stay, so does the limit in
real mode; it is FFFFh in V86 mode (R152, R531). -/
def State.realSeg (s : State) (g : Seg) (sel : Word16) : Seg :=
  { g with sel := sel, base := BitVec.ofNat 32 (16 * sel.toNat), limit := if s.v86 then 0xFFFF#32 else g.limit }

/-- Instruction i, started in s, is a far JMP to a target that it has read in s1 (R334). -/
def farJump (i : Instr) (s s1 : State) (sel : Word16) (off : Word) : Prop :=
  (∃ p, i = .jmpPtr p ∧ s1 = s ∧ sel = p.sel ∧ off = immZext p.off) ∨
  (∃ sz m, i = .jmpMp sz m ∧ readFarPtr sz m [] s = .ok (sel, off) s1)
/-- Instruction i, started in s, is a far CALL to a target that it has read in s1 (R336). -/
def farCall (i : Instr) (sz : OSize) (s s1 : State) (sel : Word16) (off : Word) : Prop :=
  (∃ p, i = .callPtr p ∧ sz = p.off.osize ∧ s1 = s ∧ sel = p.sel ∧ off = immZext p.off) ∨
  (∃ m, i = .callMp sz m ∧ readFarPtr sz m (s.pushRefs sz 1 2) s = .ok (sel, off) s1)
/-- The state after a return to an outer level: CS, SS, ESP and EIP loaded, the data segment registers checked (R338). -/
def State.outerReturned (s : State) (cs ss : Seg) (lvl : BitVec 2) (off esp : Word) : State :=
  { s with
    segs := ({ s.segs with cs := cs, ss := ss } : Segs).afterReturn lvl
    cpl := lvl, eip := off, regs := { s.regs with esp := esp }, stale := [] }

/-! Taking exceptions and interrupts (R484, R483, R487, R590). -/

/-- The outcome o of taking an event: in state s, with its kind, vector, saved EIP and error code, a fault or not: an
exception of an instruction, an INTR, an NMI or a debug exception, which has set DR6 and cleared DR7.GD. -/
def taken (o : Host.Outcome State Fault Refusal) (s : State) (kind : Kind) (v : Byte) (e : Word) (c : Option Word16)
    (fault : Bool) : Prop :=
  (∃ x : Exc, x.vec ≠ 1#8 ∧ o = deliverFault x s ∧ kind = .exception ∧ v = x.vec ∧ e = s.cur.ip ∧ c = x.code ∧
    fault = true) ∨
  (∃ s0 : State, o = takeIntr v s0 ∧ s = { s0 with halted := false, suspended := false } ∧ kind = .external ∧
    e = s0.eip ∧ c = none ∧ fault = false) ∨
  (∃ s0 : State, o = takeNmi e s0 ∧
    s = { s0 with nmiPending := false, nmiBlocked := true, halted := false, suspended := false } ∧ kind = .external ∧
    v = 2#8 ∧ c = none ∧ fault = false) ∨
  (∃ (s0 : State) (hits : BitVec 4) (bs : Bool), o = debugException hits bs fault e s0 ∧
    s = { s0 with dr := { s0.dr with
      dr6 := s0.dr.dr6 ||| hits.setWidth 32 ||| (if bs then 0x4000#32 else 0#32), dr7 := s0.dr.dr7 &&& 0xFFFFDFFF#32 } } ∧
    kind = .exception ∧ v = 1#8 ∧ c = none)
/-- The state once the handler is reached: fetch sees every store, halt and shutdown are over. -/
def State.handling (s : State) : State := { s with stale := [], halted := false, shutdown := false }
/-- The state at the end of a step that ended in a handler or in shutdown: no instruction has completed (R557). -/
def State.ended (s : State) : State :=
  { s with cur := { s.cur with entered := true }, lastIp := none, lastIo := none }

/-! The stack. -/

/-- A selector as an item of a stack: the upper half of a doubleword is the k-th free word (U3). -/
def selValue (sz : OSize) (k : Nat) (sel : Word16) : Word :=
  match sz with
  | .w16 => sel.setWidth 32
  | .w32 => (Config.freeWord k).setWidth 16 ++ sel
/-- The free values that such an item takes. -/
def selDraws : OSize → Nat
  | .w16 => 0
  | .w32 => 1

/-- Items stored at the places checked for them. -/
def State.storeItems (s : State) (sz : OSize) (places : List (List PA)) (vals : List Word) : State :=
  match places, vals with
  | pas :: ps, v :: vs => (s.storeBytes pas (bytesOf (osBytes sz) v.toNat)).storeItems sz ps vs
  | _, _ => s
/-- The stack pointer moved to x (R365). -/
def State.withStackPtr (s : State) (x : Word) : State :=
  { s with regs := { s.regs with esp := newEsp s.segs.ss s.regs.esp x } }
/-- The state after items were pushed (R365). -/
def State.pushed (s : State) (sz : OSize) (places : List (List PA)) (vals : List Word) : State :=
  (s.storeItems sz places vals).withStackPtr (pushOff s.segs.ss sz s.stackPtr vals.length)
/-- The state after n items and m bytes were released (R365). -/
def State.popped (s : State) (sz : OSize) (n m : Nat) : State :=
  s.withStackPtr (wrapSp s.segs.ss (s.stackPtr + BitVec.ofNat 32 (n * osBytes sz + m)))
/-- Instruction i loads segment register r with a selector; s1 is the state once the selector is read and, for POP, released
(R363, R367). -/
def loadsSeg (i : Instr) (r : SegReg) (s : State) (sel : Word16) (s1 : State) : Prop :=
  (∃ e, i = .movSwEw r e ∧ readRM16 e s = .ok sel s1) ∨
  (∃ sz s0 v, (i, r) ∈ [(Instr.popEs sz, SegReg.es), (.popSs sz, .ss), (.popDs sz, .ds), (.popFs sz, .fs), (.popGs sz, .gs)] ∧
    peekStack sz 0 s = .ok v s0 ∧ s1 = s0.popped sz 1 0 ∧ sel = v.setWidth 16)
/-- All places can be written. -/
def State.itemsOk (s : State) (places : List (List PA)) : Bool := places.all s.writeOk

/-! I/O (R143, R557, R592) and strings (R386). -/

/-- An access that is one external cycle: within the I/O space, not at the configuration ports (R101, R143). -/
def externalPort (port : Word16) (n : Nat) : Bool :=
  !cfgPort port && decide (port.toNat + n ≤ 0x10000) && (n == 1 || !decide (port.toNat ≤ 0x23 ∧ 0x22 < port.toNat + n))
/-- What an external read answers: the platform's value (R143). -/
def State.portValue (s : State) (port : Word16) (n : Nat) : Word := ioTrunc n (Config.ioRead s.freeCtr port)
/-- The state with the breakpoint conditions (R592) and the record (R557) of an I/O access. -/
def State.ioNoted (s : State) (write : Bool) (port : Word16) (n : Nat) (v : Word) (index : Option Word) : State :=
  { s with cur := { s.cur with
      hits := s.cur.hits ||| s.ioHits port n
      io := some { write := write, rep := s.cur.pfx.rep
                   transfer := some { size := n, port := port, data := v, index := index } } } }
/-- The state after an external read cycle. -/
def State.portRead (s : State) (port : Word16) (n : Nat) (index : Option Word) : State :=
  { s.ioNoted false port n (s.portValue port n) index with
    freeCtr := s.freeCtr + 1
    ioLog := { write := false, port := port, size := n, value := s.portValue port n } :: s.ioLog }
/-- The state after an external write cycle. -/
def State.portWritten (s : State) (port : Word16) (n : Nat) (v : Word) (index : Option Word) : State :=
  { s.ioNoted true port n v index with
    ioLog := { write := true, port := port, size := n, value := v } :: s.ioLog }
/-- A byte OUT to a port (R382). -/
def byteOut (i : Instr) (s : State) (port : Word16) : Prop :=
  (∃ p : Byte, i = .outIbAl p ∧ port = p.setWidth 16) ∨ i = .outDxAl ∧ port = s.regs.edx.setWidth 16
/-- A byte IN from a port (R381). -/
def byteIn (i : Instr) (s : State) (port : Word16) : Prop :=
  (∃ p : Byte, i = .inAlIb p ∧ port = p.setWidth 16) ∨ i = .inAlDx ∧ port = s.regs.edx.setWidth 16
/-- The state with an index register stepped by n (R386). -/
def State.indexStepped (s : State) (az : ASize) (r : Reg) (n : Nat) : State :=
  { s with regs := s.regs.set r (stepped az (s.regs.get r) s.flags.df n) }
/-- The state with the count register decremented (R390). -/
def State.counted (s : State) (az : ASize) : State :=
  match az with
  | .a16 => s.putReg .ecx ((asTrunc .a16 (s.regs.ecx - 1#32)).setWidth 16)
  | .a32 => s.putReg .ecx (s.regs.ecx - 1#32)

/-! The state image and MMX (R403, R412). -/

/-- The bytes of an environment hold the pointers and the opcode of f, in the form of the operand size and the mode (R403): in
protected mode selectors and offsets, with 16-bit size the low words and no opcode; in real and V86 mode linear addresses (log 33),
with 16-bit size 20 bits of them. -/
def envPointers (sz : OSize) (realLike : Bool) (bs : List Byte) (f : Fpu) : Prop :=
  let ip := BitVec.ofNat 32 (16 * f.ipSel.toNat) + f.ipOff
  let op := BitVec.ofNat 32 (16 * f.opSel.toNat) + f.opOff
  match sz, realLike with
  | .w16, false =>
    imgWord bs 6 = f.ipOff.extractLsb' 0 16 ∧ imgWord bs 8 = f.ipSel ∧
    imgWord bs 10 = f.opOff.extractLsb' 0 16 ∧ imgWord bs 12 = f.opSel
  | .w32, false =>
    imgDword bs 12 = f.ipOff ∧ imgWord bs 16 = f.ipSel ∧ (imgWord bs 18).extractLsb' 0 11 = f.opcode ∧
    imgDword bs 20 = f.opOff ∧ imgWord bs 24 = f.opSel
  | .w16, true =>
    imgWord bs 6 = ip.extractLsb' 0 16 ∧ (imgWord bs 8).extractLsb' 12 4 = ip.extractLsb' 16 4 ∧
    (imgWord bs 8).extractLsb' 0 11 = f.opcode ∧
    imgWord bs 10 = op.extractLsb' 0 16 ∧ (imgWord bs 12).extractLsb' 12 4 = op.extractLsb' 16 4
  | .w32, true =>
    imgWord bs 12 = ip.extractLsb' 0 16 ∧ (imgDword bs 16).extractLsb' 12 16 = ip.extractLsb' 16 16 ∧
    (imgDword bs 16).extractLsb' 0 11 = f.opcode ∧
    imgWord bs 20 = op.extractLsb' 0 16 ∧ (imgDword bs 24).extractLsb' 12 16 = op.extractLsb' 16 16

/-- The state after an MMX instruction: top of stack 0 and the tag word given (R412, R413). -/
def State.mmxAfter (s : State) (tag : Word16) : State := { s with fpu := { s.fpu.clearTop with tag := tag } }

/-! What an access can change (R216, R219). -/

/-- The bytes of the table entries that a translation walked, which are marked when the access has passed its checks. -/
def Xlat.entries (x : Xlat) : List Word :=
  match x.walk with
  | none => []
  | some (dteA, _, pteA, _) => paRange dteA 4 ++ paRange pteA 4
/-- The bytes of table entries that an access of n bytes at a linear address may mark. -/
def State.marks (s : State) (la : Word) (n : Nat) (kind : Acc) (user : Bool) : List Word :=
  match linXlat la n kind user s with
  | .ok (x, none) _ => x.entries
  | .ok (x, some y) _ => x.entries ++ y.entries
  | .error _ _ => []
/-- Those of a program access through a segment. -/
def State.segMarks (s : State) (r : SegReg) (off : Word) (n : Nat) (kind : Acc) : List Word :=
  s.marks ((s.segs.get r).base + off) n kind (s.cpl == 3#2)
/-- Those of an r/m operand of n bytes; a register has none. -/
def State.operandMarks (s : State) (m : Option Mem) (n : Nat) (kind : Acc) : List Word :=
  match m with
  | none => []
  | some m => s.segMarks (s.dataSeg (defaultSeg m)) (effAddr s.regs m) n kind
/-- Those of items to be pushed, checked one after the other. -/
def State.pushMarks (s : State) (sz : OSize) (k : Nat) (vals : List Word) : List Word :=
  match vals with
  | [] => []
  | _ :: rest =>
    let off := pushOff s.segs.ss sz s.stackPtr k
    s.segMarks .ss off (osBytes sz) .write ++
      match segAccess .ss off (osBytes sz) .write (osBytes sz) s with
      | .ok _ t => t.pushMarks sz (k + 1) rest
      | .error _ _ => []
/-- The memory operand in an r/m operand. -/
def memOf : RMv → Option Mem
  | .reg _ => none
  | .mem m => some m
/-- The memory operand in an r/m8 operand. -/
def memOf8 : RM8 → Option Mem
  | .reg _ => none
  | .mem m => some m

/-- The two states differ only where locating an operand can change the machine: the accessed and dirty bits of page table
entries, the TLB, free values drawn, the breakpoint conditions noted, and what other bus agents do meanwhile. -/
def sameButAccess (s t : State) : Prop :=
  t = { s with
    mem := t.mem, smm := t.smm, cache := t.cache, tlb := t.tlb, stale := t.stale, bus := t.bus, freeCtr := t.freeCtr
    cur := { s.cur with hits := t.cur.hits } }
/-- With paging off an access changes nothing but the breakpoint conditions noted. -/
def onlyHits (s t : State) : Prop := t = { s with cur := { s.cur with hits := t.cur.hits } }
/-- What an access that may mark `entries` leaves of the machine: `sameButAccess`; every byte of memory outside the entries, where
no other agent acts meanwhile; and with paging off everything but the breakpoint conditions. -/
def accessFrame (s t : State) (entries : List Word) : Prop :=
  sameButAccess s t ∧ (s.cacheOk → s.busIdle → ∀ a : Word, a ∉ entries → sameByte s t a) ∧ (s.pg = false → onlyHits s t)

end Sys2Proof.Machine
end

