-- ==== Sys2Proof/Certificates/Slice0/Obligations.lean ====
section
/-! DEFINITION. The statements for the provers. In them an operand or a stack item is accessible when the shared operation that
locates it answers (segment, paging and alignment checks passed, R206, R216, R147), and `placeReadable`, `placeWritable`,
`itemsOk` say that no misaligned or write-protected region is met (U12, U13) and that no other bus agent acts in the rest of
the step. Where one does: `ExchangeForms`, `CompareExchange`, `StoreFrame`. -/
open Sys2Proof Sys2Proof.Machine

/-! ## Flags and arithmetic -/

/-- R281: the sum, the difference and their six flags, by the rule's formulas; the other flags stay. -/
def Obligations.AddSubLogicFlags : Prop :=
  ∀ (n : Nat) (a b : BitVec n) (c af : Bool) (f : Flags), n = 8 ∨ n = 16 ∨ n = 32 →
    let even := fun r : BitVec n => decide ((List.range 8).countP (fun i => r.getLsbD i) % 2 = 0)
    (let r := (addFlags a b c f).1
     r.toNat = (a.toNat + b.toNat + c.toNat) % 2 ^ n ∧
     (addFlags a b c f).2 = { f with
       cf := decide (2 ^ n ≤ a.toNat + b.toNat + c.toNat)
       af := decide (16 ≤ a.toNat % 16 + b.toNat % 16 + c.toNat)
       ofl := decide (a.getLsbD (n - 1) = b.getLsbD (n - 1) ∧ r.getLsbD (n - 1) ≠ a.getLsbD (n - 1))
       sf := r.getLsbD (n - 1), zf := decide (r.toNat = 0), pf := even r }) ∧
    (let r := (subFlags a b c f).1
     r.toNat = (2 ^ n + a.toNat - b.toNat - c.toNat) % 2 ^ n ∧
     (subFlags a b c f).2 = { f with
       cf := decide (a.toNat < b.toNat + c.toNat)
       af := decide (a.toNat % 16 < b.toNat % 16 + c.toNat)
       ofl := decide (a.getLsbD (n - 1) ≠ b.getLsbD (n - 1) ∧ r.getLsbD (n - 1) ≠ a.getLsbD (n - 1))
       sf := r.getLsbD (n - 1), zf := decide (r.toNat = 0), pf := even r }) ∧
    logicFlags a af f =
      { f with cf := false, ofl := false, sf := a.getLsbD (n - 1), zf := decide (a.toNat = 0), pf := even a, af := af }

/-- R284 to R290 on a byte destination, register or memory (`00`, `80` and their like): the place gets the result, the flags
are those of the operation, nothing else changes after the operand is located. -/
def Obligations.AluOnByteOperand : Prop :=
  ∀ (op : Alu) (d : RM8) (r : Reg8) (i : Byte) (s s1 : State) (p : Place),
    locate8 d .write s = .ok p s1 → s1.placeReadable p → s1.placeWritable p →
    (let x := aluNext op (s1.placeValue 8 p) (s1.regs.get8 r) s1
     exec (op.ebGb d r) s = .next (x.2.putPlace p x.1)) ∧
    (let x := aluNext op (s1.placeValue 8 p) i s1
     exec (op.ebIb d i) s = .next (x.2.putPlace p x.1))

/-- R284 to R290 on a word or doubleword destination, register or memory (`01`, `81`, `83` and their like). -/
def Obligations.AluOnWordOperand : Prop :=
  (∀ (op : Alu) (sz : OSize) (d : RMv) (r : Reg) (i : Byte) (s s1 : State) (p : Place),
    locateV sz d .write s = .ok p s1 → s1.placeReadable p → s1.placeWritable p →
    (let x := aluNext op (s1.placeValue (osBits sz) p) ((s1.regs.get r).setWidth (osBits sz)) s1
     exec (op.evGv sz d r) s = .next (x.2.putPlace p x.1)) ∧
    (let x := aluNext op (s1.placeValue (osBits sz) p) (i.signExtend (osBits sz)) s1
     exec (op.evIbs sz d i) s = .next (x.2.putPlace p x.1))) ∧
  (∀ (op : Alu) (d : RMv) (i : Imm) (s s1 : State) (p : Place),
    locateV i.osize d .write s = .ok p s1 → s1.placeReadable p → s1.placeWritable p →
    let x := aluNext op (s1.placeValue (osBits i.osize) p) (immVal i) s1
    exec (op.evIv d i) s = .next (x.2.putPlace p x.1))

/-- R284 to R290 with a register destination and a register or memory source (`02`, `03` and their like), and on the
accumulator with an immediate (`04`, `05` and their like). -/
def Obligations.AluToRegister : Prop :=
  (∀ (op : Alu) (r : Reg8) (e : RM8) (s s1 : State) (p : Place),
    locate8 e .read s = .ok p s1 → s1.placeReadable p →
    let x := aluNext op (s1.regs.get8 r) (s1.placeValue 8 p) s1
    exec (op.gbEb r e) s = .next (x.2.putReg8 r x.1)) ∧
  (∀ (op : Alu) (sz : OSize) (r : Reg) (e : RMv) (s s1 : State) (p : Place),
    locateV sz e .read s = .ok p s1 → s1.placeReadable p →
    let x := aluNext op ((s1.regs.get r).setWidth (osBits sz)) (s1.placeValue (osBits sz) p) s1
    exec (op.gvEv sz r e) s = .next (x.2.putReg r x.1)) ∧
  (∀ (op : Alu) (i : Byte) (s : State),
    let x := aluNext op (s.regs.get8 .al) i s
    exec (op.alIb i) s = .next (x.2.putReg8 .al x.1)) ∧
  (∀ (op : Alu) (i : Imm) (s : State),
    let x := aluNext op (s.regs.eax.setWidth (osBits i.osize)) (immVal i) s
    exec (op.axIv i) s = .next (x.2.putReg .eax x.1))

/-- R291 to R294: INC and DEC keep CF, NEG has the flags of 0 minus the operand, NOT changes no flag. -/
def Obligations.UnaryOnOperand : Prop :=
  (∀ (d : RM8) (s s1 : State) (p : Place),
    locate8 d .write s = .ok p s1 → s1.placeReadable p → s1.placeWritable p →
    let a : Byte := s1.placeValue 8 p
    exec (.incEb d) s =
      .next ({ s1 with flags := { (addFlags a 1#8 false s1.flags).2 with cf := s1.flags.cf } }.putPlace p (a + 1#8)) ∧
    exec (.decEb d) s =
      .next ({ s1 with flags := { (subFlags a 1#8 false s1.flags).2 with cf := s1.flags.cf } }.putPlace p (a - 1#8)) ∧
    exec (.negEb d) s = .next ({ s1 with flags := (subFlags 0#8 a false s1.flags).2 }.putPlace p (-a)) ∧
    exec (.notEb d) s = .next (s1.putPlace p (~~~a))) ∧
  (∀ (sz : OSize) (d : RMv) (s s1 : State) (p : Place),
    locateV sz d .write s = .ok p s1 → s1.placeReadable p → s1.placeWritable p →
    let a := s1.placeValue (osBits sz) p
    let one := 1#(osBits sz)
    exec (.incEv sz d) s =
      .next ({ s1 with flags := { (addFlags a one false s1.flags).2 with cf := s1.flags.cf } }.putPlace p (a + one)) ∧
    exec (.decEv sz d) s =
      .next ({ s1 with flags := { (subFlags a one false s1.flags).2 with cf := s1.flags.cf } }.putPlace p (a - one)) ∧
    exec (.negEv sz d) s =
      .next ({ s1 with flags := (subFlags 0#(osBits sz) a false s1.flags).2 }.putPlace p (-a)) ∧
    exec (.notEv sz d) s = .next (s1.putPlace p (~~~a))) ∧
  (∀ (sz : OSize) (r : Reg) (s : State),
    let a := (s.regs.get r).setWidth (osBits sz)
    let one := 1#(osBits sz)
    exec (.incR sz r) s =
      .next ({ s with flags := { (addFlags a one false s.flags).2 with cf := s.flags.cf } }.putReg r (a + one)) ∧
    exec (.decR sz r) s =
      .next ({ s with flags := { (subFlags a one false s.flags).2 with cf := s.flags.cf } }.putReg r (a - one)))

/-- R295, R372: XADD and XCHG. XADD writes the source register first, then the sum; XCHG changes no flag and accesses memory as
if locked (R149, R160). Where other bus agents act (log 9), they have the bus before the read, and between the read and the
write of an instruction that LOCK# does not make indivisible: INC without LOCK, and one under LOCK or an XCHG with weak locking
(R163, R280). -/
def Obligations.ExchangeForms : Prop :=
  (∀ (d : RM8) (r : Reg8) (s s1 : State) (p : Place),
    locate8 d .write s = .ok p s1 → s1.placeReadable p →
    let a : Byte := s1.placeValue 8 p
    let x := aluNext .add a (s1.regs.get8 r) s1
    let q := s1.lockPlace p
    (s1.placeWritable p → exec (.xaddEbGb d r) s = .next ((x.2.putReg8 r a).putPlace p x.1)) ∧
    (s1.placeWritable q → exec (.xchgEbGb d r) s = .next ((s1.putPlace q (s1.regs.get8 r)).putReg8 r a))) ∧
  (∀ (sz : OSize) (d : RMv) (r : Reg) (s s1 : State) (p : Place),
    locateV sz d .write s = .ok p s1 → s1.placeReadable p →
    let a := s1.placeValue (osBits sz) p
    let b := (s1.regs.get r).setWidth (osBits sz)
    let x := aluNext .add a b s1
    let q := s1.lockPlace p
    (s1.placeWritable p → exec (.xaddEvGv sz d r) s = .next ((x.2.putReg r a).putPlace p x.1)) ∧
    (s1.placeWritable q → exec (.xchgEvGv sz d r) s = .next ((s1.putPlace q b).putReg r a))) ∧
  (∀ (sz : OSize) (r : Reg) (s : State),
    exec (.xchgAx sz r) s =
      .next ((s.putReg .eax ((s.regs.get r).setWidth (osBits sz))).putReg r (s.regs.eax.setWidth (osBits sz)))) ∧
  (∀ (m : Mem) (r : Reg8) (s s1 : State) (p : PA) (e1 e2 : List BusEvent) (rest : List (List BusEvent)),
    locateMem m 1 1 .write s = .ok [p] s1 → s1.bus = e1 :: e2 :: rest →
    let strong := s1.cfg.ccr1.getLsbD 4 = false ∧ s1.cfg.effWl p.addr = false
    let t1 := ({ s1 with bus := e2 :: rest } : State).busDo e1
    let t2 := ({ t1 with bus := rest } : State).busDo e2
    let a := t1.physByte p.addr
    let q : PA := { p with nc := p.nc || decide strong, lock := decide strong }
    let u := if p.lock then t1 else t2
    (p.lock = true ↔ s.cur.pfx.lock = true ∧ strong) ∧
    (s1.storeOk [q] → exec (.xchgEbGb (.mem m) r) s =
      .next (((if strong then t1 else t2).storeByte q (s1.regs.get8 r)).putReg8 r a)) ∧
    (s1.storeOk [p] → exec (.incEb (.mem m)) s =
      .next ({ u with flags := { (addFlags a 1#8 false s1.flags).2 with cf := s1.flags.cf } }.storeByte p (a + 1#8))))

/-- R296: CMPXCHG stores the source where the accumulator equals the destination; else the accumulator gets the destination,
which is written back unchanged (R280). The flags are those of accumulator minus destination. Other bus agents (log 9) can act
between its read and its write unless LOCK# is asserted: LOCK with strong locking (R163, R280). -/
def Obligations.CompareExchange : Prop :=
  (∀ (d : RM8) (r : Reg8) (s s1 : State) (p : Place),
    locate8 d .write s = .ok p s1 → s1.placeReadable p → s1.placeWritable p →
    let a : Byte := s1.placeValue 8 p
    let s2 := (aluNext .sub (s1.regs.get8 .al) a s1).2
    exec (.cmpxchgEbGb d r) s =
      .next (if s1.regs.get8 .al = a then s2.putPlace p (s1.regs.get8 r) else (s2.putPlace p a).putReg8 .al a)) ∧
  (∀ (sz : OSize) (d : RMv) (r : Reg) (s s1 : State) (p : Place),
    locateV sz d .write s = .ok p s1 → s1.placeReadable p → s1.placeWritable p →
    let a := s1.placeValue (osBits sz) p
    let acc := s1.regs.eax.setWidth (osBits sz)
    let s2 := (aluNext .sub acc a s1).2
    exec (.cmpxchgEvGv sz d r) s =
      .next (if acc = a then s2.putPlace p ((s1.regs.get r).setWidth (osBits sz)) else (s2.putPlace p a).putReg .eax a)) ∧
  (∀ (m : Mem) (r : Reg8) (s s1 : State) (p : PA) (e1 e2 : List BusEvent) (rest : List (List BusEvent)),
    locateMem m 1 1 .write s = .ok [p] s1 → s1.bus = e1 :: e2 :: rest → s1.storeOk [p] →
    let t1 := ({ s1 with bus := e2 :: rest } : State).busDo e1
    let t2 := ({ t1 with bus := rest } : State).busDo e2
    let a := t1.physByte p.addr
    let acc := s1.regs.get8 .al
    let u := (aluNext .sub acc a (if p.lock then t1 else t2)).2
    (p.lock = true ↔ s.cur.pfx.lock = true ∧ s1.cfg.ccr1.getLsbD 4 = false ∧ s1.cfg.effWl p.addr = false) ∧
    exec (.cmpxchgEbGb (.mem m) r) s =
      .next (if acc = a then u.storeByte p (s1.regs.get8 r) else (u.storeByte p a).putReg8 .al a))

/-- R297, R298: MUL and IMUL: the double-width product in AX, DX:AX or EDX:EAX, CF = OF = the high half matters, the other
arithmetic flags undefined. -/
def Obligations.Multiply : Prop :=
  (∀ (d : RM8) (s s1 : State) (p : Place), locate8 d .read s = .ok p s1 → s1.placeReadable p →
    let a := s1.regs.get8 .al
    let b : Byte := s1.placeValue 8 p
    exec (.mulEb d) s =
      .next ((s1.putReg .eax (BitVec.ofNat 16 (a.toNat * b.toNat))).withMulFlags (decide (2 ^ 8 ≤ a.toNat * b.toNat))) ∧
    exec (.imulEb d) s =
      .next ((s1.putReg .eax (BitVec.ofInt 16 (a.toInt * b.toInt))).withMulFlags
        (decide ((BitVec.ofInt 8 (a.toInt * b.toInt)).toInt ≠ a.toInt * b.toInt)))) ∧
  (∀ (sz : OSize) (d : RMv) (s s1 : State) (p : Place), locateV sz d .read s = .ok p s1 → s1.placeReadable p →
    let n := osBits sz
    let a := s1.regs.eax.setWidth n
    let b := s1.placeValue n p
    let u := a.toNat * b.toNat
    let i := a.toInt * b.toInt
    exec (.mulEv sz d) s =
      .next (((s1.putReg .eax (BitVec.ofNat n u)).putReg .edx (BitVec.ofNat n (u / 2 ^ n))).withMulFlags
        (decide (2 ^ n ≤ u))) ∧
    exec (.imulEv sz d) s =
      .next (((s1.putReg .eax (BitVec.ofInt n i)).putReg .edx (BitVec.ofInt n (i / 2 ^ n))).withMulFlags
        (decide ((BitVec.ofInt n i).toInt ≠ i))))

/-- R299, R300: the division functions: a quotient and a remainder are answered exactly where the divisor is not 0 and the
quotient fits; the remainder of a signed division has the sign of the dividend. -/
def Obligations.DivisionResults : Prop :=
  (∀ (n : Nat) (x : BitVec (n + n)) (b q r : BitVec n), 0 < n → divU x b = some (q, r) →
    x.toNat = q.toNat * b.toNat + r.toNat ∧ r.toNat < b.toNat) ∧
  (∀ (n : Nat) (x : BitVec (n + n)) (b : BitVec n), 0 < n →
    (divU x b = none ↔ b.toNat = 0 ∨ 2 ^ n ≤ x.toNat / b.toNat)) ∧
  (∀ (n : Nat) (x : BitVec (n + n)) (b q r : BitVec n), 0 < n → divS x b = some (q, r) →
    x.toInt = q.toInt * b.toInt + r.toInt ∧ r.toInt.natAbs < b.toInt.natAbs ∧ (r.toInt = 0 ∨ (r.toInt < 0 ↔ x.toInt < 0))) ∧
  (∀ (n : Nat) (x : BitVec (n + n)) (b : BitVec n), 0 < n →
    (divS x b = none ↔ b.toInt = 0 ∨ x.toInt.tdiv b.toInt < -2 ^ (n - 1) ∨ 2 ^ (n - 1) ≤ x.toInt.tdiv b.toInt))

/-- R299, R300, R484: DIV and IDIV. Where the quotient exists and fits: quotient in AL, AX or EAX, remainder in AH, DX or
EDX, all six arithmetic flags undefined. Else #DE, a fault: no register or flag has changed. What a fault undoes: log 17. -/
def Obligations.Divide : Prop :=
  (∀ (d : RM8) (s s1 : State) (p : Place) (q r : Byte), locate8 d .read s = .ok p s1 → s1.placeReadable p →
    let x : BitVec 16 := s1.regs.eax.setWidth 16
    let b : Byte := s1.placeValue 8 p
    let fault := deliverFault .de (rollback s s1)
    (divU (n := 8) x b = some (q, r) → exec (.divEb d) s = .next (((s1.putReg8 .al q).putReg8 .ah r).withFreeFlags)) ∧
    (divS (n := 8) x b = some (q, r) → exec (.idivEb d) s = .next (((s1.putReg8 .al q).putReg8 .ah r).withFreeFlags)) ∧
    (divU (n := 8) x b = none → exec (.divEb d) s = fault) ∧ (divS (n := 8) x b = none → exec (.idivEb d) s = fault)) ∧
  (∀ (sz : OSize) (d : RMv) (s s1 : State) (p : Place) (q r : BitVec (osBits sz)),
    locateV sz d .read s = .ok p s1 → s1.placeReadable p →
    let x := s1.regs.edx.setWidth (osBits sz) ++ s1.regs.eax.setWidth (osBits sz)
    let b := s1.placeValue (osBits sz) p
    let fault := deliverFault .de (rollback s s1)
    (divU x b = some (q, r) → exec (.divEv sz d) s = .next (((s1.putReg .eax q).putReg .edx r).withFreeFlags)) ∧
    (divS x b = some (q, r) → exec (.idivEv sz d) s = .next (((s1.putReg .eax q).putReg .edx r).withFreeFlags)) ∧
    (divU x b = none → exec (.divEv sz d) s = fault) ∧ (divS x b = none → exec (.idivEv sz d) s = fault))

/-! ## Bits, shifts and rotates -/

/-- R310 to R313: BTS, BTR and BTC: CF is the old bit, OF, SF, AF and PF are undefined, the bit is set, cleared or inverted.
The bit number is an immediate or a register's value modulo the operand size; for a memory operand and a register, a signed
bit string offset that selects the word. Where the address of a bit string wraps is the model's reading (log 27). -/
def Obligations.BitChange : Prop :=
  (∀ (sz : OSize) (d : RMv) (i : Byte) (s s1 : State) (p : Place),
    locateV sz d .write s = .ok p s1 → s1.placeReadable p → s1.placeWritable p →
    let w := s1.placeValue (osBits sz) p
    let k := i.toNat % osBits sz
    let s2 := s1.withBitFlags (w.getLsbD k)
    exec (.btsEvIb sz d i) s = .next (s2.putPlace p (w ||| (1#(osBits sz) <<< k))) ∧
    exec (.btrEvIb sz d i) s = .next (s2.putPlace p (w &&& ~~~(1#(osBits sz) <<< k))) ∧
    exec (.btcEvIb sz d i) s = .next (s2.putPlace p (w ^^^ (1#(osBits sz) <<< k)))) ∧
  (∀ (sz : OSize) (b r : Reg) (s : State),
    let w := (s.regs.get b).setWidth (osBits sz)
    let k := (s.regs.get r).toNat % osBits sz
    let s2 := s.withBitFlags (w.getLsbD k)
    exec (.btsEvGv sz (.reg b) r) s = .next (s2.putReg b (w ||| (1#(osBits sz) <<< k))) ∧
    exec (.btrEvGv sz (.reg b) r) s = .next (s2.putReg b (w &&& ~~~(1#(osBits sz) <<< k))) ∧
    exec (.btcEvGv sz (.reg b) r) s = .next (s2.putReg b (w ^^^ (1#(osBits sz) <<< k)))) ∧
  (∀ (sz : OSize) (m : Mem) (r : Reg) (s s1 : State) (pas : List PA),
    let o := bitOffset sz (s.regs.get r)
    segAccess (s.dataSeg (defaultSeg m)) (bitWordAddr m (effAddr s.regs m) sz o) (osBytes sz) .write (osBytes sz) s =
      .ok pas s1 → s1.readOk → s1.writeOk pas →
    let w := s1.placeValue (osBits sz) (.mem pas)
    let k := (o.fmod (osBits sz)).toNat
    let s2 := s1.withBitFlags (w.getLsbD k)
    exec (.btsEvGv sz (.mem m) r) s = .next (s2.putPlace (.mem pas) (w ||| (1#(osBits sz) <<< k))) ∧
    exec (.btrEvGv sz (.mem m) r) s = .next (s2.putPlace (.mem pas) (w &&& ~~~(1#(osBits sz) <<< k))) ∧
    exec (.btcEvGv sz (.mem m) r) s = .next (s2.putPlace (.mem pas) (w ^^^ (1#(osBits sz) <<< k))))

/-- R320 to R327: a shift or rotate by CL: a count of 0 (modulo 32) changes nothing, once the operand's checks are passed; any
other gives the operation's result and flags. The model's choices: with a count of 0 the checks of a memory operand are made all
the same (log 60); RCL and RCR by a masked count that is not 0 but a multiple of 9 (byte) or 17 (word) write the operand back
unchanged (log 58). -/
def Obligations.ShiftByCl : Prop :=
  (∀ (op : Shift) (d : RM8) (s s1 : State) (p : Place), locate8 d .write s = .ok p s1 →
    let x := shiftNext op (s1.placeValue 8 p) s1
    ((s.regs.get8 .cl).toNat % 32 = 0 → exec (op.ebCl d) s = .next { s with freeCtr := s1.freeCtr }) ∧
    ((s.regs.get8 .cl).toNat % 32 ≠ 0 → s1.placeReadable p → s1.placeWritable p →
      exec (op.ebCl d) s = .next (x.2.putPlace p x.1))) ∧
  (∀ (op : Shift) (sz : OSize) (d : RMv) (s s1 : State) (p : Place), locateV sz d .write s = .ok p s1 →
    let x := shiftNext op (s1.placeValue (osBits sz) p) s1
    ((s.regs.get8 .cl).toNat % 32 = 0 → exec (op.evCl sz d) s = .next { s with freeCtr := s1.freeCtr }) ∧
    ((s.regs.get8 .cl).toNat % 32 ≠ 0 → s1.placeReadable p → s1.placeWritable p →
      exec (op.evCl sz d) s = .next (x.2.putPlace p x.1)))

/-- R321 to R327: what the shift and rotate functions compute, by arithmetic. SHL multiplies, SHR divides, SAR divides the
signed value downwards; ROL and ROR rotate n bits, RCL and RCR the n + 1 bits with CF on top. CF is the last bit moved out, OF
follows its rule at a count of 1, the shifts take SF, ZF and PF from the result, the rotates change CF and OF only. `o`, `af`
and `cf` stand where the rules leave a flag undefined. -/
def Obligations.ShiftResults : Prop :=
  ∀ (n : Nat) (a : BitVec n) (c : Nat) (o af cf : Bool) (f : Flags), n = 8 ∨ n = 16 ∨ n = 32 → 1 ≤ c → c ≤ 31 →
    let x := fun op : Shift => shiftResult op a c o af cf f
    let bit := fun (op : Shift) (i : Nat) => (x op).1.getLsbD i
    let once := fun v : Bool => if c = 1 then v else o
    let even := fun r : BitVec n => decide ((List.range 8).countP (fun i => r.getLsbD i) % 2 = 0)
    let shifted := fun (op : Shift) (c' o' : Bool) =>
      (x op).2 = { f with
        cf := c', ofl := once o', af := af, sf := bit op (n - 1), zf := decide ((x op).1.toNat = 0), pf := even (x op).1 }
    let rotated := fun (op : Shift) (c' o' : Bool) => (x op).2 = { f with cf := c', ofl := once o' }
    let k := c % n
    let j := if n = 32 then c else c % (n + 1)
    let w := a.toNat + 2 ^ n * f.cf.toNat
    let wl := w * 2 ^ j % 2 ^ (n + 1) + w / 2 ^ (n + 1 - j)
    let wr := w / 2 ^ j + w % 2 ^ j * 2 ^ (n + 1 - j)
    ((x .rol).1.toNat = a.toNat * 2 ^ k % 2 ^ n + a.toNat / 2 ^ (n - k) ∧
      rotated .rol (bit .rol 0) (bit .rol (n - 1) ^^ bit .rol 0)) ∧
    ((x .ror).1.toNat = a.toNat / 2 ^ k + a.toNat % 2 ^ k * 2 ^ (n - k) ∧
      rotated .ror (bit .ror (n - 1)) (bit .ror (n - 1) ^^ bit .ror (n - 2))) ∧
    ((x .rcl).1.toNat = wl % 2 ^ n ∧
      rotated .rcl (decide (2 ^ n ≤ wl)) (bit .rcl (n - 1) ^^ decide (2 ^ n ≤ wl))) ∧
    ((x .rcr).1.toNat = wr % 2 ^ n ∧ rotated .rcr (decide (2 ^ n ≤ wr)) (a.getLsbD (n - 1) ^^ f.cf)) ∧
    ((x .shl).1.toNat = a.toNat * 2 ^ c % 2 ^ n ∧
      (let c' := if c ≤ n then decide (a.toNat * 2 ^ c / 2 ^ n % 2 = 1) else cf
       shifted .shl c' (bit .shl (n - 1) ^^ c'))) ∧
    ((x .shr).1.toNat = a.toNat / 2 ^ c ∧
      shifted .shr (if c ≤ n then decide (a.toNat / 2 ^ (c - 1) % 2 = 1) else cf) (a.getLsbD (n - 1))) ∧
    ((x .sar).1.toInt = a.toInt / 2 ^ c ∧ shifted .sar (decide (a.toInt / 2 ^ (c - 1) % 2 = 1)) false)

/-! ## Moves, segment registers, stack -/

/-- R360 to R363: MOV to a register or memory operand, moffs included: the place gets the value, no flag changes. From a
segment register it is the 16-bit selector; a 32-bit register gets it below an undefined upper half. -/
def Obligations.MovToOperand : Prop :=
  (∀ (d : RM8) (r : Reg8) (i : Byte) (s s1 : State) (p : Place), locate8 d .write s = .ok p s1 → s1.placeWritable p →
    exec (.movEbGb d r) s = .next (s1.putPlace p (s.regs.get8 r)) ∧ exec (.movEbIb d i) s = .next (s1.putPlace p i)) ∧
  (∀ (sz : OSize) (d : RMv) (r : Reg) (s s1 : State) (p : Place), locateV sz d .write s = .ok p s1 → s1.placeWritable p →
    exec (.movEvGv sz d r) s = .next (s1.putPlace p ((s.regs.get r).setWidth (osBits sz)))) ∧
  (∀ (d : RMv) (i : Imm) (s s1 : State) (p : Place), locateV i.osize d .write s = .ok p s1 → s1.placeWritable p →
    exec (.movEvIv d i) s = .next (s1.putPlace p (immVal i))) ∧
  (∀ (o : Moffs) (s s1 : State) (pas : List PA), locateMoffs o 1 .write s = .ok pas s1 → s1.writeOk pas →
    exec (.movObAl o) s = .next (s1.putPlace (.mem pas) (s1.regs.get8 .al))) ∧
  (∀ (sz : OSize) (o : Moffs) (s s1 : State) (pas : List PA),
    locateMoffs o (osBytes sz) .write s = .ok pas s1 → s1.writeOk pas →
    exec (.movOvAx sz o) s = .next (s1.putPlace (.mem pas) (s1.regs.eax.setWidth (osBits sz)))) ∧
  (∀ (d : Reg) (r : SegReg) (s : State), exec (.movEwSw .w16 (.reg d) r) s = .next (s.putReg d (s.segs.get r).sel)) ∧
  (∀ (d : Reg) (r : SegReg) (s : State),
    exec (.movEwSw .w32 (.reg d) r) s =
      .next ({ s with freeCtr := s.freeCtr + 1 }.putReg d
        ((Config.freeWord s.freeCtr).setWidth 16 ++ (s.segs.get r).sel))) ∧
  (∀ (sz : OSize) (m : Mem) (r : SegReg) (s s1 : State) (pas : List PA),
    locateMem m 2 2 .write s = .ok pas s1 → s1.writeOk pas →
    exec (.movEwSw sz (.mem m) r) s = .next (s1.putPlace (.mem pas) (s.segs.get r).sel))

/-- R360, R361, R362, R374, R373: MOV to a register, XLAT and NOP: the register gets the value, no flag changes; NOP changes
nothing. -/
def Obligations.MovToRegister : Prop :=
  (∀ (r : Reg8) (e : RM8) (s s1 : State) (p : Place), locate8 e .read s = .ok p s1 → s1.placeReadable p →
    exec (.movGbEb r e) s = .next (s1.putReg8 r (s1.placeValue 8 p))) ∧
  (∀ (sz : OSize) (r : Reg) (e : RMv) (s s1 : State) (p : Place), locateV sz e .read s = .ok p s1 → s1.placeReadable p →
    exec (.movGvEv sz r e) s = .next (s1.putReg r (s1.placeValue (osBits sz) p))) ∧
  (∀ (r : Reg8) (i : Byte) (s : State), exec (.movRIb r i) s = .next (s.putReg8 r i)) ∧
  (∀ (r : Reg) (i : Imm) (s : State), exec (.movRIv r i) s = .next (s.putReg r (immVal i))) ∧
  (∀ (o : Moffs) (s s1 : State) (pas : List PA), locateMoffs o 1 .read s = .ok pas s1 → s1.readOk →
    exec (.movAlOb o) s = .next (s1.putReg8 .al (s1.placeValue 8 (.mem pas)))) ∧
  (∀ (sz : OSize) (o : Moffs) (s s1 : State) (pas : List PA),
    locateMoffs o (osBytes sz) .read s = .ok pas s1 → s1.readOk →
    exec (.movAxOv sz o) s = .next (s1.putReg .eax (s1.placeValue (osBits sz) (.mem pas)))) ∧
  (∀ (az : ASize) (s s1 : State) (pas : List PA),
    segAccess (s.dataSeg .ds) (asTrunc az (asTrunc az s.regs.ebx + (s.regs.get8 .al).setWidth 32)) 1 .read 1 s =
      .ok pas s1 → s1.readOk →
    exec (.xlat az) s = .next (s1.putReg8 .al (s1.placeValue 8 (.mem pas)))) ∧
  (∀ s : State, exec .nop s = .next s)

/-- R152, R154, R363, R367: in real and V86 mode a load of a segment register by MOV or POP sets the selector and the base to
16 times the selector; the rights stay; the limit stays in real mode and is FFFFh in V86 mode (R531); a load of SS holds
interrupts off for one instruction (R658). -/
def Obligations.RealSegmentLoad : Prop :=
  ∀ (i : Instr) (r : SegReg) (s s1 : State) (sel : Word16), loadsSeg i r s sel s1 → r ≠ .cs → s1.realLike →
    exec i s = .next { s1.putSeg r (s1.realSeg (s1.segs.get r) sel) with shadow := if r = .ss then .ss else s1.shadow }

/-- R191, R205, R526, R527, R363, R367: MOV and POP to a segment register in protected mode. DS, ES, FS and GS take a present
data or readable code descriptor that the effective privilege level may use, SS a present writable data descriptor of the
current level; the descriptor's accessed bit is set in memory. A selector beyond the GDT, a descriptor that may not be used and
a null selector in SS raise #GP, a segment that is not present #NP, in SS #SS: a fault. A null selector in DS, ES, FS or GS
makes the register unusable; that the rest of it stays is the model's reading (log 49). -/
def Obligations.ProtectedSegmentLoad : Prop :=
  ∀ (i : Instr) (r : SegReg) (s s1 : State) (sel : Word16), loadsSeg i r s sel s1 → r ≠ .cs → s1.realLike = false →
    let code := sel &&& 0xFFFC#16
    (nullSel sel → r = .ss → exec i s = deliverFault (.gp 0#16) (rollback s s1)) ∧
    (nullSel sel → r ≠ .ss →
      let g := s1.segs.get r
      exec i s = .next (s1.putSeg r { g with sel := sel, attr := { g.attr with p := false } })) ∧
    (nullSel sel = false → sel.getLsbD 2 = false → s1.gdtr.limit.toNat < (sel &&& 0xFFF8#16).toNat + 7 →
      exec i s = deliverFault (.gp code) (rollback s s1)) ∧
    (nullSel sel = false → ∀ (a : Word) (d : BitVec 64) (s2 : State), readDesc sel (.gp code) s1 = .ok (a, d) s2 →
      let t := descAttr d
      let usable := if r = .ss then t.writable ∧ rpl sel = s1.cpl ∧ t.dpl = s1.cpl
        else t.dt ∧ (t.code → t.readableCode) ∧ (t.conforming = true ∨ s1.cpl ≤ t.dpl ∧ rpl sel ≤ t.dpl)
      (¬ usable → exec i s = deliverFault (.gp code) (rollback s s2)) ∧
      (usable → t.p = false → exec i s = deliverFault (if r = .ss then .ss code else .np code) (rollback s s2)) ∧
      (usable → t.p → ∀ s3 : State, markAccessed a d s2 = .ok () s3 →
        exec i s = .next { s3.putSeg r (Seg.ofDesc sel d) with shadow := if r = .ss then .ss else s3.shadow }))

/-- R365, R366, R368: the pushing instructions: the places below the stack pointer are checked, then the items are stored and
the stack pointer moves. PUSH ESP pushes the value before; a 32-bit push of a selector has an undefined upper half. -/
def Obligations.PushForms : Prop :=
  (∀ (sz : OSize) (r : Reg) (s s1 : State) (pl : List (List PA)),
    pushPlaces sz 1 [s.regs.get r] s = .ok pl s1 → s1.itemsOk pl →
    exec (.pushR sz r) s = .next (s1.pushed sz pl [s.regs.get r])) ∧
  (∀ (sz : OSize) (d : RMv) (s s0 s1 : State) (v : BitVec (osBits sz)) (pl : List (List PA)),
    readRMv sz d s = .ok v s0 → pushPlaces sz 1 [v.setWidth 32] s0 = .ok pl s1 → s1.itemsOk pl →
    exec (.pushEv sz d) s = .next (s1.pushed sz pl [v.setWidth 32])) ∧
  (∀ (i : Imm) (s s1 : State) (pl : List (List PA)),
    pushPlaces i.osize 1 [immZext i] s = .ok pl s1 → s1.itemsOk pl →
    exec (.pushIv i) s = .next (s1.pushed i.osize pl [immZext i])) ∧
  (∀ (sz : OSize) (i : Byte) (s s1 : State) (pl : List (List PA)),
    pushPlaces sz 1 [i.signExtend 32] s = .ok pl s1 → s1.itemsOk pl →
    exec (.pushIbs sz i) s = .next (s1.pushed sz pl [i.signExtend 32])) ∧
  (∀ (sz : OSize) (s s1 : State) (pl : List (List PA)),
    let g := s.regs
    let items := [g.eax, g.ecx, g.edx, g.ebx, g.esp, g.ebp, g.esi, g.edi]
    pushPlaces sz 1 items s = .ok pl s1 → s1.itemsOk pl → exec (.pusha sz) s = .next (s1.pushed sz pl items)) ∧
  (∀ (r : SegReg) (i : OSize → Instr),
    (r, i) ∈ [(SegReg.es, Instr.pushEs), (.cs, .pushCs), (.ss, .pushSs), (.ds, .pushDs), (.fs, .pushFs), (.gs, .pushGs)] →
    (∀ (s s1 : State) (pl : List (List PA)),
      let v := (s.segs.get r).sel.setWidth 32
      pushPlaces .w16 1 [v] s = .ok pl s1 → s1.itemsOk pl → exec (i .w16) s = .next (s1.pushed .w16 pl [v])) ∧
    (∀ (s s1 : State) (pl : List (List PA)),
      let v := (Config.freeWord s.freeCtr).setWidth 16 ++ (s.segs.get r).sel
      pushPlaces .w32 1 [v] { s with freeCtr := s.freeCtr + 1 } = .ok pl s1 → s1.itemsOk pl →
      exec (i .w32) s = .next (s1.pushed .w32 pl [v])))

/-- R365, R367, R369: POP of registers and memory and POPA: the item is read first, then the stack pointer moves, then the
destination is written; POPA skips the stack pointer's slot. -/
def Obligations.PopForms : Prop :=
  (∀ (sz : OSize) (r : Reg) (s s1 : State) (v : Word), peekStack sz 0 s = .ok v s1 →
    exec (.popR sz r) s = .next ((s1.popped sz 1 0).putReg r (v.setWidth (osBits sz)))) ∧
  (∀ (sz : OSize) (d : RMv) (s s1 s2 : State) (v : Word) (p : Place), peekStack sz 0 s = .ok v s1 →
    locateV sz d .write (s1.popped sz 1 0) = .ok p s2 → s2.placeWritable p →
    exec (.popEv sz d) s = .next (s2.putPlace p (v.setWidth (osBits sz)))) ∧
  (∀ (sz : OSize) (t : Nat → State) (v : Nat → Word), (∀ k, k < 8 → peekStack sz k (t k) = .ok (v k) (t (k + 1))) →
    let n := osBits sz
    let p := fun (s : State) (r : Reg) (k : Nat) => s.putReg r ((v k).setWidth n)
    exec (.popa sz) (t 0) = .next
      (p (p (p (p (p (p (p ((t 8).popped sz 8 0) .edi 0) .esi 1) .ebp 2) .ebx 4) .edx 5) .ecx 6) .eax 7))

/-- R370, R371, R339, R531: PUSHF and POPF outside V86 mode, or with IOPL = 3: PUSHF pushes EFLAGS with VM and RF 0; POPF
writes the flags that the mode and privilege level allow, never VM or RF. -/
def Obligations.FlagsOnStack : Prop :=
  (∀ (sz : OSize) (s s1 : State) (pl : List (List PA)), (s.v86 = false ∨ s.flags.iopl = 3#2) →
    let v := s.flags.toWord &&& 0xFCFFFF#32
    pushPlaces sz 1 [v] s = .ok pl s1 → s1.itemsOk pl → exec (.pushf sz) s = .next (s1.pushed sz pl [v])) ∧
  (∀ (sz : OSize) (s s1 : State) (v : Word), (s.v86 = false ∨ s.flags.iopl = 3#2) → peekStack sz 0 s = .ok v s1 →
    let n := Flags.ofWord v
    let o := s1.flags
    let top := s1.pe = false ∨ s1.cpl = 0#2
    exec (.popf sz) s = .next { s1.popped sz 1 0 with flags :=
      { n with
        iopl := if top then n.iopl else o.iopl
        ifl := if s1.pe = false ∨ s1.cpl ≤ o.iopl then n.ifl else o.ifl
        vm := o.vm, rf := o.rf
        ac := if sz = .w32 then n.ac else o.ac
        id := if sz = .w32 ∧ s1.cfg.ccr4.getLsbD 7 then n.id else o.id } })

/-! ## Control transfer -/

/-- R331, R333, R335, R337: near JMP, CALL and RET to a target within the CS limit: CALL pushes the offset of the next
instruction, RET pops it and releases further bytes. Past the limit each raises #GP(0), a fault: nothing is pushed or
released. -/
def Obligations.NearTransfers : Prop :=
  let fits := fun (s : State) (x : Word) => x ≤ s.segs.cs.limit
  (∀ (sz : OSize) (d : Byte) (s : State), let x := osTrunc sz (s.eip + d.signExtend 32)
    (fits s x → exec (.jmpRel8 sz d) s = .next (s.jumped x)) ∧
    (¬ fits s x → exec (.jmpRel8 sz d) s = deliverFault (.gp 0#16) (rollback s s))) ∧
  (∀ (d : Imm) (s : State), let x := osTrunc d.osize (s.eip + immSext d)
    (fits s x → exec (.jmpRel d) s = .next (s.jumped x)) ∧
    (¬ fits s x → exec (.jmpRel d) s = deliverFault (.gp 0#16) (rollback s s) ∧
      exec (.callRel d) s = deliverFault (.gp 0#16) (rollback s s))) ∧
  (∀ (sz : OSize) (d : RMv) (s s1 : State) (v : BitVec (osBits sz)), readRMv sz d s = .ok v s1 →
    (fits s1 (v.setWidth 32) → exec (.jmpEv sz d) s = .next (s1.jumped (v.setWidth 32))) ∧
    (¬ fits s1 (v.setWidth 32) → exec (.jmpEv sz d) s = deliverFault (.gp 0#16) (rollback s s1) ∧
      exec (.callEv sz d) s = deliverFault (.gp 0#16) (rollback s s1))) ∧
  (∀ (d : Imm) (s s1 : State) (pl : List (List PA)), let x := osTrunc d.osize (s.eip + immSext d)
    fits s x → pushPlaces d.osize 1 [s.eip] { s with eip := x } = .ok pl s1 → s1.itemsOk pl →
    exec (.callRel d) s = .next ((s1.pushed d.osize pl [s.eip]).jumped x)) ∧
  (∀ (sz : OSize) (d : RMv) (s s0 s1 : State) (v : BitVec (osBits sz)) (pl : List (List PA)),
    readRMv sz d s = .ok v s0 → fits s0 (v.setWidth 32) →
    pushPlaces sz 1 [s0.eip] { s0 with eip := v.setWidth 32 } = .ok pl s1 → s1.itemsOk pl →
    exec (.callEv sz d) s = .next ((s1.pushed sz pl [s0.eip]).jumped (v.setWidth 32))) ∧
  (∀ (sz : OSize) (n : Word16) (s s1 : State) (v : Word), peekStack sz 0 s = .ok v s1 →
    (fits s1 (osTrunc sz v) → exec (.ret sz) s = .next ((s1.popped sz 1 0).returned (osTrunc sz v)) ∧
      exec (.retIw sz n) s = .next ((s1.popped sz 1 n.toNat).returned (osTrunc sz v))) ∧
    (¬ fits s1 (osTrunc sz v) → exec (.ret sz) s = deliverFault (.gp 0#16) (rollback s s1) ∧
      exec (.retIw sz n) s = deliverFault (.gp 0#16) (rollback s s1)))

/-- R332, R334, R336, R338 in real and V86 mode: far JMP, CALL and RET load CS with base 16 times the selector; an offset past
the CS limit raises #GP(0), a fault. -/
def Obligations.RealFarTransfers : Prop :=
  let code := fun (s : State) (sel : Word16) => s.realSeg s.segs.cs sel
  (∀ (i : Instr) (s s1 : State) (sel : Word16) (off : Word), farJump i s s1 sel off → s1.realLike →
    (off ≤ s1.segs.cs.limit → exec i s = .next (s1.jumpedFar (code s1 sel) off)) ∧
    (s1.segs.cs.limit < off → exec i s = deliverFault (.gp 0#16) (rollback s s1))) ∧
  (∀ (i : Instr) (sz : OSize) (s s1 : State) (sel : Word16) (off : Word), farCall i sz s s1 sel off → s1.realLike →
    (s1.segs.cs.limit < off → exec i s = deliverFault (.gp 0#16) (rollback s s1)) ∧
    (off ≤ s1.segs.cs.limit → ∀ (s2 s3 : State) (pl : List (List PA)) (cs : Word),
      pushPlaces sz 1 [0#32, 0#32] s1 = .ok pl s2 → selItem sz s1.segs.cs.sel s2 = .ok cs s3 → s3.itemsOk pl →
      exec i s = .next ((s3.pushed sz pl [cs, s1.eip]).jumpedFar (code s1 sel) off))) ∧
  (∀ (sz : OSize) (n : Word16) (s s1 s2 : State) (off sel : Word), peekStack sz 0 s = .ok off s1 →
    peekStack sz 1 s1 = .ok sel s2 → s2.realLike →
    (off ≤ s2.segs.cs.limit →
      exec (.retf sz) s = .next ((s2.popped sz 2 0).returnedFar (code s2 (sel.setWidth 16)) off) ∧
      exec (.retfIw sz n) s = .next ((s2.popped sz 2 n.toNat).returnedFar (code s2 (sel.setWidth 16)) off)) ∧
    (s2.segs.cs.limit < off → exec (.retf sz) s = deliverFault (.gp 0#16) (rollback s s2) ∧
      exec (.retfIw sz n) s = deliverFault (.gp 0#16) (rollback s s2)))

/-- R332, R334, R336, R338: far JMP, CALL and RET in protected mode. JMP and CALL go to a present code segment, conforming of
the same or an inner level, or of the same level: CS takes the descriptor, with RPL = CPL, and the privilege level stays; CALL
pushes CS and EIP. Any other descriptor raises #GP with the selector, a null selector or an offset past the limit #GP(0), a
segment that is not present #NP; gates and task state segments are outside the spec (D21): refused. RET to the same level pops
CS and EIP, to an outer level also SS and ESP; an exception in the checks of its selectors is a fault. That a data segment register
made null by it keeps its base, limit and other rights is the model's reading (log 49); so is when the read of a descriptor
faults (log 68). -/
def Obligations.ProtectedFarJump : Prop :=
  (∀ (i : Instr) (s s1 : State) (sel : Word16) (off : Word),
    (farJump i s s1 sel off ∨ ∃ sz, farCall i sz s s1 sel off) → s1.realLike = false →
    (nullSel sel → exec i s = deliverFault (.gp 0#16) (rollback s s1)) ∧
    (nullSel sel = false → ∀ (a : Word) (d : BitVec 64) (s2 : State), readDesc sel (.gp (selCode sel)) s1 = .ok (a, d) s2 →
      let t := descAttr d
      let cs := Seg.ofDesc (selCode sel ||| s1.cpl.setWidth 16) d
      let allowed := t.conforming = true ∧ t.dpl ≤ s1.cpl ∨
        t.conforming = false ∧ rpl sel ≤ s1.cpl ∧ t.dpl = s1.cpl
      (t.code → ¬ allowed → exec i s = deliverFault (.gp (selCode sel)) (rollback s s2)) ∧
      (t.code → allowed → t.p = false → exec i s = deliverFault (.np (selCode sel)) (rollback s s2)) ∧
      (t.code → allowed → t.p → descLimit d < off → exec i s = deliverFault (.gp 0#16) (rollback s s2)) ∧
      (t.data → exec i s = deliverFault (.gp (selCode sel)) (rollback s s2)) ∧
      (t.dt = false →
        (t.typ ∈ [4#4, 0xC#4] → exec i s = .refused .callGate) ∧ (t.typ = 5#4 → exec i s = .refused .taskGate) ∧
        (t.typ ∈ [1#4, 3#4, 9#4, 0xB#4] → exec i s = .refused .taskSwitch) ∧
        (t.typ ∈ [0#4, 2#4, 6#4, 7#4, 8#4, 0xA#4, 0xD#4, 0xE#4, 0xF#4] →
          exec i s = deliverFault (.gp (selCode sel)) (rollback s s2))) ∧
      (t.code → allowed → t.p → off ≤ descLimit d →
        (farJump i s s1 sel off → ∀ s3 : State, markAccessed a d s2 = .ok () s3 →
          exec i s = .next (s3.jumpedFar cs off)) ∧
        (∀ (sz : OSize) (s3 s4 s5 : State) (pl : List (List PA)) (v : Word), farCall i sz s s1 sel off →
          pushPlaces sz 1 [0#32, 0#32] s2 = .ok pl s3 → selItem sz s2.segs.cs.sel s3 = .ok v s4 →
          markAccessed a d s4 = .ok () s5 → s5.itemsOk pl →
          exec i s = .next ((s5.pushed sz pl [v, s2.eip]).jumpedFar cs off))))) ∧
  (∀ (sz : OSize) (n : Word16) (i : Instr) (s s1 s2 : State) (off sel32 : Word),
    i = .retfIw sz n ∨ n = 0#16 ∧ i = .retf sz → peekStack sz 0 s = .ok off s1 → peekStack sz 1 s1 = .ok sel32 s2 →
    s2.realLike = false →
    let sel : Word16 := sel32.setWidth 16
    (∀ (x : Exc) (s3 : State), checkReturnSel sel off s2 = .error (.exc x) s3 →
      exec i s = deliverFault x (rollback s s3)) ∧
    ∀ (a : Word) (d : BitVec 64) (s3 : State), checkReturnSel sel off s2 = .ok (a, d) s3 →
    (rpl sel = s2.cpl → ∀ s4 : State, markAccessed a d s3 = .ok () s4 →
      exec i s = .next ((s4.popped sz 2 n.toNat).returnedFar (Seg.ofDesc sel d) off)) ∧
    (rpl sel ≠ s2.cpl → ∀ (s4 s5 : State) (sp ss : Nat),
      let b := osBytes sz
      let place := fun k : Nat => wrapSp s3.segs.ss (s3.stackPtr + BitVec.ofNat 32 (k * b + n.toNat))
      let ss16 := BitVec.ofNat 16 ss
      let checked := checkStackSel ss16 (rpl sel) (.gp 0#16) (.gp (selCode ss16)) (.ss (selCode ss16)) s5
      memRead .ss (place 2) b b s3 = .ok sp s4 → memRead .ss (place 3) b b s4 = .ok ss s5 →
      (∀ (x : Exc) (s6 : State), checked = .error (.exc x) s6 → exec i s = deliverFault x (rollback s s6)) ∧
      ∀ (sa : Word) (sd : BitVec 64) (s6 s7 s8 : State), checked = .ok (sa, sd) s6 →
        markAccessed a d s6 = .ok () s7 → markAccessed sa sd s7 = .ok () s8 →
        let g := Seg.ofDesc ss16 sd
        exec i s = .next (s8.outerReturned (Seg.ofDesc sel d) g (rpl sel) off
          (newEsp g s8.regs.esp (BitVec.ofNat 32 sp + BitVec.ofNat 32 n.toNat)))))

/-- R340 in real mode, and in V86 mode with IOPL = 3: IRET pops the offset, CS and the flags and ends the hold on NMI (R487). -/
def Obligations.RealIret : Prop :=
  ∀ (sz : OSize) (s s1 s2 s3 : State) (off sel fl : Word), s.realLike → (s.v86 = false ∨ s.flags.iopl = 3#2) →
    peekStack sz 0 s = .ok off s1 → peekStack sz 1 s1 = .ok sel s2 → peekStack sz 2 s2 = .ok fl s3 →
    (off ≤ s3.segs.cs.limit →
      exec (.iret sz) s = .next { (s3.popped sz 3 0).returnedFar (s3.realSeg s3.segs.cs (sel.setWidth 16)) off with
        flags := s3.writtenFlags fl sz true, nmiBlocked := false }) ∧
    (s3.segs.cs.limit < off → exec (.iret sz) s = deliverFault (.gp 0#16) (rollback s s3))

/-- R338, R340, R30 in protected mode: IRET to the same privilege level: CS comes from the descriptor, the flags from the image;
to an outer level also SS:ESP, and the data segment registers whose DPL the new level may not use become null; an exception in
the checks of its selectors is a fault, and which the check of the code segment raises is said last; from level 0
with VM = 1 in the image to V86 mode, with all six segment registers (their rights: log 50). With NT = 1 IRET is a task
switch, outside the spec (D21): refused. That a register made null keeps base and limit: log 49. -/
def Obligations.ProtectedIret : Prop :=
  (∀ (sz : OSize) (s s1 s2 s3 : State) (off sel32 fl : Word), s.realLike = false →
    s.flags.nt = false → peekStack sz 0 s = .ok off s1 → peekStack sz 1 s1 = .ok sel32 s2 →
    peekStack sz 2 s2 = .ok fl s3 → ¬ (sz = .w32 ∧ fl.getLsbD 17 = true ∧ s3.cpl = 0#2) →
    let sel : Word16 := sel32.setWidth 16
    (∀ (x : Exc) (s4 : State), checkReturnSel sel off s3 = .error (.exc x) s4 →
      exec (.iret sz) s = deliverFault x (rollback s s4)) ∧
    ∀ (a : Word) (d : BitVec 64) (s4 : State), checkReturnSel sel off s3 = .ok (a, d) s4 →
    (rpl sel = s3.cpl → ∀ s5 : State, markAccessed a d s4 = .ok () s5 →
      exec (.iret sz) s = .next { (s5.popped sz 3 0).returnedFar (Seg.ofDesc sel d) off with
        flags := s5.writtenFlags fl sz true, nmiBlocked := false }) ∧
    (rpl sel ≠ s3.cpl → ∀ (s5 s6 : State) (sp ss : Nat),
      let b := osBytes sz
      let place := fun k : Nat => wrapSp s4.segs.ss (s4.stackPtr + BitVec.ofNat 32 (k * b))
      let ss16 := BitVec.ofNat 16 ss
      let checked := checkStackSel ss16 (rpl sel) (.gp 0#16) (.gp (selCode ss16)) (.ss (selCode ss16)) s6
      memRead .ss (place 3) b b s4 = .ok sp s5 → memRead .ss (place 4) b b s5 = .ok ss s6 →
      (∀ (x : Exc) (s7 : State), checked = .error (.exc x) s7 → exec (.iret sz) s = deliverFault x (rollback s s7)) ∧
      ∀ (sa : Word) (sd : BitVec 64) (s7 s8 s9 : State), checked = .ok (sa, sd) s7 →
        markAccessed a d s7 = .ok () s8 → markAccessed sa sd s8 = .ok () s9 →
        exec (.iret sz) s = .next { s9.outerReturned (Seg.ofDesc sel d) (Seg.ofDesc ss16 sd) (rpl sel) off
          (BitVec.ofNat 32 sp) with flags := s9.writtenFlags fl sz true, nmiBlocked := false })) ∧
  (∀ (t : Nat → State) (v : Nat → Word), (t 0).realLike = false → (t 0).flags.nt = false →
    (∀ k, k < 9 → peekStack .w32 k (t k) = .ok (v k) (t (k + 1))) → (v 2).getLsbD 17 = true → (t 3).cpl = 0#2 →
    let n := Flags.ofWord (v 2)
    let g := fun k : Nat => Seg.v86Load ((v k).setWidth 16)
    exec (.iret .w32) (t 0) = .next { t 9 with
      flags := { n with vm := true, id := if (t 9).cfg.ccr4.getLsbD 7 then n.id else (t 9).flags.id }
      cpl := 3#2, segs := { cs := g 1, ss := g 4, es := g 5, ds := g 6, fs := g 7, gs := g 8 }
      eip := v 0 &&& 0xFFFF#32, regs := { (t 9).regs with esp := v 3 }, stale := [], nmiBlocked := false }) ∧
  (∀ (sz : OSize) (s : State), s.realLike = false → s.flags.nt = true → exec (.iret sz) s = .refused .taskSwitch) ∧
  (∀ sel : Word16, let g := Seg.v86Load sel
    g.sel = sel ∧ g.base = BitVec.ofNat 32 (16 * sel.toNat) ∧ g.limit = 0xFFFF#32 ∧ g.attr.dpl = 3#2 ∧ g.attr.writable) ∧
  (∀ (g : Seg) (lvl : BitVec 2), g.afterReturn lvl =
    if g.attr.p ∧ (g.attr.data ∨ g.attr.code ∧ g.attr.conforming = false) ∧ g.attr.dpl < lvl then
      { g with sel := 0#16, attr := { g.attr with p := false } }
    else g) ∧
  (∀ (sel : Word16) (off : Word) (s : State),
    (nullSel sel → checkReturnSel sel off s = .error (.exc (.gp 0#16)) s) ∧
    (nullSel sel = false → rpl sel < s.cpl → checkReturnSel sel off s = .error (.exc (.gp (selCode sel))) s) ∧
    (nullSel sel = false → s.cpl ≤ rpl sel → ∀ (x : Exc) (s1 : State),
      readDesc sel (.gp (selCode sel)) s = .error (.exc x) s1 → checkReturnSel sel off s = .error (.exc x) s1)) ∧
  (∀ (sel : Word16) (off a : Word) (d : BitVec 64) (s s1 : State), nullSel sel = false → s.cpl ≤ rpl sel →
    readDesc sel (.gp (selCode sel)) s = .ok (a, d) s1 →
    let t := descAttr d
    let good := t.code ∧ (t.conforming = true ∧ t.dpl ≤ rpl sel ∨ t.conforming = false ∧ t.dpl = rpl sel)
    (¬ good → checkReturnSel sel off s = .error (.exc (.gp (selCode sel))) s1) ∧
    (good → t.p = false → checkReturnSel sel off s = .error (.exc (.np (selCode sel))) s1) ∧
    (good → t.p → descLimit d < off → checkReturnSel sel off s = .error (.exc (.gp 0#16)) s1) ∧
    (good → t.p → off ≤ descLimit d → checkReturnSel sel off s = .ok (a, d) s1))

/-- R341, R342, R343, R501 in real mode with paging off: INT n, INT 3 and INTO with OF = 1 push FLAGS, CS and IP as words,
clear IF and TF and go to the far pointer in the interrupt table. -/
def Obligations.RealSoftwareInterrupt : Prop :=
  ∀ (s s1 : State) (v : Byte) (pl : List (List PA)), s.pe = false → s.pg = false → s.readOk →
    4 * v.toNat + 3 ≤ s.idtr.limit.toNat →
    let entry := s.bytesAt (paRange (s.idtr.base + BitVec.ofNat 32 (4 * v.toNat)) 4)
    let items := [s.flags.toWord, s.segs.cs.sel.setWidth 32, s.eip]
    pushPlaces .w16 1 items s = .ok pl s1 → s1.itemsOk pl →
    let off := leNat (entry.take 2)
    let sel := leNat (entry.drop 2)
    let t : State := { (s1.pushed .w16 pl items).returnedFar
      { s.segs.cs with sel := BitVec.ofNat 16 sel, base := BitVec.ofNat 32 (16 * sel) } (BitVec.ofNat 32 off) with
        flags := { s.flags with ifl := false, tf := false }, halted := false, shutdown := false }
    exec (.intN v) s = .next t ∧ (v = 3#8 → exec .int3 s = .next t) ∧
    (v = 4#8 → s.flags.ofl → exec .into s = .next t)

/-- R343, R344: INTO with OF = 0 does nothing; BOUND does nothing where the index is within the bounds, and raises #BR where
it is not. That the upper bound's offset wraps at 32 bits only is the model's reading (log 27). -/
def Obligations.IntoAndBound : Prop :=
  (∀ s : State, s.flags.ofl = false → exec .into s = .next s) ∧
  (∀ (sz : OSize) (r : Reg) (m : Mem) (s s1 s2 : State) (lo hi : Nat),
    let seg := s.dataSeg (defaultSeg m)
    let oa := effAddr s.regs m
    let n := osBytes sz
    memRead seg oa n n s = .ok lo s1 → memRead seg (oa + BitVec.ofNat 32 n) n n s1 = .ok hi s2 →
    let i := ((s2.regs.get r).setWidth (osBits sz)).toInt
    let inside := (BitVec.ofNat (osBits sz) lo).toInt ≤ i ∧ i ≤ (BitVec.ofNat (osBits sz) hi).toInt
    (inside → exec (.bound sz r m) s = .next s2) ∧
    (¬ inside → exec (.bound sz r m) s = deliverFault .br (rollback s s2)))

/-- R345 to R347: LOOP, LOOPE and LOOPNE decrement CX or ECX and branch while it is not 0 and ZF agrees; no flag changes. A
branch to beyond the CS limit raises #GP(0), a fault. Their encodings. -/
def Obligations.LoopForms : Prop :=
  (∀ (sz : OSize) (az : ASize) (d : Byte) (i : Instr) (cond : Bool) (s : State),
    (i, cond) ∈ [(Instr.loop sz az d, true), (.loope sz az d, s.flags.zf), (.loopne sz az d, !s.flags.zf)] →
    let c := asTrunc az (s.regs.ecx - 1#32)
    let s1 := s.counted az
    let x := osTrunc sz (s.eip + d.signExtend 32)
    ((c = 0#32 ∨ cond = false) → exec i s = .next s1) ∧
    (c ≠ 0#32 → cond = true → x ≤ s.segs.cs.limit → exec i s = .next { s1 with eip := x }) ∧
    (c ≠ 0#32 → cond = true → s.segs.cs.limit < x → exec i s = deliverFault (.gp 0#16) (rollback s s))) ∧
  (∀ (sz : OSize) (az : ASize) (d : Byte), encode (.loop sz az d) = [0xE2#8, d] ∧ encode (.loope sz az d) = [0xE1#8, d] ∧
    encode (.loopne sz az d) = [0xE0#8, d])

/-! ## I/O and strings -/

/-- R143, R381, R382, R530: IN and OUT of an external port. Where the access is permitted: one I/O cycle of the operand's size,
the value read in the low part of the accumulator, no flag changed; where it is not, the exception, a fault. In real mode, and
in protected mode with CPL at most IOPL, every access is permitted; else, with paging off here, the permission map of a 32-bit
TSS says so bit by bit. The platform's answers and the record of cycles are the model's (log 20). -/
def Obligations.InOutPorts : Prop :=
  ∀ (s : State),
    let dx : Word16 := s.regs.edx.setWidth 16
    (∀ (p : Byte) (s1 : State), let port : Word16 := p.setWidth 16
      ioPermit port 1 s = .ok () s1 → externalPort port 1 →
      exec (.inAlIb p) s = .next ((s1.portRead port 1 none).putReg8 .al ((s1.portValue port 1).setWidth 8)) ∧
      exec (.outIbAl p) s = .next (s1.portWritten port 1 ((s.regs.get8 .al).setWidth 32) none)) ∧
    (∀ (sz : OSize) (p : Byte) (s1 : State), let port : Word16 := p.setWidth 16
      let n := osBytes sz
      ioPermit port n s = .ok () s1 → externalPort port n →
      exec (.inAxIb sz p) s = .next ((s1.portRead port n none).putReg .eax ((s1.portValue port n).setWidth (osBits sz))) ∧
      exec (.outIbAx sz p) s = .next (s1.portWritten port n (osTrunc sz s.regs.eax) none)) ∧
    (∀ s1 : State, ioPermit dx 1 s = .ok () s1 → externalPort dx 1 →
      exec .inAlDx s = .next ((s1.portRead dx 1 none).putReg8 .al ((s1.portValue dx 1).setWidth 8)) ∧
      exec .outDxAl s = .next (s1.portWritten dx 1 ((s.regs.get8 .al).setWidth 32) none)) ∧
    (∀ (sz : OSize) (s1 : State), let n := osBytes sz
      ioPermit dx n s = .ok () s1 → externalPort dx n →
      exec (.inAxDx sz) s = .next ((s1.portRead dx n none).putReg .eax ((s1.portValue dx n).setWidth (osBits sz))) ∧
      exec (.outDxAx sz) s = .next (s1.portWritten dx n (osTrunc sz s.regs.eax) none)) ∧
    (∀ (sz : OSize) (p : Byte) (i : Instr) (port : Word16) (n : Nat) (x : Exc) (s1 : State),
      let port8 : Word16 := p.setWidth 16
      (i, port, n) ∈ [(Instr.inAlIb p, port8, 1), (.outIbAl p, port8, 1), (.inAxIb sz p, port8, osBytes sz),
        (.outIbAx sz p, port8, osBytes sz), (.inAlDx, dx, 1), (.outDxAl, dx, 1), (.inAxDx sz, dx, osBytes sz),
        (.outDxAx sz, dx, osBytes sz)] →
      ioPermit port n s = .error (.exc x) s1 → exec i s = deliverFault x (rollback s s1)) ∧
    (∀ (port : Word16) (n : Nat), (s.pe = false ∨ s.flags.vm = false ∧ s.cpl ≤ s.flags.iopl) →
      ioPermit port n s = .ok () s) ∧
    (∀ (port : Word16) (n : Nat), s.pe → (s.flags.vm = true ∨ s.flags.iopl < s.cpl) → s.pg = false → s.readOk →
      let mb := leNat (s.bytesAt (paRange (s.tr.base + 0x66#32) 2))
      let denied := s.tr.attr.typ = 1#4 ∨ s.tr.attr.typ = 3#4 ∨ s.tr.limit.toNat < 0x67 ∨
        s.tr.limit.toNat < mb + (port.toNat + n - 1) / 8 ∨
        ∃ j, j < n ∧
          (s.physByte (s.tr.base + BitVec.ofNat 32 (mb + (port.toNat + j) / 8))).getLsbD ((port.toNat + j) % 8) = true
      (denied → ioPermit port n s = .error (.exc (.gp 0#16)) s) ∧ (¬ denied → ioPermit port n s = .ok () s))

/-- R101, R103, R116, R560: the configuration registers. A byte written to port 22h that is an on-chip index selects a
register; the next byte transfer at port 23h reads or writes it and uses the selection up. Any other index, every read of port
22h and a transfer at port 23h without a selection are external cycles; word and doubleword accesses that touch these ports are
outside the spec (D5): refused. SMI_LOCK outside SMM freezes the SMM bits of CCR1; a write to ARR3 clears the valid bit of
SMHR. That a write stores reserved bits as well, and that the other bits of CCR1 still change under SMI_LOCK, is the model's
reading (log 47); the platform's answers: log 20. -/
def Obligations.ConfigPorts : Prop :=
  (∀ (s s1 : State) (i : Instr), byteOut i s 0x22#16 → ioPermit 0x22#16 1 s = .ok () s1 →
    let v := s.regs.get8 .al
    (s1.cfg.onChip v → exec i s =
      .next ({ s1 with cfg := { s1.cfg with index := v, indexValid := true } }.ioNoted true 0x22#16 1 (v.setWidth 32) none)) ∧
    (s1.cfg.onChip v = false → exec i s =
      .next ({ s1 with cfg := { s1.cfg with indexValid := false } }.portWritten 0x22#16 1 (v.setWidth 32) none))) ∧
  (∀ (s s1 : State) (i : Instr), byteIn i s 0x22#16 → ioPermit 0x22#16 1 s = .ok () s1 →
    exec i s = .next ((s1.portRead 0x22#16 1 none).putReg8 .al ((s1.portValue 0x22#16 1).setWidth 8))) ∧
  (∀ (s s1 : State) (i : Instr), byteOut i s 0x23#16 → ioPermit 0x23#16 1 s = .ok () s1 →
    let v := s.regs.get8 .al
    (s1.cfg.indexValid → let t := s1.cfgWrite s1.cfg.index v
      exec i s =
        .next ({ t with cfg := { t.cfg with indexValid := false } }.ioNoted true 0x23#16 1 (v.setWidth 32) none)) ∧
    (s1.cfg.indexValid = false → exec i s = .next (s1.portWritten 0x23#16 1 (v.setWidth 32) none))) ∧
  (∀ (s s1 : State) (i : Instr), byteIn i s 0x23#16 → ioPermit 0x23#16 1 s = .ok () s1 →
    (s1.cfg.indexValid → ∀ (b : Byte) (s2 : State), cfgRead s1.cfg.index s1 = .ok b s2 → exec i s =
      .next (({ s2 with cfg := { s2.cfg with indexValid := false } }.ioNoted false 0x23#16 1 (b.setWidth 32)
        none).putReg8 .al b)) ∧
    (s1.cfg.indexValid = false →
      exec i s = .next ((s1.portRead 0x23#16 1 none).putReg8 .al ((s1.portValue 0x23#16 1).setWidth 8)))) ∧
  (∀ (s s1 : State) (sz : OSize) (p : Byte), p.toNat ≤ 0x23 → 0x22 < p.toNat + osBytes sz →
    ioPermit (p.setWidth 16) (osBytes sz) s = .ok () s1 →
    exec (.inAxIb sz p) s = .refused .configPortWidth ∧ exec (.outIbAx sz p) s = .refused .configPortWidth) ∧
  (∀ (s : State) (v : Byte),
    (s.cfg.onChip v = true ↔ s.cfg.ccr3.toNat / 16 = 1 ∨ 0xC0 ≤ v.toNat ∧ v.toNat ≤ 0xCF ∨ 0xFC ≤ v.toNat) ∧
    cfgRead 0xC3#8 s = .ok s.cfg.ccr3 s ∧
    (s.cfgWrite 0xC2#8 v).cfg = { s.cfg with ccr2 := v } ∧
    (s.cfg.ccr3.getLsbD 0 = true → s.inSmm = false →
      (s.cfgWrite 0xC1#8 v).cfg = { s.cfg with ccr1 := (v &&& 0x79#8) ||| (s.cfg.ccr1 &&& 0x86#8) }) ∧
    (s.cfg.ccr3.getLsbD 0 = false →
      (s.cfgWrite 0xCF#8 v).smhr.getLsbD 0 = false ∧
      (s.cfgWrite 0xCF#8 v).cfg = { s.cfg with arr3 := s.cfg.arr3.extractLsb' 8 16 ++ v }))

/-- R383, R384, R386 to R388: one item of the string instructions without REP: the item moves and the index registers step by
its size, down with DF = 1; no flag changes. INS and OUTS first pass the I/O permission check (R530); bytes at ports 22h and 23h
reach the configuration registers as those of IN and OUT do (R101), wider items that touch these ports are refused (D5). The
platform's answers and the record of I/O cycles are the model's (log 20), and that a fault of the I/O map comes before one of the
item (log 68). -/
def Obligations.StringItems : Prop :=
  ∀ (az : ASize) (s s1 : State), s.cur.pfx.rep = false →
    let si := asTrunc az s.regs.esi
    let di := asTrunc az s.regs.edi
    let dx : Word16 := s.regs.edx.setWidth 16
    (∀ (i : Instr) (n : Nat) (pas : List PA), (i, n) ∈ [(Instr.stosb az, 1), (.stosv .w16 az, 2), (.stosv .w32 az, 4)] →
      segAccess .es di n .write n s = .ok pas s1 → s1.writeOk pas →
      exec i s = .next ((s1.storeBytes pas (bytesOf n s.regs.eax.toNat)).indexStepped az .edi n)) ∧
    (∀ (i : Instr) (n v : Nat) (s2 : State) (pas : List PA),
      (i, n) ∈ [(Instr.movsb az, 1), (.movsv .w16 az, 2), (.movsv .w32 az, 4)] →
      memRead (s.dataSeg .ds) si n n s = .ok v s1 → segAccess .es di n .write n s1 = .ok pas s2 → s2.writeOk pas →
      exec i s = .next (((s2.storeBytes pas (bytesOf n v)).indexStepped az .esi n).indexStepped az .edi n)) ∧
    (∀ (i : Instr) (n : Nat) (pas : List PA) (s0 : State),
      (i, n) ∈ [(Instr.insb az, 1), (.insv .w16 az, 2), (.insv .w32 az, 4)] →
      ioPermit dx n s = .ok () s0 → externalPort dx n → segAccess .es (asTrunc az s0.regs.edi) n .write n s0 = .ok pas s1 →
      s1.writeOk pas → exec i s =
        .next (((s1.portRead dx n (some s1.regs.edi)).storeBytes pas
          (bytesOf n (s1.portValue dx n).toNat)).indexStepped az .edi n)) ∧
    (∀ (i : Instr) (n v : Nat) (s0 : State), (i, n) ∈ [(Instr.outsb az, 1), (.outsv .w16 az, 2), (.outsv .w32 az, 4)] →
      ioPermit dx n s = .ok () s0 → externalPort dx n →
      memRead (s0.dataSeg .ds) (asTrunc az s0.regs.esi) n n s0 = .ok v s1 →
      exec i s = .next ((s1.portWritten dx n (BitVec.ofNat 32 v) (some s1.regs.esi)).indexStepped az .esi n)) ∧
    (∀ (i : Instr) (n : Nat) (x : Exc) (s0 : State),
      (i, n) ∈ [(Instr.insb az, 1), (.insv .w16 az, 2), (.insv .w32 az, 4), (.outsb az, 1), (.outsv .w16 az, 2),
        (.outsv .w32 az, 4)] →
      ioPermit dx n s = .error (.exc x) s0 → exec i s = deliverFault x (rollback s s0)) ∧
    (∀ (pas : List PA) (s0 : State), ioPermit dx 1 s = .ok () s0 →
      segAccess .es (asTrunc az s0.regs.edi) 1 .write 1 s0 = .ok pas s1 → s1.writeOk pas →
      let done := fun (t : State) (b : Byte) => Host.Outcome.next ((t.storeBytes pas [b]).indexStepped az .edi 1)
      let index := some s1.regs.edi
      (dx = 0x22#16 ∨ dx = 0x23#16 ∧ s1.cfg.indexValid = false → exec (.insb az) s =
        done (s1.portRead dx 1 index) ((s1.portValue dx 1).setWidth 8)) ∧
      (dx = 0x23#16 → s1.cfg.indexValid → ∀ (b : Byte) (s2 : State), cfgRead s1.cfg.index s1 = .ok b s2 →
        exec (.insb az) s =
          done ({ s2 with cfg := { s2.cfg with indexValid := false } }.ioNoted false dx 1 (b.setWidth 32) index) b)) ∧
    (∀ (v : Nat) (s0 : State), ioPermit dx 1 s = .ok () s0 →
      memRead (s0.dataSeg .ds) (asTrunc az s0.regs.esi) 1 1 s0 = .ok v s1 →
      let done := fun t : State => Host.Outcome.next (t.indexStepped az .esi 1)
      let b := BitVec.ofNat 8 v
      let x := BitVec.ofNat 32 v
      let index := some s1.regs.esi
      (dx = 0x22#16 → s1.cfg.onChip b → exec (.outsb az) s =
        done ({ s1 with cfg := { s1.cfg with index := b, indexValid := true } }.ioNoted true dx 1 x index)) ∧
      (dx = 0x22#16 → s1.cfg.onChip b = false → exec (.outsb az) s =
        done ({ s1 with cfg := { s1.cfg with indexValid := false } }.portWritten dx 1 x index)) ∧
      (dx = 0x23#16 → s1.cfg.indexValid → let t := s1.cfgWrite s1.cfg.index b
        exec (.outsb az) s = done ({ t with cfg := { t.cfg with indexValid := false } }.ioNoted true dx 1 x index)) ∧
      (dx = 0x23#16 → s1.cfg.indexValid = false → exec (.outsb az) s = done (s1.portWritten dx 1 x index))) ∧
    (∀ (sz : OSize) (s0 : State), dx.toNat ≤ 0x23 → 0x22 < dx.toNat + osBytes sz →
      ioPermit dx (osBytes sz) s = .ok () s0 →
      (∀ pas : List PA, segAccess .es (asTrunc az s0.regs.edi) (osBytes sz) .write (osBytes sz) s0 = .ok pas s1 →
        exec (.insv sz az) s = .refused .configPortWidth) ∧
      (∀ v : Nat, memRead (s0.dataSeg .ds) (asTrunc az s0.regs.esi) (osBytes sz) (osBytes sz) s0 = .ok v s1 →
        exec (.outsv sz az) s = .refused .configPortWidth))

/-- R390, R557: under REP a count of 0 does nothing, but that INS and OUTS are I/O instructions for the SMM header all the same;
else one item is done and the count goes down; while it is not 0 the next instruction is this one again. An exception in an
item is a fault of this iteration only. A step for each iteration is the model's reading (log 42). -/
def Obligations.RepStrings : Prop :=
  ∀ (sz : OSize) (az : ASize) (i : Instr) (item : Act Unit) (w : Option Bool) (s : State),
    (i, item, w) ∈ [(Instr.insb az, insItem az 1, some false), (.insv sz az, insItem az (osBytes sz), some false),
      (.outsb az, outsItem az 1, some true), (.outsv sz az, outsItem az (osBytes sz), some true),
      (.movsb az, movsItem az 1, none), (.movsv sz az, movsItem az (osBytes sz), none),
      (.stosb az, stosItem az 1, none), (.stosv sz az, stosItem az (osBytes sz), none)] →
    s.cur.pfx.rep = true →
    (asTrunc az s.regs.ecx = 0#32 → exec i s = .next (match w with
      | none => s
      | some write => { s with cur := { s.cur with io := some { write := write, rep := true, transfer := none } } })) ∧
    (asTrunc az s.regs.ecx ≠ 0#32 →
      (∀ t : State, item s = .ok () t →
        (asTrunc az (t.regs.ecx - 1#32) = 0#32 → exec i s = .next (t.counted az)) ∧
        (asTrunc az (t.regs.ecx - 1#32) ≠ 0#32 →
          exec i s = .next { t.counted az with eip := t.cur.ip, cur := { t.cur with repeating := true } })) ∧
      (∀ (x : Exc) (t : State), item s = .error (.exc x) t → exec i s = deliverFault x (rollback s t)))

/-! ## Floating point and MMX -/

/-- R400, R401, R402, R408: WAIT completes unless MP = TS = 1 (#NM) or an error is pending (#MF with NE = 1); an ESC
instruction that the source does not describe raises #NM with EM = 1 or TS = 1, is refused otherwise. Which of these are
non-waiting is PRESUMED (log 12). -/
def Obligations.WaitAndEsc : Prop :=
  ∀ (s : State),
    let nm := deliverFault .nm (rollback s s)
    let mf := deliverFault .mf (rollback s s)
    ((s.mp && s.ts) = false → s.fpu.es = false → exec .wait s = .next s) ∧
    ((s.mp && s.ts) = true → exec .wait s = nm) ∧
    ((s.mp && s.ts) = false → s.fpu.es → s.ne → exec .wait s = mf) ∧
    ((s.mp && s.ts) = false → s.fpu.es → s.ne = false → exec .wait s = .refused .fpuErrorExternal) ∧
    (∀ (op ext : Bits3) (rm : RMmm),
      ((s.em || s.ts) = true → exec (.esc op ext rm) s = nm) ∧
      ((s.em || s.ts) = false → (escNonWaiting op ext rm = true ∨ s.fpu.es = false) →
        exec (.esc op ext rm) s = .refused .escClass) ∧
      ((s.em || s.ts) = false → escNonWaiting op ext rm = false → s.fpu.es → s.ne → exec (.esc op ext rm) s = mf))

/-- R403 to R407: the state image. FNSAVE and FNSTENV write the environment (FNSAVE the data registers after it), then FNSAVE
initialises the unit and FNSTENV masks all exceptions; FSAVE and FSTENV are WAIT and then the same; FRSTOR loads the image. The
environment has four forms, by operand size and mode: what each holds of the pointers and the opcode, written and loaded.
The model's choices: FSAVE and FSTENV are one step (log 11); the initialisation clears the saved opcode too, the linear addresses
of the real-mode and V86 forms, ES after FRSTOR (log 33); ES stays after FNSTENV (log 67). -/
def Obligations.FpuImages : Prop :=
  (∀ (sz : OSize) (m : Mem) (s s1 s2 : State) (pas : List PA) (env : List Byte), (s.em || s.ts) = false →
    envBytes s.fpu (s.envForm sz) s1 = .ok env s2 → s2.writeOk pas →
    let after := fun (n : Nat) (bs : List Byte) (f : Fpu) (i j : Instr) =>
      locateMem m n 1 .write s = .ok pas s1 →
      exec i s = .next { s2.storeBytes pas bs with fpu := f } ∧
      (∀ t : State, s = { t with cur := { t.cur with ip := t.offAfter t.cur.ip 1 } } → (t.mp && t.ts) = false →
        t.fpu.es = false → t.quiet → exec j t = .next { s2.storeBytes pas bs with fpu := f })
    after (envLen sz + 80) (env ++ stackBytes s.fpu 0 8)
      { s.fpu with mcr := 0x37F#16, status := 0#16, tag := 0xFFFF#16, ipSel := 0#16, ipOff := 0#32, opSel := 0#16,
                   opOff := 0#32, opcode := 0#11 } (.fnsave sz m) (.fsave sz m) ∧
    after (envLen sz) env { s.fpu with mcr := s.fpu.mcr ||| 0x3F#16 } (.fnstenv sz m) (.fstenv sz m)) ∧
  (∀ (sz : OSize) (m : Mem) (s : State), (s.mp && s.ts) = false → s.fpu.es = false → s.quiet = false →
    exec (.fsave sz m) s = .next { s with eip := s.offAfter s.cur.ip 1 } ∧
    exec (.fstenv sz m) s = .next { s with eip := s.offAfter s.cur.ip 1 }) ∧
  (∀ (f : Fpu) (sz : OSize) (s t u : State) (env : List Byte), envBytes f (s.envForm sz) t = .ok env u →
    env.length = envLen sz ∧ imgWord env 0 = f.mcr ∧ imgWord env (osBytes sz) = f.status ∧
    imgWord env (2 * osBytes sz) = f.tag ∧ envPointers sz s.realLike env f) ∧
  (∀ (sz : OSize) (m : Mem) (s s1 : State) (pas : List PA), (s.em || s.ts) = false →
    locateMem m (envLen sz + 80) 1 .read s = .ok pas s1 → s1.readOk →
    let bs := s1.bytesAt (addrs pas)
    ∃ t : State, exec (.frstor sz m) s = .next t ∧ t = { s1 with fpu := t.fpu, freeCtr := t.freeCtr } ∧
      t.fpu.mcr = imgWord bs 0 ∧ t.fpu.tag = imgWord bs (2 * osBytes sz) ∧
      t.fpu.status = statusLoaded (imgWord bs 0) (imgWord bs (osBytes sz)) ∧ envPointers sz s.realLike bs t.fpu ∧
      ∀ k, k < 8 → t.fpu.phys ((t.fpu.top + k) % 8) = BitVec.ofNat 80 (leNat ((bs.drop (envLen sz + 10 * k)).take 10)))

/-- R412 to R415, R57: MMX moves with EM = TS = 0 and no error pending: the result, bits 79:64 of a written register ones,
top of stack 0, all tags valid (EMMS: empty). With EM = 1 #UD, else with TS = 1 #NM. -/
def Obligations.MmxMoves : Prop :=
  (∀ (s : State), s.em = false → s.ts = false → s.fpu.es = false →
    let put := fun (t : State) (r : MmReg) (v : BitVec 64) =>
      ({ t with fpu := t.fpu.setPhys (mmNum r) (0xFFFF#16 ++ v) } : State).mmxAfter 0#16
    exec .emms s = .next (s.mmxAfter 0xFFFF#16) ∧
    (∀ (d : MmReg) (e : RMv) (s1 : State) (v : Word), readRM32 e s = .ok v s1 →
      exec (.movdPE d e) s = .next (put s1 d (0#32 ++ v))) ∧
    (∀ (e : RMv) (r : MmReg) (s1 : State) (p : Place), locateN 4 e .write s = .ok p s1 → s1.placeWritable p →
      exec (.movdEP e r) s = .next ((s1.putPlace p ((s1.fpu.mm r).extractLsb' 0 32)).mmxAfter 0#16)) ∧
    (∀ (d r : MmReg), exec (.movqPQ d (.reg r)) s = .next (put s d (s.fpu.mm r)) ∧
      exec (.movqQP (.reg d) r) s = .next (put s d (s.fpu.mm r))) ∧
    (∀ (d : MmReg) (m : Mem) (s1 : State) (pas : List PA), locateMem m 8 8 .read s = .ok pas s1 → s1.readOk →
      exec (.movqPQ d (.mem m)) s = .next (put s1 d (s1.placeValue 64 (.mem pas)))) ∧
    (∀ (r : MmReg) (m : Mem) (s1 : State) (pas : List PA), locateMem m 8 8 .write s = .ok pas s1 → s1.writeOk pas →
      exec (.movqQP (.mem m) r) s = .next ((s1.putPlace (.mem pas) (s.fpu.mm r)).mmxAfter 0#16))) ∧
  (∀ (s : State) (i : Instr) (d : MmReg) (e : RMv) (x : RMmm),
    i ∈ [Instr.emms, .movdPE d e, .movdEP e d, .movqPQ d x, .movqQP x d] →
    (s.em → exec i s = deliverFault .ud (rollback s s)) ∧
    (s.em = false → s.ts → exec i s = deliverFault .nm (rollback s s)))

/-! ## System instructions -/

/-- R421 to R423, R434: LGDT and LIDT load limit and base, 24 bits of it with 16-bit operands; SGDT and SIDT store them, the
last byte undefined with 16-bit operands. That the offset of the second part wraps at 32 bits only is the model's reading
(log 27). -/
def Obligations.TableRegisters : Prop :=
  ∀ (sz : OSize) (m : Mem) (s s1 s2 : State),
    let seg := s.dataSeg (defaultSeg m)
    let oa := effAddr s.regs m
    (∀ lim b : Nat, s.unprivileged = false → memRead seg oa 2 2 s = .ok lim s1 →
      memRead seg (oa + 2#32) 4 4 s1 = .ok b s2 →
      let t : TableReg := { limit := BitVec.ofNat 16 lim, base := BitVec.ofNat 32 (if sz = .w32 then b else b % 2 ^ 24) }
      exec (.lgdt sz m) s = .next { s2 with gdtr := t } ∧ exec (.lidt sz m) s = .next { s2 with idtr := t }) ∧
    (∀ (i : Instr) (t : TableReg) (p1 p2 : List PA), (i, t) ∈ [(Instr.sgdt sz m, s.gdtr), (.sidt sz m, s.idtr)] →
      segAccess seg oa 2 .write 2 s = .ok p1 s1 → segAccess seg (oa + 2#32) 4 .write 4 s1 = .ok p2 s2 →
      s2.writeOk p1 → s2.writeOk p2 →
      let free : Byte := (Config.freeWord s2.freeCtr).setWidth 8
      exec i s = .next (match sz with
        | .w32 => (s2.storeBytes p1 (bytesOf 2 t.limit.toNat)).storeBytes p2 (bytesOf 4 t.base.toNat)
        | .w16 => ({ s2 with freeCtr := s2.freeCtr + 1 }.storeBytes p1 (bytesOf 2 t.limit.toNat)).storeBytes p2
            (bytesOf 4 (free ++ t.base.extractLsb' 0 24).toNat)))

/-- R424 to R427: LLDT, SLDT, LTR and STR: in protected mode they load and store LDTR and TR, LTR marks the TSS busy; in real
and V86 mode they raise #UD. LLDT and LTR raise #GP with the selector where it names the LDT, lies outside the GDT or names a
descriptor of another type, LTR where it is null; #NP where the descriptor is not present. A null LLDT
marks LDTR invalid; while it is, every selector of the LDT faults. That LDTR keeps base and limit and loses P then is the
model's choice (log 44). -/
def Obligations.LdtrAndTr : Prop :=
  (∀ (s : State) (sz : OSize) (d e : RMv), s.realLike →
    ∀ i ∈ [Instr.lldt e, .ltr e, .sldt sz d, .str sz d], exec i s = deliverFault .ud (rollback s s)) ∧
  (∀ (s : State), s.realLike = false →
    (∀ (i : OSize → RMv → Instr) (sel : Word16), (i, sel) ∈ [(Instr.sldt, s.ldtr.sel), (.str, s.tr.sel)] →
      (∀ r : Reg, exec (i .w16 (.reg r)) s = .next (s.putReg r sel) ∧
        exec (i .w32 (.reg r)) s = .next ({ s with freeCtr := s.freeCtr + 1 }.putReg r
          ((Config.freeWord s.freeCtr).setWidth 16 ++ sel))) ∧
      (∀ (sz : OSize) (m : Mem) (s1 : State) (pas : List PA), locateMem m 2 2 .write s = .ok pas s1 → s1.writeOk pas →
        exec (i sz (.mem m)) s = .next (s1.putPlace (.mem pas) sel))) ∧
    (∀ (e : RMv) (sel : Word16) (s1 : State), s.unprivileged = false → readRM16 e s = .ok sel s1 →
      let gp := fun t : State => deliverFault (.gp (selCode sel)) (rollback s t)
      (nullSel sel → exec (.lldt e) s =
          .next { s1 with
            ldtr := { s1.ldtr with sel := sel, attr := { s1.ldtr.attr with p := false } }
            ldtrInvalid := true } ∧
        exec (.ltr e) s = gp s1) ∧
      (nullSel sel = false → (sel.getLsbD 2 = true ∨ s1.gdtr.limit.toNat < sel.toNat / 8 * 8 + 7) →
        exec (.lldt e) s = gp s1 ∧ exec (.ltr e) s = gp s1) ∧
      (∀ (x : Exc) (s2 : State), nullSel sel = false → sel.getLsbD 2 = false →
        readDesc sel (.gp (selCode sel)) s1 = .error (.exc x) s2 →
        exec (.lldt e) s = deliverFault x (rollback s s2) ∧ exec (.ltr e) s = deliverFault x (rollback s s2)) ∧
      (∀ (a : Word) (d : BitVec 64) (s2 : State), nullSel sel = false → sel.getLsbD 2 = false →
        readDesc sel (.gp (selCode sel)) s1 = .ok (a, d) s2 →
        let t := descAttr d
        let np := deliverFault (.np (selCode sel)) (rollback s s2)
        let ldt := t.dt = false ∧ t.typ = 2#4
        let tss := t.dt = false ∧ (t.typ = 1#4 ∨ t.typ = 9#4)
        (¬ ldt → exec (.lldt e) s = gp s2) ∧ (ldt → t.p = false → exec (.lldt e) s = np) ∧
        (¬ tss → exec (.ltr e) s = gp s2) ∧ (tss → t.p = false → exec (.ltr e) s = np)) ∧
      (∀ (a : Word) (d : BitVec 64) (s2 : State), nullSel sel = false → sel.getLsbD 2 = false →
        readDesc sel (.gp (selCode sel)) s1 = .ok (a, d) s2 → (descAttr d).dt = false → (descAttr d).p →
        ((descAttr d).typ = 2#4 → exec (.lldt e) s = .next { s2 with ldtr := Seg.ofDesc sel d, ldtrInvalid := false }) ∧
        (((descAttr d).typ = 1#4 ∨ (descAttr d).typ = 9#4) →
          let busy := d ||| (1#64 <<< 41)
          ∀ s3 : State, linWrite (a + 5#32) 1 (busy.extractLsb' 40 8).toNat s2 = .ok () s3 →
            exec (.ltr e) s = .next { s3 with tr := Seg.ofDesc sel busy })))) ∧
  (∀ (s : State) (sel : Word16) (bad : Exc), s.ldtrInvalid → sel.getLsbD 2 → readDesc sel bad s = .error (.exc bad) s)

/-- R428, R36 to R41, R222, R651: moves to and from the control registers at level 0: the value, the TLB flushes they bring,
the six arithmetic flags undefined; PG without PE raises #GP(0), a register that does not exist #UD, a reserved bit is
refused. With CCR2.LOCK_NW = 1 a move to CR0 keeps NW and writes every other bit, without an exception (R112, R37; log 45).
That a flushed L1 or L2 entry loses V alone is the model's choice (log 65). -/
def Obligations.ControlRegisters : Prop :=
  ∀ (s : State) (r : Reg), s.unprivileged = false →
    let v := s.regs.get r
    let into := fun x : Word => Host.Outcome.next ({ s with regs := s.regs.set r x }.withFreeFlags)
    exec (.movRCr r 0#3) s = into s.cr0 ∧ exec (.movRCr r 2#3) s = into s.cr2 ∧ exec (.movRCr r 3#3) s = into s.cr3 ∧
    exec (.movRCr r 4#3) s = into s.cr4 ∧
    exec (.movCrR 2#3 r) s = .next ({ s with cr2 := v }.withFreeFlags) ∧
    exec (.movCrR 3#3 r) s = .next ({ s with cr3 := v, tlb := s.tlb.flushCr3 s.pge }.withFreeFlags) ∧
    (v &&& ~~~0x18C#32 = 0#32 → exec (.movCrR 4#3 r) s =
      .next ({ s with cr4 := v, tlb := if v.getLsbD 7 = s.cr4.getLsbD 7 then s.tlb else s.tlb.flushAll }.withFreeFlags)) ∧
    (v &&& ~~~0x18C#32 ≠ 0#32 → exec (.movCrR 4#3 r) s = .refused .reservedControlBits) ∧
    (v &&& ~~~0xE005003F#32 = 0#32 → v.getLsbD 4 = true →
      (v.getLsbD 31 = true → v.getLsbD 0 = false → exec (.movCrR 0#3 r) s = deliverFault (.gp 0#16) (rollback s s)) ∧
      ((v.getLsbD 31 = true → v.getLsbD 0 = true) → exec (.movCrR 0#3 r) s =
        .next ({ s with
          cr0 := if s.cfg.ccr2.getLsbD 2 then (v &&& 0xDFFFFFFF#32) ||| (s.cr0 &&& 0x20000000#32) else v
          tlb := if v.getLsbD 31 = s.pg ∧ v.getLsbD 0 = s.pe then s.tlb else s.tlb.flushAll
          branchDue := v.getLsbD 31 != s.pg }.withFreeFlags))) ∧
    (v &&& ~~~0xE005003F#32 ≠ 0#32 ∨ v.getLsbD 4 = false → exec (.movCrR 0#3 r) s = .refused .reservedControlBits) ∧
    (∀ n ∈ [1#3, 5#3, 6#3, 7#3], exec (.movRCr r n) s = deliverFault .ud (rollback s s) ∧
      exec (.movCrR n r) s = deliverFault .ud (rollback s s))

/-- R429, R430, R45 to R48, R595, R176 to R181, R225 to R227: moves to and from the debug and test registers at level 0, the six
arithmetic flags undefined afterwards. DR7.GD = 1 raises the debug exception as a fault; DR4 and DR5 are refused; TR0 to TR2
raise #UD. A write of TR5 starts a cache operation: CTL = 01 puts TR3, tag, SMM bit, MRU and the MESI code of the addressed
sector in the line that TR4 and TR5 select, CTL = 10 reads them, CTL = 00 writes modified sectors back to the memory they belong
to and leaves them shared; a write of TR6 writes or reads a TLB entry. A line that no command has written is in one of the four
states of R171. DR6 and DR7 store every bit, those without a name too (U8, log 55). The model's choices: the fixed bits of TR6
(log 39); that the write of a TLB entry takes PG (log 52); a read of the L1 TLB loads the entry without a hit too (log 53);
sectors (log 54); the bits of TR5 that the source does not describe (log 38); the set that TR7.SET = 6 or 7 accesses is open
(log 61); a second valid copy that is not locked is refused as a synonym too (log 62); locking all sets
is locking one line index in all four (log 66); a line that no command has written is invalid while nothing can have been cached
(log 38); the fault under DR7.GD records execution conditions (log 69). -/
def Obligations.DebugAndTestRegisters : Prop :=
  ∀ (s : State) (r : Reg), s.unprivileged = false →
    let v := s.regs.get r
    let into := fun x : Word => Host.Outcome.next ({ s with regs := s.regs.set r x }.withFreeFlags)
    let dr := fun d : DebugRegs => Host.Outcome.next ({ s with dr := d }.withFreeFlags)
    let tr := fun t : TestRegs => Host.Outcome.next ({ s with test := t }.withFreeFlags)
    (s.dr.dr7.getLsbD 13 = false →
      exec (.movRDr r 0#3) s = into s.dr.dr0 ∧ exec (.movRDr r 1#3) s = into s.dr.dr1 ∧
      exec (.movRDr r 2#3) s = into s.dr.dr2 ∧ exec (.movRDr r 3#3) s = into s.dr.dr3 ∧
      exec (.movRDr r 6#3) s = into s.dr.dr6 ∧ exec (.movRDr r 7#3) s = into s.dr.dr7 ∧
      exec (.movDrR 0#3 r) s = dr { s.dr with dr0 := v } ∧ exec (.movDrR 1#3 r) s = dr { s.dr with dr1 := v } ∧
      exec (.movDrR 2#3 r) s = dr { s.dr with dr2 := v } ∧ exec (.movDrR 3#3 r) s = dr { s.dr with dr3 := v } ∧
      exec (.movDrR 6#3 r) s = dr { s.dr with dr6 := v } ∧ exec (.movDrR 7#3 r) s = dr { s.dr with dr7 := v }) ∧
    (s.dr.dr7.getLsbD 13 = true → ∀ n ∈ [0#3, 1#3, 2#3, 3#3, 6#3, 7#3],
      exec (.movRDr r n) s = deliverFault ⟨1#8, none⟩ (rollback s s) ∧
      exec (.movDrR n r) s = deliverFault ⟨1#8, none⟩ (rollback s s)) ∧
    (∀ n ∈ [4#3, 5#3], exec (.movRDr r n) s = .refused .debugRegister45 ∧
      exec (.movDrR n r) s = .refused .debugRegister45) ∧
    exec (.movRTr r 3#3) s = into s.test.tr3 ∧ exec (.movRTr r 4#3) s = into s.test.tr4 ∧
    exec (.movRTr r 5#3) s = into s.test.tr5 ∧ exec (.movRTr r 6#3) s = into s.test.tr6 ∧
    exec (.movRTr r 7#3) s = into s.test.tr7 ∧
    exec (.movTrR 3#3 r) s = tr { s.test with tr3 := v } ∧ exec (.movTrR 4#3 r) s = tr { s.test with tr4 := v } ∧
    exec (.movTrR 7#3 r) s = tr { s.test with tr7 := v } ∧
    (v.extractLsb' 0 2 = 3#2 → exec (.movTrR 5#3 r) s = tr { s.test with tr5 := v }) ∧
    (∀ n ∈ [0#3, 1#3, 2#3], exec (.movRTr r n) s = deliverFault .ud (rollback s s) ∧
      exec (.movTrR n r) s = deliverFault .ud (rollback s s)) ∧
    (let s5 : State := { s with test := { s.test with tr5 := v } }
     let tr4 := s.test.tr4
     let key := 512 * (v.extractLsb' 4 2).toNat + (tr4.extractLsb' 5 9).toNat
     let entry := (tr4.extractLsb' 2 3).toNat
     let mesi := v.extractLsb' 16 4
     (v.extractLsb' 0 2 = 1#2 → mesi ∉ [3#4, 7#4, 8#4, 9#4, 0xA#4, 0xC#4] →
       exec (.movTrR 5#3 r) s = .refused .undefinedMesi) ∧
     (v.extractLsb' 0 2 = 1#2 → ∀ (l : CacheLine) (t : State), lineOf key s5 = .ok l t →
       ∀ new : CacheLine, new.tag = tr4.extractLsb' 14 18 → new.smi = v.getLsbD 23 → new.mru = v.extractLsb' 8 4 →
         new.data = l.data.set entry s.test.tr3 → new.mesi tr4 = mesi →
         new.mesi (tr4 ^^^ 0x10#32) = (if mesi ∈ [7#4, 0xC#4] ∨ l.mesi0 ∈ [7#4, 0xC#4] ∨ l.mesi1 ∈ [7#4, 0xC#4] then mesi
           else l.mesi (tr4 ^^^ 0x10#32)) →
         mesi ∈ [3#4, 7#4, 8#4, 9#4, 0xA#4, 0xC#4] →
         (s.cache.synonym key new → exec (.movTrR 5#3 r) s = .refused .cacheSynonym) ∧
         (s.cache.synonym key new = false → mesi ∈ [7#4, 0xC#4] → 3 ≤ s.cache.otherLocked key →
           exec (.movTrR 5#3 r) s = .refused .allSetsLocked) ∧
         (s.cache.synonym key new = false → (mesi ∈ [7#4, 0xC#4] → s.cache.otherLocked key < 3) →
           exec (.movTrR 5#3 r) s =
             .next ({ t with cache := { s.cache with lines := putKey s.cache.lines key new } }.withFreeFlags))) ∧
     (v.extractLsb' 0 2 = 2#2 → ∀ e : Nat × CacheLine, s.cache.lines.find? (fun e => e.1 == key) = some e →
       ∃ w : Word, exec (.movTrR 5#3 r) s = .next ({ s with
           test := { s.test with tr5 := w, tr3 := e.2.data.getD entry 0#32 }, freeCtr := s.freeCtr + 1 }.withFreeFlags) ∧
         w.extractLsb' 16 4 = e.2.mesi tr4 ∧ w.extractLsb' 8 4 = e.2.mru ∧ w.getLsbD 23 = e.2.smi ∧
         w.extractLsb' 4 2 = v.extractLsb' 4 2 ∧ w.extractLsb' 0 2 = 2#2) ∧
     (v.extractLsb' 0 2 = 2#2 → (∀ e ∈ s.cache.lines, e.1 ≠ key) →
       ∃ (w d : Word) (k : Nat), exec (.movTrR 5#3 r) s =
           .next ({ s with test := { s.test with tr5 := w, tr3 := d }, freeCtr := k }.withFreeFlags) ∧
         w.extractLsb' 16 4 ∈ [3#4, 8#4, 9#4, 0xA#4] ∧
         (s.cache.used = false → s.cr0.getLsbD 30 = true → w.extractLsb' 16 4 = 3#4) ∧
         (s.cache.dirty = false → w.extractLsb' 16 4 ≠ 8#4) ∧
         w.extractLsb' 4 2 = v.extractLsb' 4 2 ∧ w.extractLsb' 0 2 = 2#2) ∧
     (v.extractLsb' 0 2 = 0#2 →
       let w := s5.writeBackAll s.cache.lines
       let holds := fun (e : Nat × CacheLine) (smi : Bool) (a : Word) =>
         e ∈ s.cache.lines ∧ e.2.smi = smi ∧ e.2.tag = a.extractLsb' 14 18 ∧ e.1 % 512 = (a.extractLsb' 5 9).toNat ∧
         e.2.mesi a = 8#4
       exec (.movTrR 5#3 r) s = .next ({ w with cache :=
         { s.cache with
           dirty := false
           lines := s.cache.lines.map (fun e : Nat × CacheLine => (e.1, { e.2 with
             mesi0 := if e.2.mesi0 = 8#4 then 9#4 else e.2.mesi0
             mesi1 := if e.2.mesi1 = 8#4 then 9#4 else e.2.mesi1 })) } }.withFreeFlags) ∧
       w = { s5 with mem := w.mem, smm := w.smm } ∧
       (s.memoryOk → s.cacheOk → ∀ a : Word,
         (∀ e, holds e false a → s.part.ram a → w.mem.read a.toNat = e.2.byte a) ∧
         ((∀ e, holds e false a → s.part.ram a = false) → w.mem.read a.toNat = s.mem.read a.toNat) ∧
         (∀ e, holds e true a → w.smm.read a.toNat = e.2.byte a) ∧
         ((∀ e, ¬ holds e true a) → w.smm.read a.toNat = s.smm.read a.toNat)))) ∧
    (let v6 := v &&& 0xFFFFFF57#32
     let s6 : State := { s with test := { s.test with tr6 := v6 } }
     let tr7 := s.test.tr7
     let set := (tr7.extractLsb' 7 3).toNat
     let line1 := (v6.extractLsb' 12 4).toNat
     let line2 := (v6.extractLsb' 12 6).toNat
     let entry : TlbEntry :=
       { lin := v6.extractLsb' 12 20, phys := tr7.extractLsb' 12 20, v := v6.getLsbD 11
         d := v6.getLsbD 10, g := v6.getLsbD 9, u := v6.getLsbD 8, w := v6.getLsbD 6, a := v6.getLsbD 4
         pcd := tr7.getLsbD 11, pwt := tr7.getLsbD 10 }
     let shows := fun (t : State) (e : TlbEntry) =>
       t.test.tr6.extractLsb' 12 20 = e.lin ∧ t.test.tr6.getLsbD 11 = e.v ∧ t.test.tr6.getLsbD 10 = e.d ∧
       t.test.tr6.getLsbD 9 = e.g ∧ t.test.tr6.getLsbD 8 = e.u ∧ t.test.tr6.getLsbD 6 = e.w ∧
       t.test.tr6.getLsbD 4 = e.a ∧ t.test.tr6.extractLsb' 0 3 = v.extractLsb' 0 3 ∧
       t.test.tr7.extractLsb' 12 20 = e.phys ∧ t.test.tr7.getLsbD 11 = e.pcd ∧ t.test.tr7.getLsbD 10 = e.pwt
     let only := fun t : State => t = { s with
       test := { s.test with tr6 := t.test.tr6, tr7 := t.test.tr7 }, freeCtr := t.freeCtr, flags := t.flags }
     (v.extractLsb' 0 3 = 0#3 → exec (.movTrR 6#3 r) s =
       .next ({ s6 with tlb := { s.tlb with l1 := putKey s.tlb.l1 line1 entry } }.withFreeFlags)) ∧
     (v.extractLsb' 0 3 = 1#3 → set ≤ 5 → exec (.movTrR 6#3 r) s =
       .next ({ s6 with tlb := { s.tlb with l2 := putKey s.tlb.l2 (6 * line2 + set) entry } }.withFreeFlags)) ∧
     (v.extractLsb' 0 3 = 1#3 → 5 < set → ∃ k, k < 6 ∧ exec (.movTrR 6#3 r) s =
       .next ({ s6 with tlb := { s.tlb with l2 := putKey s.tlb.l2 (6 * line2 + k) entry }
                        freeCtr := s.freeCtr + 1 }.withFreeFlags)) ∧
     (v.extractLsb' 0 3 ∈ [4#3, 5#3] → exec (.movTrR 6#3 r) s = .refused .undefinedTlbCommand) ∧
     (v.extractLsb' 0 3 ∈ [2#3, 3#3, 6#3, 7#3] →
       ∃ (x y : Word) (k : Nat), exec (.movTrR 6#3 r) s =
         .next ({ s with test := { s.test with tr6 := x, tr7 := y }, freeCtr := k }.withFreeFlags)) ∧
     (v.extractLsb' 0 3 ∈ [2#3, 6#3] → ∀ e : Nat × TlbEntry, s.tlb.l1.find? (fun e => e.1 == line1) = some e →
       ∃ t : State, exec (.movTrR 6#3 r) s = .next t ∧ only t ∧ shows t e.2 ∧
         t.test.tr7.getLsbD 5 = (e.2.v && decide (e.2.lin = v.extractLsb' 12 20))) ∧
     (v.extractLsb' 0 3 ∈ [3#3, 7#3] → ∃ k, k < 6 ∧ (set ≤ 5 → k = set) ∧ ∀ e : Nat × TlbEntry,
       s.tlb.l2.find? (fun e => e.1 == 6 * line2 + k) = some e →
       (∀ j, j < 6 →
         ((∃ x ∈ s.tlb.l2, x.1 = 6 * line2 + j ∧ x.2.v = true ∧ x.2.lin = v.extractLsb' 12 20) ↔ j = k)) →
       ∃ t : State, exec (.movTrR 6#3 r) s = .next t ∧ only t ∧ shows t e.2 ∧ t.test.tr7.getLsbD 4 = true ∧
         (t.test.tr7.extractLsb' 0 3).toNat = k))

/-- R435 to R439: RDTSC, RDPMC, RDMSR and WRMSR move the counters and model specific registers through EDX:EAX; an index that
names no register raises #GP(0). -/
def Obligations.CountersAndMsrs : Prop :=
  ∀ (s : State),
    let put := fun (t : State) (hi lo : Word) => Host.Outcome.next { t with regs := { t.regs with edx := hi, eax := lo } }
    let gp := deliverFault (.gp 0#16) (rollback s s)
    let c := s.regs.ecx
    let hi := s.regs.edx
    let lo := s.regs.eax
    ((s.cr4.getLsbD 2 = false ∨ s.unprivileged = false) →
      exec .rdtsc s = put s (s.tsc.extractLsb' 32 32) (s.tsc.extractLsb' 0 32)) ∧
    (s.cr4.getLsbD 2 = true → s.unprivileged → exec .rdtsc s = gp) ∧
    ((s.cr4.getLsbD 8 = true ∨ s.unprivileged = false) →
      (c = 0#32 → exec .rdpmc s = put s (0#16 ++ s.pmc0.extractLsb' 32 16) (s.pmc0.extractLsb' 0 32)) ∧
      (c = 1#32 → exec .rdpmc s = put s (0#16 ++ s.pmc1.extractLsb' 32 16) (s.pmc1.extractLsb' 0 32)) ∧
      (1#32 < c → exec .rdpmc s = gp)) ∧
    (s.cr4.getLsbD 8 = false → s.unprivileged → exec .rdpmc s = gp) ∧
    (s.unprivileged = false →
      let free := Config.freeWord s.freeCtr
      let s' := { s with freeCtr := s.freeCtr + 1 }
      (c = 3#32 → exec .rdmsr s = put s' free s.test.tr3 ∧
        exec .wrmsr s = .next { s with test := { s.test with tr3 := lo } }) ∧
      (c = 4#32 → exec .rdmsr s = put s' free s.test.tr4 ∧
        exec .wrmsr s = .next { s with test := { s.test with tr4 := lo } }) ∧
      (c = 5#32 → exec .rdmsr s = put s' free s.test.tr5 ∧
        ∀ t, cacheTest { s with test := { s.test with tr5 := lo } } = .ok () t → exec .wrmsr s = .next t) ∧
      (c = 0x10#32 → exec .rdmsr s = put s (s.tsc.extractLsb' 32 32) (s.tsc.extractLsb' 0 32) ∧
        exec .wrmsr s = .next { s with tsc := hi ++ lo }) ∧
      (c = 0x11#32 → exec .rdmsr s = put s (s.cesr.extractLsb' 32 32) (s.cesr.extractLsb' 0 32) ∧
        exec .wrmsr s = .next { s with cesr := hi ++ lo }) ∧
      (c = 0x12#32 →
        exec .rdmsr s = put s' (free.extractLsb' 0 16 ++ s.pmc0.extractLsb' 32 16) (s.pmc0.extractLsb' 0 32) ∧
        exec .wrmsr s = .next { s with pmc0 := hi.extractLsb' 0 16 ++ lo }) ∧
      (c = 0x13#32 →
        exec .rdmsr s = put s' (free.extractLsb' 0 16 ++ s.pmc1.extractLsb' 32 16) (s.pmc1.extractLsb' 0 32) ∧
        exec .wrmsr s = .next { s with pmc1 := hi.extractLsb' 0 16 ++ lo }) ∧
      ((c < 3#32 ∨ 5#32 < c ∧ c < 0x10#32 ∨ 0x13#32 < c) → exec .rdmsr s = gp ∧ exec .wrmsr s = gp))

/-- R431 to R433, R440 to R443: INVLPG drops the TLB entries of its page; INVD, where no modified line can be lost, and
WBINVD invalidate the cache; HLT halts; CLI and STI change IF where they may, STI holding INTR off for one instruction; CPUID
gives its results, or raises #UD while it is disabled. INVD is refused while a modified line may be present, in the lines
listed or by the model's flag `dirty` (D9, log 15). That an L1 or L2 entry which INVLPG drops loses V alone is the model's
choice (log 65). -/
def Obligations.SystemForms : Prop :=
  ∀ (s : State),
    (s.unprivileged = false →
      (∀ m : Mem,
        let la := (s.segs.get (s.dataSeg (defaultSeg m))).base + effAddr s.regs m
        exec (.invlpg m) s = .next { s with tlb := s.tlb.invalidate fun e => e.lin == la.extractLsb' 12 20 }) ∧
      (let clean := s.cache.dirty = false ∧ ∀ e ∈ s.cache.lines, e.2.mesi0 ≠ 8#4 ∧ e.2.mesi1 ≠ 8#4
       (clean → exec .invd s = .next s.cacheInvalidate) ∧ (¬ clean → exec .invd s = .refused .invdModified)) ∧
      exec .wbinvd s = .next (s.writeBackAll s.cache.lines).cacheInvalidate ∧
      exec .hlt s = .next { s with halted := true, suspended := s.cfg.ccr2.getLsbD 3 }) ∧
    ((s.pe = false ∨ s.flags.vm = false ∧ s.cpl ≤ s.flags.iopl ∨ s.flags.vm = true ∧ s.flags.iopl = 3#2) →
      exec .cli s = .next { s with flags := { s.flags with ifl := false } } ∧
      exec .sti s = .next { s with
        shadow := if s.flags.ifl then s.shadow else .sti
        flags := { s.flags with ifl := true } }) ∧
    (let v := Config.cpuid s.regs.eax
     s.cfg.ccr4.getLsbD 7 = true → exec .cpuid s = .next { s with
       regs := { s.regs with eax := v.1, ebx := v.2.1, ecx := v.2.2.1, edx := v.2.2.2 } }) ∧
    (s.cfg.ccr4.getLsbD 7 = false → exec .cpuid s = deliverFault .ud (rollback s s))

/-- R420, R528, R530, R531: outside level 0 the privileged instructions raise #GP(0); above IOPL so do CLI and STI; in V86
mode with IOPL below 3 so do PUSHF, POPF, IRET, INT n, CLI and STI. -/
def Obligations.PrivilegeTraps : Prop :=
  ∀ (s : State) (sz : OSize) (m : Mem) (r : Reg) (n : Bits3) (e : RMv) (v : Byte),
    let gp := deliverFault (.gp 0#16) (rollback s s)
    (s.unprivileged → ∀ i ∈ [Instr.lgdt sz m, .lidt sz m, .invlpg m, .invd, .wbinvd, .movRCr r n, .movCrR n r,
      .movRDr r n, .movDrR n r, .movRTr r n, .movTrR n r, .rdmsr, .wrmsr, .hlt], exec i s = gp) ∧
    (s.unprivileged → s.realLike = false → exec (.lldt e) s = gp ∧ exec (.ltr e) s = gp) ∧
    (s.pe → s.flags.vm = false → s.flags.iopl < s.cpl → exec .cli s = gp ∧ exec .sti s = gp) ∧
    (s.v86 → s.flags.iopl ≠ 3#2 →
      ∀ i ∈ [Instr.pushf sz, .popf sz, .iret sz, .intN v, .cli, .sti], exec i s = gp)

/-! ## System Management Mode and prefixes -/

/-- R460 to R471: the SMM instructions that save and restore registers, where they are allowed; elsewhere all nine raise #UD;
after RSLDT a selector of the LDT is looked up by the base and limit of the image, with no check of its presence or selector;
what SVDC saved of a register loaded from a descriptor, RSDC restores, in every layout of the operand; SMINT and RSM complete
(what their states hold: SmmEntryExit). -/
def Obligations.SmmSaveForms : Prop :=
  (∀ (s : State), s.smmInsnAllowed →
    (∀ (m : Mem) (s1 : State) (pas : List PA), locateMem m 10 1 .write s = .ok pas s1 → s1.writeOk pas →
      let image := Seg.pack80 s1.part.svdcLayout
      (∀ r : SegReg, r ≠ .cs → exec (.svdc m r) s = .next (s1.storeBytes pas (image (s.segs.get r)))) ∧
      exec (.svldt m) s = .next (s1.storeBytes pas (image s.ldtr)) ∧
      exec (.svts m) s = .next (s1.storeBytes pas (image s.tr))) ∧
    (∀ (m : Mem) (s1 : State) (pas : List PA), locateMem m 10 1 .read s = .ok pas s1 → s1.readOk →
      let g := Seg.unpack80 s1.part.svdcLayout (s1.bytesAt (addrs pas))
      (∀ r : SegReg, r ≠ .cs → exec (.rsdc r m) s = .next (s1.putSeg r g)) ∧
      exec (.rsldt m) s = .next { s1 with ldtr := g, ldtrInvalid := false } ∧
      exec (.rsts m) s = .next { s1 with tr := g } ∧
      (∀ (t : State) (sel : Word16) (bad : Exc), t.ldtr = g → t.ldtrInvalid = false → sel.getLsbD 2 →
        let off := sel.toNat / 8 * 8
        (g.limit.toNat < off + 7 → readDesc sel bad t = .error (.exc bad) t) ∧
        (off + 7 ≤ g.limit.toNat → ∀ (v : Nat) (u : State), linRead (g.base + BitVec.ofNat 32 off) 8 t = .ok v u →
          readDesc sel bad t = .ok (g.base + BitVec.ofNat 32 off, BitVec.ofNat 64 v) u))) ∧
    (∀ (d : RMv) (s1 : State) (p : Place), locateN 4 d .write s = .ok p s1 → s1.placeWritable p →
      exec (.rdshr d) s = .next (s1.putPlace p s1.smhr)) ∧
    (∀ (e : RMv) (s1 : State) (v : Word), readRM32 e s = .ok v s1 → exec (.wrshr e) s = .next { s1 with smhr := v }) ∧
    (∀ m : Mem, exec (.svdc m .cs) s = .refused .svdcCs ∧ exec (.rsdc .cs m) s = deliverFault .ud (rollback s s))) ∧
  (∀ (s : State) (m : Mem) (r : SegReg) (d : RMv), s.smmInsnAllowed = false →
    ∀ i ∈ [Instr.svdc m r, .rsdc r m, .svldt m, .rsldt m, .svts m, .rsts m, .rsm, .rdshr d, .wrshr d],
      exec i s = deliverFault .ud (rollback s s)) ∧
  (∀ (layout : List Nat) (sel : Word16) (d : BitVec 64), layout.Perm (List.range 10) →
    Seg.unpack80 layout ((Seg.ofDesc sel d).pack80 layout) = Seg.ofDesc sel d) ∧
  (∀ (s : State), s.smintAllowed → (s.inSmm = false ∨ s.smmMode ∧ s.nestEnabled) →
    ({ s with inSmm := true } : State).writeOk (plain (paRange ((s.entrySmhr &&& 0xFFFFFFFC#32) - 0x30#32) 48)) →
    ∃ t : State, exec .smint s = .next t ∧ t.inSmm = true ∧ t.eip = 0#32) ∧
  (∀ (s : State) (rows : List Word), s.smmInsnAllowed → s.inSmm → s.readOk →
    rows = (List.range 12).map (fun k => BitVec.ofNat 32 (leNat (s.bytesAt
      (paRange ((s.smhr &&& 0xFFFFFFFC#32) - 0x30#32 + BitVec.ofNat 32 (4 * k)) 4)))) →
    (Header.ofRows s.part.smmCsSelHigh rows).ok → ∃ t : State, exec .rsm s = .next t ∧ t.eip = rowAt rows 7)

/-- R467, R468, R554 to R557, R565: SMINT and SMI# save the header and start the service routine at the base of the SMM space
with the registers of R555; nothing else of memory changes. The header holds DR7, EFLAGS, CR0, both instruction pointers, CS with
its descriptor, CPL and the indicators N, IS, H, S and C, and of an I/O instruction I, P, the data size, port, data and index.
RSM restores what the header holds, DR7 whole (U8, log 55). The rights of CS in the routine are the model's choice (log 23), so
are the EIP and CS saved where SMI# ends shutdown (log 36); the half of the selector row is a parameter (log 24). -/
def Obligations.SmmEntryExit : Prop :=
  (∀ (smint : Bool) (cur next : Word) (io : Option IoRecord) (s : State), s.memoryOk → s.cacheOk →
    let s0 : State := { s with smhr := s.entrySmhr, inSmm := true }
    let h := s.entrySmhr &&& 0xFFFFFFFC#32
    let rows := paRange (h - 0x30#32) 48
    s0.writeOk (plain rows) →
    ∃ t : State, enterSmm smint cur next io s = .ok () t ∧
      t = { s with
        smhr := s.entrySmhr, inSmm := true, cr0 := 0x60000010#32, flags := Flags.reset, eip := 0#32, cpl := 0#2
        dr := { s.dr with dr7 := 0x400#32 }
        segs := { s.segs with cs := s.smmCs }
        cfg := { s.cfg with ccr6 := s.cfg.ccr6 &&& 0xBF#8 }
        halted := false, shutdown := false, suspended := false, stale := []
        freeCtr := t.freeCtr, mem := t.mem, smm := t.smm, cache := t.cache } ∧
      t.segs.cs.base = BitVec.ofNat 32 s.smmBase ∧ t.segs.cs.sel = BitVec.ofNat 16 (s.smmBase / 16) ∧
      t.segs.cs.limit = 0xFFFFFFFF#32 ∧
      (∀ a : Word, a ∉ rows → sameByte s0 t a) ∧
      ((∀ a ∈ rows, s0.keepsWrite a) →
        let row := fun k : Word => BitVec.ofNat 32 (leNat (t.bytesAt (paRange (h - k) 4)))
        row 4#32 = s.dr.dr7 ∧ row 8#32 = s.flags.toWord ∧ row 0xC#32 = s.cr0 ∧ row 0x10#32 = cur ∧ row 0x14#32 = next ∧
        (if s.part.smmCsSelHigh then (row 0x18#32).extractLsb' 16 16 else (row 0x18#32).extractLsb' 0 16) =
          s.segs.cs.sel ∧
        row 0x1C#32 ++ row 0x20#32 = s.segs.cs.toDesc ∧
        (let x := row 0x24#32
         x.extractLsb' 21 2 = s.cpl ∧ x.getLsbD 15 = s.inSmm ∧ (smint = false → x.getLsbD 13 = false) ∧
         x.getLsbD 4 = (s.halted || s.shutdown) ∧ x.getLsbD 3 = smint ∧
         x.getLsbD 0 = (s.realLike || s.segs.cs.attr.writable) ∧
         ∀ f : IoRecord, io = some f → x.getLsbD 2 = f.rep ∧ x.getLsbD 1 = f.write ∧
           ∀ y : IoTransfer, f.transfer = some y →
             (f.write → row 0x28#32 = (if y.size = 1 then 1#16 else if y.size = 2 then 3#16 else 0xF#16) ++ y.port ∧
               row 0x2C#32 = y.data) ∧
             (∀ j : Word, y.index = some j → row 0x30#32 = j)))) ∧
  (∀ (s t : State), s.smintAllowed →
    ((s.inSmm = false ∨ s.smmMode ∧ s.nestEnabled) → enterSmm true s.cur.ip s.eip none s = .ok () t →
      exec .smint s = .next t) ∧
    (s.inSmm = true → (s.smmMode && s.nestEnabled) = false → exec .smint s = .refused .nestedSmint)) ∧
  (∀ (s : State), s.smintAllowed = false → exec .smint s = deliverFault .ud (rollback s s)) ∧
  (∀ (s t : State) (cur : Word), s.lastIp = some cur → enterSmm false cur s.eip s.lastIo s = .ok () t →
    takeSmi s = .next ({ t with smiPending := false } : State).ended) ∧
  (∀ (s : State) (rows : List Word), s.smmInsnAllowed → s.inSmm → s.readOk →
    rows = (List.range 12).map (fun k => BitVec.ofNat 32 (leNat (s.bytesAt
      (paRange ((s.smhr &&& 0xFFFFFFFC#32) - 0x30#32 + BitVec.ofNat 32 (4 * k)) 4)))) →
    let x := Header.ofRows s.part.smmCsSelHigh rows
    let w := rowAt rows 6
    let d := rowAt rows 5 ++ rowAt rows 4
    (x.ok → exec .rsm s = .next { s with
      dr := { s.dr with dr7 := rowAt rows 11 }
      cr0 := rowAt rows 9, flags := Flags.ofWord (rowAt rows 10), eip := rowAt rows 7
      segs := { s.segs with cs := { sel := if s.part.smmCsSelHigh then w.extractLsb' 16 16 else w.extractLsb' 0 16
                                    base := descBase d, limit := descLimit d, attr := descAttr d } }
      cpl := (rowAt rows 3).extractLsb' 21 2, inSmm := (rowAt rows 3).getLsbD 15
      cfg := { s.cfg with ccr6 := s.cfg.ccr6 ||| 0x40#8 } }) ∧
    (x.ok = false → exec .rsm s = .refused .inconsistentHeader)) ∧
  (∀ (s : State), s.smmInsnAllowed → s.inSmm = false → exec .rsm s = .refused .rsmOutsideSmm)

/-- R241, R242 d, R261: a prefix is recorded for the instruction it precedes; of several segment overrides the last counts. -/
def Obligations.Prefixes : Prop :=
  ∀ (s : State),
    let p := s.cur.pfx
    let with' := fun q : Pfx => Host.Outcome.next { s with cur := { s.cur with pfx := { q with count := p.count + 1 } } }
    exec .segEs s = with' { p with seg := some .es } ∧ exec .segCs s = with' { p with seg := some .cs } ∧
    exec .segSs s = with' { p with seg := some .ss } ∧ exec .segDs s = with' { p with seg := some .ds } ∧
    exec .segFs s = with' { p with seg := some .fs } ∧ exec .segGs s = with' { p with seg := some .gs } ∧
    exec .opsize s = with' { p with os66 := true } ∧ exec .adsize s = with' { p with as67 := true } ∧
    exec .lock s = with' { p with lock := true } ∧ exec .repne s = with' { p with repne := true } ∧
    exec .rep s = with' { p with rep := true } ∧
    (∀ dflt : SegReg, s.dataSeg dflt = p.seg.getD dflt)

/-! ## Exceptions and interrupts -/

/-- R483, R484, R487, R491, R500, R501, R590, R614 in real mode with paging off: an exception raised by an instruction, an INTR,
an NMI and a debug exception push FLAGS, CS and the saved IP, clear IF and TF, and go to the far pointer at 4 times the vector;
where that lies past the IDT limit, to that of vector 8, and where this one does too the machine shuts down. A debug exception
has set DR6 and cleared DR7.GD; which conditions that under DR7.GD records: log 69. What a fault undoes: log 17; that RF is not
cleared, as R501 has it: log 29. -/
def Obligations.RealExceptionEntry : Prop :=
  ∀ (o : Host.Outcome State Fault Refusal) (s : State) (kind : Kind) (v : Byte) (e : Word) (c : Option Word16)
    (fault : Bool), taken o s kind v e c fault → s.pe = false →
    (s.idtr.limit.toNat < 4 * v.toNat + 3 → s.idtr.limit.toNat < 0x23 →
      o = .next ({ s with shutdown := true } : State).ended) ∧
    (∀ (s1 : State) (pl : List (List PA)) (n : Nat), s.pg = false → s.readOk →
      n = (if s.idtr.limit.toNat < 4 * v.toNat + 3 then 8 else v.toNat) → 4 * n + 3 ≤ s.idtr.limit.toNat →
      let entry := s.bytesAt (paRange (s.idtr.base + BitVec.ofNat 32 (4 * n)) 4)
      let items := [s.flags.toWord, s.segs.cs.sel.setWidth 32, e]
      pushPlaces .w16 1 items s = .ok pl s1 → s1.itemsOk pl →
      let off := leNat (entry.take 2)
      let sel := leNat (entry.drop 2)
      o = .next ({ ((s1.pushed .w16 pl items).returnedFar
        { s.segs.cs with sel := BitVec.ofNat 16 sel, base := BitVec.ofNat 32 (16 * sel) } (BitVec.ofNat 32 off)).handling with
          flags := { s.flags with ifl := false, tf := false } } : State).ended)

/-- R341 to R343, R483, R484, R487, R491, R500, R502, R503, R510, R590: interrupts and exceptions in protected and V86 mode, through
16-bit and 32-bit gates. The gate must lie within the IDT limit, be an interrupt or trap gate (a task gate is refused, D21) that
is present and, for INT n, admit the privilege level. At the same level the flags, CS and EIP and an error code are pushed on the
current stack; to an inner level the stack that the TSS gives also takes SS and ESP and, from V86 mode, the data segment
registers, which become null. TF, NT, VM and RF are cleared, IF by an interrupt gate only. An exception raised in the delivery is
delivered in its place, as #DF where R491 says so, and a fault in delivering #DF shuts the machine down. What is left of a null
segment register: log 49. -/
def Obligations.ProtectedInterrupt : Prop :=
  (∀ (kind : Kind) (v : Byte) (e : Word) (c : Option Word16) (fault : Bool) (s : State),
    let ext := if kind = .software then 0 else 1
    let idt : Word16 := BitVec.ofNat 16 (8 * v.toNat + 2 + ext)
    let x : Word16 := BitVec.ofNat 16 ext
    let deliver' := protDeliver kind v e c fault s
    (s.idtr.limit.toNat < 8 * v.toNat + 7 → deliver' = .error (.exc (.gp idt)) s) ∧
    (∀ (n : Nat) (s1 : State), 8 * v.toNat + 7 ≤ s.idtr.limit.toNat →
      linRead (s.idtr.base + BitVec.ofNat 32 (8 * v.toNat)) 8 s = .ok n s1 →
      let gate := BitVec.ofNat 64 n
      let typ : BitVec 5 := gate.extractLsb' 40 5
      let wide := typ ∈ [0xE#5, 0xF#5]
      let sel : Word16 := gate.extractLsb' 16 16
      let off : Word := if wide then gate.extractLsb' 48 16 ++ gate.extractLsb' 0 16 else 0#16 ++ gate.extractLsb' 0 16
      let sz : OSize := if wide then .w32 else .w16
      let low := kind = .software ∧ gate.extractLsb' 45 2 < s.cpl
      (typ ∉ [5#5, 6#5, 7#5, 0xE#5, 0xF#5] → deliver' = .error (.exc (.gp idt)) s1) ∧
      (typ ∈ [5#5, 6#5, 7#5, 0xE#5, 0xF#5] →
        (low → deliver' = .error (.exc (.gp idt)) s1) ∧
        (¬ low → gate.getLsbD 47 = false → deliver' = .error (.exc (.np idt)) s1) ∧
        (¬ low → gate.getLsbD 47 = true → typ = 5#5 → deliver' = .error (.refuse .taskGate) s1)) ∧
      (typ ∈ [6#5, 7#5, 0xE#5, 0xF#5] → ¬ low → gate.getLsbD 47 = true → nullSel sel = false →
        ∀ (da : Word) (d : BitVec 64) (s2 : State), readDesc sel (.gp (selCode sel + x)) s1 = .ok (da, d) s2 →
        (descAttr d).code → (descAttr d).dpl ≤ s.cpl → (descAttr d).p → off ≤ descLimit d →
        (s.flags.vm = true → (descAttr d).conforming = false ∧ (descAttr d).dpl = 0#2 ∧ wide) →
        let image := ({ s.flags with rf := s.flags.rf || fault } : Flags).toWord
        let enter := fun (t : State) (lvl : BitVec 2) => ({ t with
          segs := { t.segs with cs := Seg.ofDesc (selCode sel ||| lvl.setWidth 16) d }, cpl := lvl, eip := off
          flags := { s.flags with tf := false, nt := false, vm := false, rf := false,
                                  ifl := s.flags.ifl && (typ == 7#5 || typ == 0xF#5) } } : State)
        let codes := fun k : Nat => match c with
          | none => []
          | some y => [selValue sz k y]
        let extra := if c.isSome then 1 else 0
        (((descAttr d).conforming = true ∨ (descAttr d).dpl = s.cpl) → ∀ (s3 s4 : State) (pl : List (List PA)),
          stackRoom s2.segs.ss sz s2.stackPtr (3 + extra) → pushPlaces sz 1 (blanks (3 + extra)) s2 = .ok pl s3 →
          markAccessed da d s3 = .ok () s4 → s4.itemsOk pl →
          let k := s4.freeCtr
          deliver' = .ok () (enter (({ s4 with freeCtr := k + (1 + extra) * selDraws sz } : State).pushed sz pl
            ([image, selValue sz k s.segs.cs.sel, e] ++ codes (k + selDraws sz))) s.cpl)) ∧
        ((descAttr d).conforming = false → (descAttr d).dpl < s.cpl →
          ∀ (ss : Word16) (sp sa : Word) (sd : BitVec 64) (s3 s4 s5 s6 s7 : State) (pl : List (List PA)),
          let lvl := (descAttr d).dpl
          let g := Seg.ofDesc ss sd
          let m := if s.flags.vm then 4 else 0
          let items := 5 + m + extra
          tssStack lvl x s2 = .ok (ss, sp) s3 →
          checkStackSel ss lvl (.ts x) (.ts (selCode ss + x)) (.ss (selCode ss + x)) s3 = .ok (sa, sd) s4 →
          stackRoom g sz (wrapSp g sp) items → innerPlaces g sz (wrapSp g sp) 1 (blanks items) s4 = .ok pl s5 →
          markAccessed sa sd s5 = .ok () s6 → markAccessed da d s6 = .ok () s7 → s7.itemsOk pl →
          let w := fun (j : Nat) (y : Word16) => selValue sz (s7.freeCtr + j * selDraws sz) y
          let old := s.segs
          let data := if s.flags.vm then [w 0 old.gs.sel, w 1 old.fs.sel, w 2 old.ds.sel, w 3 old.es.sel] else []
          let null := fun y : Seg => if s.flags.vm then { y with sel := 0#16, attr := { y.attr with p := false } } else y
          let t := ({ s7 with freeCtr := s7.freeCtr + (m + 2 + extra) * selDraws sz } : State).storeItems sz pl
            (data ++ [w m old.ss.sel, s.regs.esp, image, w (m + 1) old.cs.sel, e] ++
              codes (s7.freeCtr + (m + 2) * selDraws sz))
          deliver' = .ok () (enter { t with
            segs := { t.segs with ss := g, ds := null old.ds, es := null old.es, fs := null old.fs, gs := null old.gs }
            regs := { t.regs with esp := newEsp g (newEsp g s.regs.esp sp) (pushOff g sz (wrapSp g sp) items) } }
            lvl)))) ) ∧
  (∀ (v : Byte) (s t : State), s.pe → protDeliver .software v s.eip none false s = .ok () t →
    ((s.flags.vm = false ∨ s.flags.iopl = 3#2) → exec (.intN v) s = .next t.handling) ∧
    (v = 3#8 → exec .int3 s = .next t.handling) ∧ (v = 4#8 → s.flags.ofl → exec .into s = .next t.handling)) ∧
  (∀ (o : Host.Outcome State Fault Refusal) (s : State) (kind : Kind) (v : Byte) (e : Word) (c : Option Word16)
    (fault : Bool), taken o s kind v e c fault → s.pe →
    (∀ t : State, protDeliver kind v e c fault s = .ok () t → o = .next t.handling.ended) ∧
    (∀ (y : Exc) (s1 : State), protDeliver kind v e c fault s = .error (.exc y) s1 →
      let s2 := rollback s s1
      let contrib := [0#8, 10#8, 11#8, 12#8, 13#8]
      let double := kind = .exception ∧
        (v ∈ contrib ∧ y.vec ∈ contrib ∨ v = 14#8 ∧ (y.vec ∈ contrib ∨ y.vec = 14#8))
      (kind = .exception → v = 8#8 → o = .next ({ s2 with shutdown := true } : State).ended) ∧
      (¬ (kind = .exception ∧ v = 8#8) → ¬ double → ∀ t : State,
        protDeliver .exception y.vec e y.code true s2 = .ok () t → o = .next t.handling.ended) ∧
      (double →
        (∀ t : State, protDeliver .exception 8#8 e (some 0#16) true s2 = .ok () t → o = .next t.handling.ended) ∧
        (∀ (z : Exc) (s3 : State), protDeliver .exception 8#8 e (some 0#16) true s2 = .error (.exc z) s3 →
          o = .next ({ rollback s2 s3 with shutdown := true } : State).ended))))

/-- R498, R496, R13 b, R483, R487, R553, R590 to R594, R610 to R614, R640, R641: what a step does at an instruction boundary, in the
order RESET, suspend, warm reset, SUSP#, debug exceptions, FLUSH#, SMI, NMI, INTR, halt or shutdown, else the next instruction;
NMI alone leaves shutdown. Which debug trap an instruction leaves, which breakpoint conditions hold, and when the boundary takes a
debug exception. A20M# is refused (D11). The model's choices: the pins are a schedule (log 8), in which other agents are idle here
(log 9); the delay after RESET is counted before the first instruction (log 4); what a RESET leaves of the instruction in progress
(log 57), and that it empties the TLB (log 63); what a warm reset clears beside the registers of R641, and what it keeps
(log 41); where SUSP# and WM_RST wait (log 40); what the hold
after a load of SS keeps back (log 34); a trap and a breakpoint delivered together as a fault (log 35); RF kept by a 32-bit IRET,
RSM and the iterations of REP (log 29); an instruction breakpoint that is not met again between the iterations of REP (R390,
log 42); the trap after INT n (log 28); the room for an NMI, CS and EIP in shutdown (log 36);
FLUSH# in halt (log 37). -/
def Obligations.BoundaryEvents : Prop :=
  (∀ (s : State) (p : Pins), s.pins = p → p.bus = [] →
    let s0 : State := { s with
      ken := p.ken, env := s.env.tail, bus := [], nmiLevel := p.nmi, smiLevel := p.smi
      tsc := s.tsc + BitVec.ofNat 64 (if s.starting then s.part.startClocks else 0), starting := false
      nmiPending := s.nmiPending || (p.nmi && !s.nmiLevel), smiPending := s.smiPending || s.latchSmi p }
    let event := fun o => mapNext (State.tick false) o
    (p.reset → ∃ t : State, step s = .next t ∧
      t = { State.resetFor s.part with
        mem := t.mem, smm := t.smm, ioLog := t.ioLog, env := s.env.tail, nmiLevel := p.nmi, smiLevel := p.smi
        ken := p.ken, freeCtr := t.freeCtr } ∧
      ((s.halted || s.shutdown || s.suspended || s.starting) → t.mem = s.mem ∧ t.smm = s.smm ∧ t.ioLog = s.ioLog) ∧
      (s.memoryOk → ∀ a : Nat, t.mem.read a = s.mem.read a ∨
        ∃ u : State, runInstruction s0 = .next u ∧ t.mem.read a = u.mem.read a)) ∧
    (p.reset = false → p.a20m → step s = .refused .a20Masked) ∧
    (p.reset = false → p.a20m = false →
      (s.suspended → s.suspPin p → step s = .next (s0.tick false)) ∧
      ((s.suspended && s.suspPin p) = false → p.wmRst → step s = .next (({ s0 with
        regs := Regs.reset s.part, eip := 0xFFF0#32, flags := Flags.reset, segs := Segs.reset, cpl := 0#2
        idtr := { base := 0#32, limit := 0x3FF#16 }, cr0 := 0x60000010#32, cr4 := 0#32
        dr := { s.dr with dr7 := 0x400#32 }
        halted := false, shutdown := false, suspended := false, nmiBlocked := false, inSmm := false
        shadow := .none, trap := none, lastIp := none, lastIo := none, branchDue := false, stale := []
        cur := Current.start 0xFFF0#32 } : State).tick false)) ∧
      (s.suspended = false → p.wmRst = false → s.suspPin p → s.midString = false →
        step s = .next (({ s0 with suspended := true } : State).tick false)) ∧
      (s.suspPin p = false → p.wmRst = false →
        let s1 : State := { s0 with suspended := s.halted && s.suspended && s.cfg.ccr2.getLsbD 3 }
        (∀ (h : BitVec 4) (bs fault : Bool), s1.debugDue = some (h, bs, fault) →
          step s = event (debugException h bs fault s.eip { s1 with trap := none, halted := false, suspended := false })) ∧
        (s1.debugDue = none →
          let s2 := if p.flush then (s1.writeBackAll s.cache.lines).cacheInvalidate else s1
          let nmi := s2.nmiReady = true ∧ (s.shutdown = false ∨ s2.nmiVector = true ∧ s2.nmiRoom = true)
          (s2.smiRecognised p → step s = event (takeSmi s2)) ∧
          (s2.smiRecognised p = false →
            (nmi → s.shutdown = false → step s = event (takeNmi s.eip s2)) ∧
            (nmi → s.shutdown = true → step s = event (takeNmi (Config.freeWord (s.freeCtr + 1)) { s2 with
              segs := { s.segs with cs := { s.segs.cs with sel := (Config.freeWord s.freeCtr).setWidth 16 } }
              freeCtr := s.freeCtr + 2 })) ∧
            (¬ nmi →
              let intr := s.flags.ifl = true ∧ s.shadow = .none ∧ s.shutdown = false
              (∀ v : Byte, p.intr = some v → intr → step s = event (takeIntr v s2)) ∧
              ((p.intr = none ∨ ¬ intr) → (s.halted || s.shutdown) = true → step s = .next (s2.tick false)) ∧
              ((p.intr = none ∨ ¬ intr) → (s.halted || s.shutdown) = false →
                step s = mapNext (State.tick true) (runInstruction s2))))))) ) ∧
  (∀ (s : State) (p : Pins), (s.inSmm = true → s.nestEnabled = false → s.smiRecognised p = false) ∧
    (s.nmiReady = true ↔ s.nmiPending = true ∧ s.nmiBlocked = false ∧ (s.inSmm = true → s.cfg.ccr3.getLsbD 1 = true) ∧
      s.shadow ≠ .ss)) ∧
  (∀ s : State,
    let h := s.execHits (s.segs.cs.base + s.eip)
    let trap := s.shutdown = false ∧ s.shadow ≠ .ss
    let breaks := trap ∧ (s.cur.repeating && !s.cur.entered) = false ∧ s.flags.rf = false ∧
      ∃ i, i < 4 ∧ h.getLsbD i = true ∧ (s.dr.dr7.getLsbD (2 * i) = true ∨ s.dr.dr7.getLsbD (2 * i + 1) = true)
    (∀ t, s.trap = some t → trap → breaks → s.debugDue = some (t.hits ||| h, t.bs, true)) ∧
    (∀ t, s.trap = some t → trap → ¬ breaks → s.debugDue = some (t.hits, t.bs, false)) ∧
    (s.trap = none → breaks → s.debugDue = some (h, false, true)) ∧
    ((s.trap = none ∨ ¬ trap) → ¬ breaks → s.debugDue = none)) ∧
  (∀ (s : State) (i : Nat), i < 4 →
    let dr := [s.dr.dr0, s.dr.dr1, s.dr.dr2, s.dr.dr3].getD i 0#32
    let rw := s.dr.dr7.toNat / 2 ^ (16 + 4 * i) % 4
    let len := s.dr.dr7.toNat / 2 ^ (18 + 4 * i) % 4
    let lo := dr.toNat / (len + 1) * (len + 1)
    (∀ la : Word, (s.execHits la).getLsbD i = true ↔ rw = 0 ∧ len ≠ 2 ∧ dr = la) ∧
    (∀ (la : Word) (n : Nat) (kind : Acc), 1 ≤ n → ((s.dataHits la n kind).getLsbD i = true ↔
      (rw = 3 ∨ rw = 1 ∧ kind = .write) ∧ len ≠ 2 ∧
      ∃ j k : Nat, j < n ∧ k ≤ len ∧ la + BitVec.ofNat 32 j = BitVec.ofNat 32 (lo + k))) ∧
    (∀ (port : Word16) (n : Nat), 1 ≤ n → ((s.ioHits port n).getLsbD i = true ↔
      rw = 2 ∧ s.cr4.getLsbD 3 = true ∧ len ≠ 2 ∧
      ∃ j k : Nat, j < n ∧ k ≤ len ∧ port + BitVec.ofNat 16 j = BitVec.ofNat 16 (lo + k)))) ∧
  (∀ (i : Instr) (start : Word) (n : Nat) (tf : Bool) (s : State), s.cur.entered = false →
    pastEnd i start n s = false →
    let hits := s.cur.hits ||| s.cur.fetchHits
    let fires := tf = true ∨ ∃ k, k < 4 ∧ s.cur.hits.getLsbD k = true ∧
      (s.dr.dr7.getLsbD (2 * k) = true ∨ s.dr.dr7.getLsbD (2 * k + 1) = true)
    ∃ t : State, afterExec i start n tf (.next s) = .next t ∧
      t = { s with
        flags := { s.flags with rf := s.flags.rf && (i == .iret .w32 || i == .rsm || s.cur.repeating) }
        shadow := if s.cur.repeating then s.cur.held else s.shadow
        trap := t.trap, lastIp := some s.cur.ip, lastIo := s.cur.io } ∧
      (¬ fires → t.trap = s.trap) ∧ (fires → s.trap = none → t.trap = some { hits := hits, bs := tf }) ∧
      (∀ u : DebugTrap, fires → s.trap = some u → t.trap = some { hits := u.hits ||| hits, bs := u.bs || tf }))

/-! ## Address translation and memory -/

/-- R153, R216 to R218, R223, R39, R511: with paging off a linear address is physical. With paging on and no TLB entry for the
page, the two tables are walked: an entry that is not present, or a protection violation, raises #PF with the address in CR2
and the error code of R511, in the layout that is a parameter (log 25). Where entries of the TLB match, which of them or the walk
answers is open (R220, R221; log 13): a valid entry for the page, in either TLB, that permits the access, for a write one with D. -/
def Obligations.PageTranslation : Prop :=
  ∀ (s : State) (la : Word) (kind : Acc) (user : Bool),
    (s.pg = false → translate la kind user s =
      .ok { frame := la.extractLsb' 12 20, pcd := false, pwt := false, walk := none } s) ∧
    (s.pg = true → s.tlbMatches la kind user = [] → s.readOk →
      let entry := fun a : Word => BitVec.ofNat 32 (leNat (s.bytesAt (paRange a 4)))
      let dteA : Word := s.cr3.extractLsb' 12 20 ++ la.extractLsb' 22 10 ++ 0#2
      let dte := entry dteA
      let pteA : Word := dte.extractLsb' 12 20 ++ la.extractLsb' 12 10 ++ 0#2
      let pte := entry pteA
      let allowed := (user = false ∨ dte.getLsbD 2 = true ∧ pte.getLsbD 2 = true) ∧
        (kind ≠ .write ∨ dte.getLsbD 1 = true ∧ pte.getLsbD 1 = true ∨ user = false ∧ s.cr0.getLsbD 16 = false)
      let l := s.part.pfLayout
      let bit := fun (i : Nat) (b : Bool) => if b then 1#16 <<< i else 0#16
      let fault := fun present : Bool => EStateM.Result.error
        (Stop.exc (.pf (bit l.p present ||| bit l.w (kind == .write) ||| bit l.u user))) { s with cr2 := la }
      (dte.getLsbD 0 = false → translate la kind user s = fault false) ∧
      (dte.getLsbD 0 = true → pte.getLsbD 0 = false → translate la kind user s = fault false) ∧
      (dte.getLsbD 0 = true → pte.getLsbD 0 = true → ¬ allowed → translate la kind user s = fault true) ∧
      (dte.getLsbD 0 = true → pte.getLsbD 0 = true → allowed → translate la kind user s =
        .ok { frame := pte.extractLsb' 12 20, pcd := pte.getLsbD 4, pwt := pte.getLsbD 3
              walk := some (dteA, dte, pteA, pte) } s)) ∧
    (s.pg = true → s.tlbMatches la kind user = [] → translate la kind user s = pageWalk la kind user s) ∧
    (s.pg = true → s.tlbMatches la kind user ≠ [] →
      let t : State := { s with freeCtr := s.freeCtr + 1 }
      translate la kind user s = pageWalk la kind user t ∨
      ∃ e ∈ s.tlbMatches la kind user, translate la kind user s =
        .ok { frame := e.phys, pcd := e.pcd, pwt := e.pwt, walk := none } t) ∧
    (∀ e : TlbEntry, e ∈ s.tlbMatches la kind user ↔
      ((∃ k, (k, e) ∈ s.tlb.l1 ∨ (k, e) ∈ s.tlb.l2) ∨ e ∈ s.tlb.cached) ∧ e.v = true ∧ e.lin = la.extractLsb' 12 20 ∧
      (user = true → e.u = true) ∧
      (kind = .write → e.d = true ∧ (e.w = true ∨ user = false ∧ s.cr0.getLsbD 16 = false)))

/-- R149, R153, R219, R365: the frame of every operand: locating it, and checking or reading stack items, changes no register, no
flag and nothing else but what `sameButAccess` lists. Of memory only bytes of the directory and page table entries that the
access walks may change, where no other bus agent acts meanwhile (log 9); with paging off nothing but the breakpoint conditions
noted, and the addresses are the linear ones. -/
def Obligations.OperandFrame : Prop :=
  (∀ (r : SegReg) (off : Word) (n al : Nat) (kind : Acc) (s t : State) (pas : List PA),
    segAccess r off n kind al s = .ok pas t → accessFrame s t (s.segMarks r off n kind) ∧ pas.length = n ∧
      (s.pg = false → n ≤ 4096 → addrs pas = paRange ((s.segs.get r).base + off) n)) ∧
  (∀ (n : Nat) (d : RMv) (kind : Acc) (s t : State) (p : Place), locateN n d kind s = .ok p t →
    accessFrame s t (s.operandMarks (memOf d) n kind) ∧
    (∀ m : Mem, d = .mem m → s.pg = false → n ≤ 4096 → ∃ pas, p = .mem pas ∧
      addrs pas = paRange ((s.segs.get (s.dataSeg (defaultSeg m))).base + effAddr s.regs m) n) ∧
    (∀ r : Reg, d = .reg r → p = .reg r ∧ t = s)) ∧
  (∀ (d : RM8) (kind : Acc) (s t : State) (p : Place), locate8 d kind s = .ok p t →
    accessFrame s t (s.operandMarks (memOf8 d) 1 kind) ∧
    (∀ m : Mem, d = .mem m → s.pg = false → ∃ pas, p = .mem pas ∧
      addrs pas = [(s.segs.get (s.dataSeg (defaultSeg m))).base + effAddr s.regs m]) ∧
    (∀ r : Reg8, d = .reg r → p = .reg8 r ∧ t = s)) ∧
  (∀ (sz : OSize) (k : Nat) (vals : List Word) (s t : State) (pl : List (List PA)), pushPlaces sz k vals s = .ok pl t →
    accessFrame s t (s.pushMarks sz k vals) ∧ pl.length = vals.length ∧
    (s.pg = false → ∀ j, j < vals.length → (pl[j]?).map addrs =
      some (paRange (s.segs.ss.base + pushOff s.segs.ss sz s.stackPtr (k + j)) (osBytes sz)))) ∧
  (∀ (sz : OSize) (k : Nat) (s t : State) (v : Word), peekStack sz k s = .ok v t →
    let off := popOff s.segs.ss sz s.stackPtr k
    sameButAccess s t ∧ (s.busIdle → accessFrame s t (s.segMarks .ss off (osBytes sz) .read)) ∧
    (s.pg = false → s.busIdle → v = BitVec.ofNat 32 (leNat (s.bytesAt (paRange (s.segs.ss.base + off) (osBytes sz))))))

/-- The frame of every store: a value written to an operand is what is read there next, where memory keeps it; every other byte of
memory, and every other register, is as before, and nothing else changes but the cache, the bytes a fetch may still see and the
memory. That ROM and absent memory keep nothing is the model's choice (log 5). A byte that another bus agent writes is what the core
reads next (R620), and its reads change no byte. R149: where other agents act, an aligned access of two bytes is indivisible, a
misaligned one lets them act between its bytes; their schedule, and the moments at which it is read, are the model's (log 9). -/
def Obligations.StoreFrame : Prop :=
  (∀ (n : Nat) (s : State) (pas : List PA) (v : BitVec n), s.memoryOk → s.cacheOk → n = 8 ∨ n = 16 ∨ n = 32 ∨ n = 64 →
    pas.length = n / 8 → (addrs pas).Nodup →
    let t := s.putPlace (.mem pas) v
    ((∀ a ∈ addrs pas, s.keepsWrite a) → t.placeValue n (.mem pas) = v) ∧
    (∀ a ∈ addrs pas, s.keepsWrite a = false → t.physByte a = s.physByte a) ∧
    (∀ a : Word, a ∉ addrs pas → t.physByte a = s.physByte a) ∧
    t = { s with mem := t.mem, smm := t.smm, cache := t.cache, stale := t.stale }) ∧
  (∀ (n : Nat) (s : State) (r q : Reg) (v : BitVec n), n = 8 ∨ n = 16 ∨ n = 32 →
    let t := s.putPlace (.reg r) v
    t.placeValue n (.reg r) = v ∧ (q ≠ r → t.regs.get q = s.regs.get q) ∧
    (t.regs.get r).toNat / 2 ^ n = (s.regs.get r).toNat / 2 ^ n ∧ t = { s with regs := t.regs }) ∧
  (∀ (s : State) (r q : Reg8) (v : Byte),
    let t := s.putPlace (.reg8 r) v
    t.regs.get8 r = v ∧ (q ≠ r → t.regs.get8 q = s.regs.get8 q) ∧
    (∀ x : Reg, (t.regs.get x).toNat / 2 ^ 16 = (s.regs.get x).toNat / 2 ^ 16) ∧
    t.regs.ebp = s.regs.ebp ∧ t.regs.esp = s.regs.esp ∧ t.regs.esi = s.regs.esi ∧ t.regs.edi = s.regs.edi ∧
    t = { s with regs := t.regs }) ∧
  (∀ (s : State) (a : Word) (v : Byte), s.memoryOk → s.cacheOk → s.part.ram a → s.smmSelected a = false →
    (∀ e, s.lineAt a = some e → mesiLocked (e.2.mesi a) = false) → (s.busWrite a v).physByte a = v) ∧
  (∀ (s : State) (a b : Word), s.memoryOk → s.cacheOk → (s.busRead a).physByte b = s.physByte b) ∧
  (∀ (s : State) (p q : PA) (x y : Byte) (e1 e2 : List BusEvent) (rest : List (List BusEvent)),
    s.bus = e1 :: e2 :: rest → p.lock = false → s.storeOk [p, q] →
    let t1 := ({ s with bus := e2 :: rest } : State).busDo e1
    let t2 := ({ t1 with bus := rest } : State).busDo e2
    let u1 := t1.storeByte p x
    let u2 := ({ u1 with bus := rest } : State).busDo e2
    (p.addr.toNat % 2 = 0 →
      physRead [p, q] s = .ok [t1.physByte p.addr, t1.physByte q.addr] t1 ∧
      physWrite [p, q] [x, y] s = .ok () (u1.storeByte q y)) ∧
    (p.addr.toNat % 2 = 1 →
      physRead [p, q] s = .ok [t1.physByte p.addr, t2.physByte q.addr] t2 ∧
      physWrite [p, q] [x, y] s = .ok () (u2.storeByte q y)))

/-! ## The whole machine -/

/-- R642, parts 1 and 2: the values that the spec gives for reset, for all parameters; of CCR4 without the IORT field, a parameter
(C2), of CESR the described fields (R51). Among them are choices of the spec and of the model: the places of the two parts of EDX
(D13); EAX after self-test and CPL, which R642 infers; that the reset state is that of the parameters at their defaults, and
that the delay before the first fetch is counted in the TSC after it (log 4). -/
def Obligations.ResetValues : Prop :=
  State.reset = State.resetFor Part.default ∧
  ∀ p : Part,
    let s := State.resetFor p
    let data := fun g : Seg => g.sel = 0#16 ∧ g.base = 0#32 ∧ g.limit = 0xFFFF#32
    s.flags.toWord = 2#32 ∧ s.eip = 0xFFF0#32 ∧
    (s.segs.cs.sel = 0xF000#16 ∧ s.segs.cs.base = 0xFFFF0000#32 ∧ s.segs.cs.limit = 0xFFFF#32) ∧
    data s.segs.es ∧ data s.segs.ss ∧ data s.segs.ds ∧ data s.segs.fs ∧ data s.segs.gs ∧
    s.idtr = { base := 0#32, limit := 0x3FF#16 } ∧ s.cr0 = 0x60000010#32 ∧ s.cr4 = 0#32 ∧ s.dr.dr7 = 0x400#32 ∧
    s.regs.edx = BitVec.ofNat 32 (0x600 + p.deviceId.toNat) ∧
    (p.selfTestRequested = true → (s.regs.eax = 0#32 ↔ p.selfTestPassed = true)) ∧
    (s.cfg.ccr0 = 0#8 ∧ s.cfg.ccr1 = 0#8 ∧ s.cfg.ccr2 = 0#8 ∧ s.cfg.ccr3 = 0#8 ∧ s.cfg.ccr4.extractLsb' 3 5 = 0x10#5 ∧
      s.cfg.ccr5 = 0#8 ∧ s.cfg.ccr6 = 0#8) ∧
    (∀ n : Nat, s.cfg.arr n = 0#24 ∧ s.cfg.rcr n = 0#8) ∧
    s.cpl = 0#2 ∧ s.smhr.getLsbD 0 = false ∧ s.tsc = 0#64 ∧ s.cesr &&& 0x7FF07FF#64 = 0#64 ∧ s.cache.lines = [] ∧
    (s.nmiPending || s.nmiBlocked || s.smiPending || s.inSmm || s.halted || s.shutdown || s.suspended ||
      s.cfg.indexValid) = false ∧
    s.segs.cs.base + s.eip = 0xFFFFFFF0#32

/-- The state after reset meets the invariants. The memories are empty (log 5). -/
def Obligations.ResetOk : Prop := State.reset.memoryOk ∧ State.reset.cacheOk ∧ State.reset.modeOk ∧ State.reset.controlOk

/-- Every step keeps both memories in their canonical form and the cache lines well formed, without synonyms. The canonical form
is the model's own (log 5, log 14). -/
def Obligations.StepKeepsMemory : Prop :=
  ∀ s t : State, s.memoryOk → s.cacheOk → step s = .next t → t.memoryOk ∧ t.cacheOk

/-- R34, R525, R532, R36, R37, R41, R226, R8: every step keeps the privilege level legal for the mode, paging within protected
mode, the reserved bits of CR0, CR4 and TR6 at their values, and the parameters as they are. R25: in 16-bit code it leaves the
upper half of EIP zero, unless EIP is beyond the CS limit, where the next fetch faults (log 43). -/
def Obligations.StepKeepsModes : Prop :=
  ∀ s t : State, s.modeOk → s.controlOk → step s = .next t → t.modeOk ∧ t.controlOk ∧ t.part = s.part ∧
    ((t.realLike = true ∨ t.segs.cs.attr.d = false) → t.eip.toNat < 0x10000 ∨ t.segs.cs.limit < t.eip)

/-- R420, R528: no instruction outside level 0, whatever exception it raises, changes a control register but CR2, a
descriptor table register, LDTR and its mark, TR, a test register, a breakpoint address, the counters, IOPL, or enters or
leaves SMM. That SMINT needs level 0 is a parameter, at its default (log 24). -/
def Obligations.UserCannotChange : Prop :=
  ∀ (i : Instr) (s t : State), s.pe → s.cpl ≠ 0#2 → s.part.smintCpl0 → exec i s = .next t →
    t.cr0 = s.cr0 ∧ t.cr3 = s.cr3 ∧ t.cr4 = s.cr4 ∧ t.gdtr = s.gdtr ∧ t.idtr = s.idtr ∧ t.ldtr = s.ldtr ∧
    t.ldtrInvalid = s.ldtrInvalid ∧ t.tr = s.tr ∧
    t.test = s.test ∧ t.dr.dr0 = s.dr.dr0 ∧ t.dr.dr1 = s.dr.dr1 ∧ t.dr.dr2 = s.dr.dr2 ∧ t.dr.dr3 = s.dr.dr3 ∧
    t.tsc = s.tsc ∧ t.cesr = s.cesr ∧ t.pmc0 = s.pmc0 ∧ t.pmc1 = s.pmc1 ∧ t.flags.iopl = s.flags.iopl ∧
    t.inSmm = s.inSmm

/-- R147, R491: a step ends in a fault of the model only with alignment checking enabled, CR0.AM = 1: without it every chain
of exceptions ends in a handler or in shutdown. The fault is the model's name for a delivery that never ends (log 18). -/
def Obligations.StepFaultNeedsAlignment : Prop :=
  ∀ (s : State) (f : Fault), step s = .fault f → s.cr0.getLsbD 18 = true

/-- R25, R242, R254, R261: when the bytes at CS:EIP decode to an instruction, its prefixes read, the machine makes the checks
that precede it and runs exec of that instruction with EIP already past it, and then does what follows a completed instruction;
a prefix is read and the fetch goes on, which is refused where the prefix ends at FFFF FFFFh (D14). An instruction longer than
15 bytes raises #GP(0), LOCK where it is not allowed #UD; an
operand that the instruction's own rule rejects counts after these checks. In 16-bit code EIP past the instruction is its IP
wrapped where the limit lets it (log 43). One step for an instruction with its prefixes is the model's reading (log 10), so are
what REP before another instruction does after the check of LOCK (log 56) and that the branch a change of paging calls for is due
of a handler's instruction too (log 59). -/
def Obligations.StepRunsInstruction : Prop :=
  (∀ (s : State), s.env = [] → s.suspended = false → s.debugDue = none → s.smiRecognised Pins.idle = false →
    s.nmiReady = false → s.halted = false → s.shutdown = false →
    step s = mapNext (State.tick true)
      (runFetched prefixFuel
        ({ s with ken := true, bus := [], nmiLevel := false, smiLevel := false } : State).started.startInstr)) ∧
  (∀ (k : Nat) (i : Instr) (n : Nat) (s t : State), fetchInstr s = .ok { instr := i, len := n } t →
    (isPrefix i = false →
      let p := t.cur.pfx
      let long := 15 < p.count + n
      (long → runFetched k s = deliverFault (.gp 0#16) t) ∧
      (¬ long → p.lock = true → lockable i = false → runFetched k s = deliverFault .ud t) ∧
      (¬ long → (p.lock = true → lockable i = true) →
        (p.repne = true ∨ p.rep = true ∧ repeatable i = false → runFetched k s = .refused .repMisuse) ∧
        (p.repne = false → (p.rep = true → repeatable i = true) →
          (t.branchDue = true → jumpOrCall i = false → runFetched k s = .refused .pgChangeWithoutBranch) ∧
          ((t.branchDue = true → jumpOrCall i = true) →
            runFetched k s = afterExec i t.eip n t.flags.tf (exec i (t.advance n)))))) ∧
    (isPrefix i = true →
      (t.eip.toNat + n < 2 ^ 32 →
        ∀ u : State, exec i (t.advance n) = .next u → runFetched (k + 1) s = runFetched k u) ∧
      (2 ^ 32 ≤ t.eip.toNat + n → runFetched (k + 1) s = .refused .eipWrap))) ∧
  (∀ (s : State) (n : Nat),
    ((s.realLike = false ∧ s.segs.cs.attr.d = true ∨ s.segs.cs.limit < s.eip + BitVec.ofNat 32 n ∨
        s.eip.toNat + n < 65536) → s.advance n = { s with eip := s.eip + BitVec.ofNat 32 n }) ∧
    ((s.realLike = true ∨ s.segs.cs.attr.d = false) → s.eip + BitVec.ofNat 32 n ≤ s.segs.cs.limit →
      s.advance n = { s with eip := BitVec.ofNat 32 ((s.eip.toNat + n) % 65536) })) ∧
  (∀ (s : State) (c : Ctx) (bs : List Byte) (k : Nat) (w : LateStop) (rest : List Byte), decode c bs = .late w rest →
    let p := s.cur.pfx
    let stop := fun x => fetchDecode c bs k s = EStateM.Result.error x s
    let n := bs.length - rest.length
    (15 < p.count + n → stop (.exc (.gp 0#16))) ∧
    (p.count + n ≤ 15 → p.lock = true → stop (.exc .ud)) ∧
    (p.count + n ≤ 15 → p.lock = false →
      ((p.repne = true ∨ p.rep = true) → stop (.refuse .repMisuse)) ∧
      (p.repne = false → p.rep = false →
        (s.branchDue = true → stop (.refuse .pgChangeWithoutBranch)) ∧
        (s.branchDue = false →
          stop (if w = .reservedRegField ∧ s.smmInsnAllowed = true then .refuse .reservedRegField else .exc .ud))))) ∧
  (∀ (i : Instr) (bs : List Byte) (s : State), s.pe = false → s.pg = false → s.readOk → s.stale = [] →
    decode s.ctx bs = .ok i [] → (∀ k, k < bs.length → decode s.ctx (bs.take k) = .more) →
    bs.length ≤ 16 → s.eip.toNat + bs.length ≤ s.segs.cs.limit.toNat + 1 → s.eip.toNat + bs.length ≤ 65536 →
    s.segs.cs.attr.expandDown = false →
    s.bytesAt (paRange (s.segs.cs.base + s.eip) bs.length) = bs →
    fetchInstr s = .ok { instr := i, len := bs.length } s)

/-- R240 to R253: decoding the encoding of a well-formed instruction gives it back, whatever bytes follow, where the operand
and address sizes are those its operands are written for. -/
def Obligations.DecodeEncode : Prop :=
  ∀ (c : Ctx) (i : Instr) (rest : List Byte), i.wf → c.fits i → decode c (encode i ++ rest) = .ok i rest

/-- R240 to R253: words written out from the encoding tables decode to the instructions they stand for. -/
def Obligations.DecodedWords : Prop :=
  decodeTableWord 16 0xD801 = some (.addEvGv .w16 (.reg .eax) .ebx) ∧
  decodeTableWord 16 0xE9F7 = some (.imulEv .w16 (.reg .ecx)) ∧
  decodeTableWord 16 0xE0D3 = some (.shlEvCl .w16 (.reg .eax)) ∧
  decodeTableWord 24 0x1234B8 = some (.movRIv .eax (.i16 0x1234#16)) ∧
  decodeTableWord 16 0xD88E = some (.movSwEw .ds (.reg .eax)) ∧
  decodeTableWord 40 0xF0001000EA = some (.jmpPtr { off := .i16 0x1000#16, sel := 0xF000#16 }) ∧
  decodeTableWord 8 0xEC = some .inAlDx ∧
  decodeTableWord 8 0xA5 = some (.movsv .w16 .a16) ∧
  decodeTableWord 32 0x100036DD = some (.fnsave .w16 (.direct16 0x1000#16)) ∧
  decodeTableWord 24 0xC16F0F = some (.movqPQ .mm0 (.reg .mm1)) ∧
  decodeTableWord 24 0xC0200F = some (.movRCr .eax 0#3) ∧
  decodeTableWord 16 0xAA0F = some .rsm ∧
  decodeTableWord 8 0xF3 = some .rep
end

