-- ==== Sys2Proof/Laws/Act.lean ====
section
/-! SUPPORT. Running actions: what each primitive answers, and relations that an action keeps whatever it answers. -/
namespace Sys2Proof.Machine
open Sys2Proof

/-! One lemma per primitive. -/

@[simp] theorem run_pure {α : Type} (x : α) (s : State) : (pure x : Act α) s = .ok x s := rfl
@[simp] theorem run_get (s : State) : (get : Act State) s = .ok s s := rfl
@[simp] theorem run_upd (f : State → State) (s : State) : upd f s = .ok () (f s) := rfl
@[simp] theorem run_raise {α : Type} (e : Exc) (s : State) : (raise e : Act α) s = .error (.exc e) s := rfl
@[simp] theorem run_refuse {α : Type} (r : Refusal) (s : State) : (refuse r : Act α) s = .error (.refuse r) s := rfl
theorem run_bind {α β : Type} (a : Act α) (f : α → Act β) (s : State) :
    (a >>= f) s = match a s with
      | .ok x t => f x t
      | .error e t => .error e t := by
  show EStateM.bind a f s = _
  unfold EStateM.bind
  cases a s <;> rfl
@[simp] theorem run_bind_ok {α β : Type} {a : Act α} {s t : State} {x : α} (f : α → Act β) (h : a s = .ok x t) :
    (a >>= f) s = f x t := by rw [run_bind, h]
@[simp] theorem run_ite {α : Type} (c : Prop) [Decidable c] (a b : Act α) (s : State) :
    (if c then a else b) s = if c then a s else b s := by split <;> rfl
@[simp] theorem run_drawBit (s : State) :
    drawBit s = .ok (Config.freeBit s.freeCtr) { s with freeCtr := s.freeCtr + 1 } := rfl
@[simp] theorem run_drawWord (s : State) :
    drawWord s = .ok (Config.freeWord s.freeCtr) { s with freeCtr := s.freeCtr + 1 } := rfl
@[simp] theorem run_getReg (r : Reg) (s : State) : getReg r s = .ok (s.regs.get r) s := rfl
@[simp] theorem run_getReg8 (r : Reg8) (s : State) : getReg8 r s = .ok (s.regs.get8 r) s := rfl
@[simp] theorem run_getRegV (sz : OSize) (r : Reg) (s : State) :
    getRegV sz r s = .ok ((s.regs.get r).setWidth (osBits sz)) s := rfl
@[simp] theorem run_setReg (r : Reg) (v : Word) (s : State) :
    setReg r v s = .ok () { s with regs := s.regs.set r v } := rfl
@[simp] theorem run_setRegN {n : Nat} (r : Reg) (v : BitVec n) (s : State) :
    setRegN r v s = .ok () { s with regs := s.regs.set r (mergeLow (s.regs.get r) v) } := rfl
@[simp] theorem run_setReg8 (r : Reg8) (v : Byte) (s : State) :
    setReg8 r v s = .ok () { s with regs := s.regs.set8 r v } := rfl
@[simp] theorem run_getFlags (s : State) : getFlags s = .ok s.flags s := rfl
@[simp] theorem run_setFlags (f : Flags) (s : State) : setFlags f s = .ok () { s with flags := f } := rfl
@[simp] theorem run_setSeg (r : SegReg) (g : Seg) (s : State) :
    setSeg r g s = .ok () { s with segs := s.segs.set r g } := rfl

/-- An action that answers is the instruction's next state. -/
theorem runInstr_ok {a : Act Unit} {s t : State} (h : a s = .ok () t) : runInstr a s = .next t := by
  show (match a s with | .ok _ s' => _ | .error (.refuse r) _ => _ | .error (.exc x) s' => _) = _
  rw [h]
/-- An action that raises an exception delivers it, its effects undone. -/
theorem runInstr_exc {a : Act Unit} {s t : State} {x : Exc} (h : a s = .error (.exc x) t) :
    runInstr a s = deliverFault x (rollback s t) := by
  show (match a s with | .ok _ s' => _ | .error (.refuse r) _ => _ | .error (.exc x) s' => _) = _
  rw [h]
/-- An action that refuses. -/
theorem runInstr_refuse {a : Act Unit} {s t : State} {r : Refusal} (h : a s = .error (.refuse r) t) :
    runInstr a s = .refused r := by
  show (match a s with | .ok _ s' => _ | .error (.refuse r) _ => _ | .error (.exc x) s' => _) = _
  rw [h]
/-- What an instruction's outcome can be. -/
theorem runInstr_next {a : Act Unit} {s t : State} (h : runInstr a s = .next t) :
    a s = .ok () t ∨ ∃ x u, a s = .error (.exc x) u ∧ deliverFault x (rollback s u) = .next t := by
  cases ha : a s with
  | ok x u => rw [runInstr_ok ha] at h; cases h; exact .inl rfl
  | error e u =>
    cases e with
    | exc x => exact .inr ⟨x, u, rfl, by rw [← h, runInstr_exc ha]⟩
    | refuse r => rw [runInstr_refuse ha] at h; cases h

/-! Relations between the states before and after an action, kept whatever it answers. -/

/-- `a` relates every state to the one it ends in. -/
def Act.Keeps {α : Type} (R : State → State → Prop) (a : Act α) : Prop :=
  ∀ s, match a s with
    | .ok _ t => R s t
    | .error _ t => R s t

section
variable {R : State → State → Prop} {α β : Type}

theorem Act.Keeps.ok {a : Act α} (h : a.Keeps R) {s t : State} {x : α} (e : a s = .ok x t) : R s t := by
  have := h s; rw [e] at this; exact this
theorem Act.Keeps.error {a : Act α} (h : a.Keeps R) {s t : State} {x : Stop} (e : a s = .error x t) : R s t := by
  have := h s; rw [e] at this; exact this
theorem keeps_pure (hr : ∀ s, R s s) (x : α) : Act.Keeps R (pure x : Act α) := fun s => hr s
theorem keeps_get (hr : ∀ s, R s s) : Act.Keeps R (get : Act State) := fun s => hr s
theorem keeps_raise (hr : ∀ s, R s s) (e : Exc) : Act.Keeps R (raise e : Act α) := fun s => hr s
theorem keeps_refuse (hr : ∀ s, R s s) (r : Refusal) : Act.Keeps R (refuse r : Act α) := fun s => hr s
theorem keeps_upd {f : State → State} (h : ∀ s, R s (f s)) : Act.Keeps R (upd f) := fun s => h s
theorem keeps_bind (ht : ∀ {s t u}, R s t → R t u → R s u) {a : Act α} {f : α → Act β} (ha : a.Keeps R)
    (hf : ∀ x, (f x).Keeps R) : Act.Keeps R (a >>= f) := by
  intro s
  rw [run_bind]
  cases h : a s with
  | ok x t =>
    have h1 := ha.ok h
    have h2 := hf x t
    simp only
    cases h' : f x t with
    | ok y u => rw [h'] at h2; exact ht h1 h2
    | error y u => rw [h'] at h2; exact ht h1 h2
  | error e t => exact ha.error h
theorem keeps_ite {c : Prop} [Decidable c] {a b : Act α} (ha : a.Keeps R) (hb : b.Keeps R) :
    Act.Keeps R (if c then a else b) := by
  split
  · exact ha
  · exact hb
end

end Sys2Proof.Machine
end

