-- ==== Sys2Proof/Laws/Memory.lean ====
section
/-! SUPPORT. Memory: a byte written is read back, other bytes stay, and every memory operation keeps the canonical form. -/
namespace Sys2Proof.Machine
open Sys2Proof

/-! The list of cells. -/

theorem Memory.wfFrom_mono {lo hi : Nat} {m : Memory} (h : m.wfFrom hi = true) (le : lo ≤ hi) : m.wfFrom lo = true := by
  cases m with
  | nil => rfl
  | cons c rest =>
    simp only [Memory.wfFrom, Bool.and_eq_true, decide_eq_true_eq] at h ⊢
    exact ⟨⟨⟨by omega, h.1.1.2⟩, h.1.2⟩, h.2⟩

theorem Memory.read_below {lo : Nat} {m : Memory} (h : m.wfFrom lo = true) {a : Nat} (ha : a < lo) :
    m.read a = Memory.unlisted := by
  induction m generalizing lo with
  | nil => rfl
  | cons c rest ih =>
    obtain ⟨x, b⟩ := c
    simp only [Memory.wfFrom, Bool.and_eq_true, decide_eq_true_eq] at h
    have hx : a ≠ x := by omega
    simp only [Memory.read, hx, if_false]
    exact ih h.2 (by omega)

/-- A byte written is read back. -/
theorem Memory.read_write_same {m : Memory} {lo : Nat} (h : m.wfFrom lo = true) (a : Nat) (v : Byte) :
    (m.write a v).read a = v := by
  induction m generalizing lo with
  | nil =>
    simp only [Memory.write]
    split
    · simp_all [Memory.read]
    · simp [Memory.read]
  | cons c rest ih =>
    obtain ⟨x, b⟩ := c
    simp only [Memory.wfFrom, Bool.and_eq_true, decide_eq_true_eq] at h
    simp only [Memory.write]
    split
    · rename_i hlt
      split
      · rename_i hv
        have hx : a ≠ x := by omega
        simp only [Memory.read, hx, if_false, hv]
        exact Memory.read_below h.2 (by omega)
      · simp [Memory.read]
    · split
      · rename_i he
        split
        · rename_i hv
          rw [hv]; exact Memory.read_below h.2 (by omega)
        · simp [Memory.read]
      · rename_i hlt hne
        simp only [Memory.read, hne, if_false]
        exact ih h.2

/-- A write leaves every other byte alone. -/
theorem Memory.read_write_other (m : Memory) {a b : Nat} (v : Byte) (h : b ≠ a) : (m.write a v).read b = m.read b := by
  induction m with
  | nil =>
    simp only [Memory.write]
    split
    · rfl
    · simp [Memory.read, h]
  | cons c rest ih =>
    obtain ⟨x, w⟩ := c
    simp only [Memory.write]
    split
    · split
      · rfl
      · simp [Memory.read, h]
    · split
      · rename_i he
        have hx : b ≠ x := by omega
        split <;> simp [Memory.read, hx, h]
      · simp only [Memory.read, ih]

theorem Memory.write_wfFrom {m : Memory} {lo : Nat} (h : m.wfFrom lo = true) {a : Nat} (hlo : lo ≤ a)
    (ha : a < 0x100000000) (v : Byte) : (m.write a v).wfFrom lo = true := by
  induction m generalizing lo with
  | nil =>
    simp only [Memory.write]
    split
    · rfl
    · rename_i hv
      simp [Memory.wfFrom, hlo, ha, hv]
  | cons c rest ih =>
    obtain ⟨x, b⟩ := c
    have h0 := h
    simp only [Memory.wfFrom, Bool.and_eq_true, decide_eq_true_eq] at h
    simp only [Memory.write]
    split
    · rename_i hlt
      split
      · exact h0
      · rename_i hv
        simp [Memory.wfFrom, hlo, ha, hv]
        exact ⟨⟨⟨by omega, h.1.1.2⟩, by simpa using h.1.2⟩, h.2⟩
    · split
      · rename_i he
        split
        · exact Memory.wfFrom_mono h.2 (by omega)
        · rename_i hv
          simp [Memory.wfFrom, hlo, ha, hv]
          rw [he]; exact h.2
      · rename_i hlt hne
        simp only [Memory.wfFrom, Bool.and_eq_true, decide_eq_true_eq]
        exact ⟨h.1, ih h.2 (by omega)⟩

/-- A write keeps the canonical form. -/
theorem Memory.write_wf {m : Memory} (h : m.wf = true) {a : Nat} (ha : a < 0x100000000) (v : Byte) :
    (m.write a v).wf = true := Memory.write_wfFrom h (Nat.zero_le _) ha v

/-- Consecutive writes keep the canonical form. -/
theorem Memory.writeBytes_wf {m : Memory} (h : m.wf = true) {a : Nat} {bs : List Byte}
    (ha : a + bs.length ≤ 0x100000000) : (m.writeBytes a bs).wf = true := by
  induction bs generalizing m a with
  | nil => exact h
  | cons b rest ih =>
    simp only [List.length_cons] at ha
    exact ih (Memory.write_wf h (by omega) b) (by omega)

/-! Physical memory. -/

/-- Storing behind the cache keeps both memories canonical. -/
theorem State.setMemByte_memoryOk {s : State} (h : s.memoryOk = true) (pa : Word) (v : Byte) :
    (s.setMemByte pa v).memoryOk = true := by
  simp only [State.memoryOk, Bool.and_eq_true] at h ⊢
  unfold State.setMemByte State.setMainByte
  split
  · exact ⟨h.1, Memory.write_wf h.2 (by omega) v⟩
  · split
    · exact ⟨Memory.write_wf h.1 (by omega) v, h.2⟩
    · exact h

/-- What storing behind the cache can change: the memories. -/
theorem State.setMemByte_eq (s : State) (pa : Word) (v : Byte) :
    ∃ m m', s.setMemByte pa v = { s with mem := m, smm := m' } := by
  unfold State.setMemByte State.setMainByte
  split
  · exact ⟨_, _, rfl⟩
  · split <;> exact ⟨_, _, rfl⟩

/-- What a store of a byte can change: the memories, the cache and the bytes fetch may still see. -/
theorem State.storeByte_eq (s : State) (p : PA) (v : Byte) :
    ∃ m m' c, s.storeByte p v =
      { s with mem := m, smm := m', cache := c
               stale := { smm := s.smmSelected p.addr, addr := p.addr.toNat, byte := s.physByte p.addr } :: s.stale } := by
  unfold State.storeByte
  simp only
  split
  · unfold State.writeLine
    simp only
    split
    · exact ⟨_, _, _, rfl⟩
    · rename_i e _ _
      obtain ⟨m, m', h⟩ := State.setMemByte_eq
        { s with
          stale := { smm := s.smmSelected p.addr, addr := p.addr.toNat, byte := s.physByte p.addr } :: s.stale
          cache := { s.cache with dirty := s.cache.dirty || (s.writeBack p && (s.cache.used || s.cacheable p)) } } p.addr v
      rw [h]
      exact ⟨_, _, _, rfl⟩
  · obtain ⟨m, m', h⟩ := State.setMemByte_eq
      { s with
        stale := { smm := s.smmSelected p.addr, addr := p.addr.toNat, byte := s.physByte p.addr } :: s.stale
        cache := { s.cache with dirty := s.cache.dirty || (s.writeBack p && (s.cache.used || s.cacheable p)) } } p.addr v
    rw [h]
    exact ⟨_, _, _, rfl⟩

/-- A store of a byte keeps both memories canonical. -/
theorem State.storeByte_memoryOk {s : State} (h : s.memoryOk = true) (p : PA) (v : Byte) :
    (s.storeByte p v).memoryOk = true := by
  unfold State.storeByte
  simp only
  split
  · unfold State.writeLine
    simp only
    split
    · exact h
    · show (State.setMemByte _ p.addr v).memoryOk = true
      exact State.setMemByte_memoryOk (by exact h) p.addr v
  · exact State.setMemByte_memoryOk (by exact h) p.addr v

section
variable (s : State) (pa : PA) (v : Byte)
@[simp] theorem State.storeByte_regs : (s.storeByte pa v).regs = s.regs := by
  obtain ⟨_, _, _, h⟩ := s.storeByte_eq pa v; rw [h]
@[simp] theorem State.storeByte_flags : (s.storeByte pa v).flags = s.flags := by
  obtain ⟨_, _, _, h⟩ := s.storeByte_eq pa v; rw [h]
@[simp] theorem State.storeByte_eip : (s.storeByte pa v).eip = s.eip := by
  obtain ⟨_, _, _, h⟩ := s.storeByte_eq pa v; rw [h]
@[simp] theorem State.storeByte_segs : (s.storeByte pa v).segs = s.segs := by
  obtain ⟨_, _, _, h⟩ := s.storeByte_eq pa v; rw [h]
@[simp] theorem State.storeByte_cpl : (s.storeByte pa v).cpl = s.cpl := by
  obtain ⟨_, _, _, h⟩ := s.storeByte_eq pa v; rw [h]
@[simp] theorem State.storeByte_cr0 : (s.storeByte pa v).cr0 = s.cr0 := by
  obtain ⟨_, _, _, h⟩ := s.storeByte_eq pa v; rw [h]
@[simp] theorem State.storeByte_cfg : (s.storeByte pa v).cfg = s.cfg := by
  obtain ⟨_, _, _, h⟩ := s.storeByte_eq pa v; rw [h]
@[simp] theorem State.storeByte_inSmm : (s.storeByte pa v).inSmm = s.inSmm := by
  obtain ⟨_, _, _, h⟩ := s.storeByte_eq pa v; rw [h]
@[simp] theorem State.storeByte_freeCtr : (s.storeByte pa v).freeCtr = s.freeCtr := by
  obtain ⟨_, _, _, h⟩ := s.storeByte_eq pa v; rw [h]
@[simp] theorem State.storeByte_cur : (s.storeByte pa v).cur = s.cur := by
  obtain ⟨_, _, _, h⟩ := s.storeByte_eq pa v; rw [h]
@[simp] theorem State.storeByte_fpu : (s.storeByte pa v).fpu = s.fpu := by
  obtain ⟨_, _, _, h⟩ := s.storeByte_eq pa v; rw [h]
@[simp] theorem State.storeByte_bus : (s.storeByte pa v).bus = s.bus := by
  obtain ⟨_, _, _, h⟩ := s.storeByte_eq pa v; rw [h]
@[simp] theorem State.storeByte_writeProtected (q : PA) :
    (s.storeByte pa v).writeProtected q = s.writeProtected q := by
  obtain ⟨_, _, _, h⟩ := s.storeByte_eq pa v; rw [h]; rfl
end

/-- Storing bytes is storing them one by one: what each store keeps, all keep. -/
theorem State.storeBytes_keeps {α : Type} (f : State → α) (h : ∀ s pa v, f (State.storeByte s pa v) = f s) (s : State)
    (pas : List PA) (bs : List Byte) : f (s.storeBytes pas bs) = f s := by
  induction pas generalizing s bs with
  | nil => cases bs <;> rfl
  | cons pa rest ih =>
    cases bs with
    | nil => rfl
    | cons b bs' => exact (ih _ _).trans (h _ _ _)
@[simp] theorem State.storeBytes_regs (s : State) (pas : List PA) (bs : List Byte) :
    (s.storeBytes pas bs).regs = s.regs := storeBytes_keeps State.regs (fun _ _ _ => storeByte_regs _ _ _) s pas bs
@[simp] theorem State.storeBytes_flags (s : State) (pas : List PA) (bs : List Byte) :
    (s.storeBytes pas bs).flags = s.flags := storeBytes_keeps State.flags (fun _ _ _ => storeByte_flags _ _ _) s pas bs
@[simp] theorem State.storeBytes_segs (s : State) (pas : List PA) (bs : List Byte) :
    (s.storeBytes pas bs).segs = s.segs := storeBytes_keeps State.segs (fun _ _ _ => storeByte_segs _ _ _) s pas bs
@[simp] theorem State.storeBytes_eip (s : State) (pas : List PA) (bs : List Byte) :
    (s.storeBytes pas bs).eip = s.eip := storeBytes_keeps State.eip (fun _ _ _ => storeByte_eip _ _ _) s pas bs
@[simp] theorem State.storeBytes_cfg (s : State) (pas : List PA) (bs : List Byte) :
    (s.storeBytes pas bs).cfg = s.cfg := storeBytes_keeps State.cfg (fun _ _ _ => storeByte_cfg _ _ _) s pas bs
@[simp] theorem State.storeBytes_freeCtr (s : State) (pas : List PA) (bs : List Byte) :
    (s.storeBytes pas bs).freeCtr = s.freeCtr := storeBytes_keeps State.freeCtr (fun _ _ _ => storeByte_freeCtr _ _ _) s pas bs
@[simp] theorem State.storeBytes_cur (s : State) (pas : List PA) (bs : List Byte) :
    (s.storeBytes pas bs).cur = s.cur := storeBytes_keeps State.cur (fun _ _ _ => storeByte_cur _ _ _) s pas bs
@[simp] theorem State.storeBytes_fpu (s : State) (pas : List PA) (bs : List Byte) :
    (s.storeBytes pas bs).fpu = s.fpu := storeBytes_keeps State.fpu (fun _ _ _ => storeByte_fpu _ _ _) s pas bs
@[simp] theorem State.storeBytes_bus (s : State) (pas : List PA) (bs : List Byte) :
    (s.storeBytes pas bs).bus = s.bus := storeBytes_keeps State.bus (fun _ _ _ => storeByte_bus _ _ _) s pas bs
@[simp] theorem State.storeBytes_writeOk (s : State) (pas : List PA) (bs : List Byte) (qas : List PA) :
    (s.storeBytes pas bs).writeOk qas = s.writeOk qas :=
  storeBytes_keeps (fun s => s.writeOk qas) (fun s pa v => by simp [State.writeOk, State.storeOk, State.busIdle]) s pas bs
@[simp] theorem State.storeBytes_itemsOk (s : State) (pas : List PA) (bs : List Byte) (places : List (List PA)) :
    (s.storeBytes pas bs).itemsOk places = s.itemsOk places := by simp [State.itemsOk, List.all_congr]

/-! What other bus agents do (R13 d), and the accesses. -/

/-- Where no other agent acts, the bus being free changes nothing. -/
theorem busPoint_idle {s : State} (h : s.busIdle = true) (c : Bool) : busPoint c s = .ok () s := by
  have hb : s.bus = [] := by simpa [State.busIdle] using h
  cases c
  · rfl
  · simp only [busPoint, if_true, run_upd, State.busNext, hb]
/-- Reading bytes answers what is there (R157). -/
theorem readBytes_ok {s : State} (h : s.readOk = true) (c : Bool) (pas : List PA) :
    readBytes c pas s = .ok (s.bytesAt (addrs pas)) s := by
  have hb : s.cfg.anyRegionBad = false ∧ s.busIdle = true := by simpa [State.readOk] using h
  induction pas with
  | nil => rfl
  | cons p rest ih =>
    have h1 : physReadByte p.addr s = .ok (s.physByte p.addr) s := by simp [physReadByte, hb.1]
    simp only [readBytes]
    rw [run_bind_ok _ (busPoint_idle hb.2 c), run_bind_ok _ h1, run_bind_ok _ ih]
    rfl
theorem physRead_ok {s : State} (h : s.readOk = true) (pas : List PA) :
    physRead pas s = .ok (s.bytesAt (addrs pas)) s := by
  have hb : s.cfg.anyRegionBad = false ∧ s.busIdle = true := by simpa [State.readOk] using h
  simp only [physRead]
  rw [run_bind_ok _ (busPoint_idle hb.2 _)]
  exact readBytes_ok h _ pas
/-- Writing bytes stores them (R157). -/
theorem writeBytes_ok {s : State} {pas : List PA} (h : s.writeOk pas = true) (c : Bool) (bs : List Byte) :
    writeBytes c pas bs s = .ok () (s.storeBytes pas bs) := by
  induction pas generalizing s bs with
  | nil => cases bs <;> rfl
  | cons pa rest ih =>
    cases bs with
    | nil => rfl
    | cons b bs' =>
      have h2 : (s.cfg.anyRegionBad = false ∧ s.writeProtected pa = false ∧ ∀ q ∈ rest, s.writeProtected q = false) ∧
          s.busIdle = true := by simpa [State.writeOk, State.storeOk] using h
      have h1 : physWriteByte pa b s = .ok () (s.storeByte pa b) := by simp [physWriteByte, h2.1.1, h2.1.2.1]
      simp only [writeBytes, State.storeBytes]
      rw [run_bind_ok _ (busPoint_idle h2.2 c), run_bind_ok _ h1]
      refine ih ?_ bs'
      simp only [State.writeOk, State.storeOk, State.busIdle, State.storeByte_cfg, State.storeByte_bus,
        State.storeByte_writeProtected, Bool.and_eq_true, List.all_eq_true, Bool.not_eq_true']
      exact ⟨⟨h2.1.1, h2.1.2.2⟩, h2.2⟩
theorem physWrite_ok {s : State} {pas : List PA} (h : s.writeOk pas = true) (bs : List Byte) :
    physWrite pas bs s = .ok () (s.storeBytes pas bs) := by
  have hb : s.busIdle = true := by
    simp only [State.writeOk, Bool.and_eq_true] at h; exact h.2
  simp only [physWrite]
  rw [run_bind_ok _ (busPoint_idle hb _)]
  exact writeBytes_ok h _ bs

/-! What other bus agents do keeps both memories canonical (R171, R620). -/

theorem State.setMainByte_memoryOk {s : State} (h : s.memoryOk = true) (pa : Word) (v : Byte) :
    (s.setMainByte pa v).memoryOk = true := by
  simp only [State.memoryOk, Bool.and_eq_true] at h ⊢
  unfold State.setMainByte
  split
  · exact ⟨Memory.write_wf h.1 (by omega) v, h.2⟩
  · exact h
theorem State.setMainBytes_memoryOk {s : State} (h : s.memoryOk = true) (a : Word) (bs : List Byte) :
    (s.setMainBytes a bs).memoryOk = true := by
  induction bs generalizing s a with
  | nil => exact h
  | cons b rest ih => exact ih (State.setMainByte_memoryOk h a b) _
theorem CacheLine.address_le (l : CacheLine) (k : Nat) : l.address k + 32 ≤ 0x100000000 := by
  have h2 := (l.tag ++ BitVec.ofNat 9 (k % 512)).isLt
  have h : l.address k = (l.tag ++ BitVec.ofNat 9 (k % 512)).toNat * 32 := by
    rw [CacheLine.address, BitVec.toNat_append]
    simp [Nat.shiftLeft_eq]
  omega
/-- Writing a sector back keeps both memories canonical (R171). -/
theorem State.writeBackSector_memoryOk {s : State} (h : s.memoryOk = true) (k i : Nat) (hi : i ≤ 1) (l : CacheLine) :
    (s.writeBackSector k i l).memoryOk = true := by
  unfold State.writeBackSector
  generalize ((if i = 0 then l.mesi0 else l.mesi1) == 0x8#4) = m
  cases m
  · exact h
  · simp only [if_true]
    split
    · simp only [State.memoryOk, Bool.and_eq_true] at h ⊢
      refine ⟨h.1, Memory.writeBytes_wf h.2 ?_⟩
      have := l.address_le k
      have := List.length_take_le 16 ((wordsBytes l.data).drop (16 * i))
      omega
    · exact State.setMainBytes_memoryOk h _ _
theorem State.inquiryWriteBack_memoryOk {s : State} (h : s.memoryOk = true) (pa : Word) :
    (s.inquiryWriteBack pa).memoryOk = true := by
  unfold State.inquiryWriteBack
  split
  · exact State.writeBackSector_memoryOk h _ _ (by split <;> omega) _
  · exact h
/-- What other agents do at one moment keeps both memories canonical. -/
theorem State.busDo_memoryOk {s : State} (h : s.memoryOk = true) (es : List BusEvent) : (s.busDo es).memoryOk = true := by
  induction es generalizing s with
  | nil => exact h
  | cons e rest ih =>
    cases e with
    | read pa => exact ih (s := s.busRead pa) (State.inquiryWriteBack_memoryOk h pa)
    | write pa v =>
      exact ih (s := s.busWrite pa v) (State.setMainByte_memoryOk (State.inquiryWriteBack_memoryOk h pa) pa v)
/-- So does the bus being free. -/
theorem State.busNext_memoryOk {s : State} (h : s.memoryOk = true) : s.busNext.memoryOk = true := by
  unfold State.busNext
  split
  · exact h
  · exact State.busDo_memoryOk (by exact h) _

/-! Operands at a place. -/

/-- A readable place answers its value (R282). -/
theorem readPlace_ok (n : Nat) {s : State} {p : Place} (h : s.placeReadable p = true) :
    readPlace n p s = .ok (s.placeValue n p) s := by
  cases p with
  | reg r => rfl
  | reg8 r => rfl
  | mem pas =>
    simp only [readPlace]
    rw [run_bind_ok _ (physRead_ok h pas)]
    rfl
/-- A writable place is written (R282). -/
theorem writePlace_ok {n : Nat} {s : State} {p : Place} (h : s.placeWritable p = true) (v : BitVec n) :
    writePlace p v s = .ok () (s.putPlace p v) := by
  cases p with
  | reg r => rfl
  | reg8 r => rfl
  | mem pas => exact physWrite_ok h _
/-- Flags and draws do not matter to whether a place can be written. -/
@[simp] theorem placeWritable_flags (s : State) (f : Flags) (k : Nat) (p : Place) :
    ({ s with flags := f, freeCtr := k } : State).placeWritable p = s.placeWritable p := by cases p <;> rfl
@[simp] theorem placeWritable_flags_only (s : State) (f : Flags) (p : Place) :
    ({ s with flags := f } : State).placeWritable p = s.placeWritable p := by cases p <;> rfl
@[simp] theorem placeWritable_regs (s : State) (g : Regs) (p : Place) :
    ({ s with regs := g } : State).placeWritable p = s.placeWritable p := by cases p <;> rfl

/-- Items are stored where they were checked (R365). -/
theorem writeItems_ok (sz : OSize) {s : State} {places : List (List PA)} (h : s.itemsOk places = true)
    (vals : List Word) : writeItems sz places vals s = .ok () (s.storeItems sz places vals) := by
  induction places generalizing s vals with
  | nil => cases vals <;> rfl
  | cons pas ps ih =>
    cases vals with
    | nil => rfl
    | cons v vs =>
      have h2 : s.writeOk pas = true ∧ s.itemsOk ps = true := by
        simpa [State.itemsOk] using h
      simp only [writeItems, State.storeItems]
      rw [run_bind_ok _ (physWrite_ok h2.1 _)]
      exact ih (by simpa using h2.2) vs

end Sys2Proof.Machine
end

