-- ==== Sys2Proof/Laws/State.lean ====
section
/-! SUPPORT. State updates: one lemma per field per update, and the registers: a register written is read back, the others stay. -/
namespace Sys2Proof.Machine
open Sys2Proof

section
variable (s : State) (n : Nat)
@[simp] theorem State.advance_regs : (s.advance n).regs = s.regs := rfl
@[simp] theorem State.advance_eip : (s.advance n).eip = s.offAfter s.eip n := rfl
@[simp] theorem State.advance_flags : (s.advance n).flags = s.flags := rfl
@[simp] theorem State.advance_segs : (s.advance n).segs = s.segs := rfl
@[simp] theorem State.advance_cpl : (s.advance n).cpl = s.cpl := rfl
@[simp] theorem State.advance_cr0 : (s.advance n).cr0 = s.cr0 := rfl
@[simp] theorem State.advance_cr2 : (s.advance n).cr2 = s.cr2 := rfl
@[simp] theorem State.advance_cr3 : (s.advance n).cr3 = s.cr3 := rfl
@[simp] theorem State.advance_cr4 : (s.advance n).cr4 = s.cr4 := rfl
@[simp] theorem State.advance_gdtr : (s.advance n).gdtr = s.gdtr := rfl
@[simp] theorem State.advance_idtr : (s.advance n).idtr = s.idtr := rfl
@[simp] theorem State.advance_ldtr : (s.advance n).ldtr = s.ldtr := rfl
@[simp] theorem State.advance_ldtrInvalid : (s.advance n).ldtrInvalid = s.ldtrInvalid := rfl
@[simp] theorem State.advance_tr : (s.advance n).tr = s.tr := rfl
@[simp] theorem State.advance_dr : (s.advance n).dr = s.dr := rfl
@[simp] theorem State.advance_test : (s.advance n).test = s.test := rfl
@[simp] theorem State.advance_tsc : (s.advance n).tsc = s.tsc := rfl
@[simp] theorem State.advance_cesr : (s.advance n).cesr = s.cesr := rfl
@[simp] theorem State.advance_pmc0 : (s.advance n).pmc0 = s.pmc0 := rfl
@[simp] theorem State.advance_pmc1 : (s.advance n).pmc1 = s.pmc1 := rfl
@[simp] theorem State.advance_fpu : (s.advance n).fpu = s.fpu := rfl
@[simp] theorem State.advance_cfg : (s.advance n).cfg = s.cfg := rfl
@[simp] theorem State.advance_smhr : (s.advance n).smhr = s.smhr := rfl
@[simp] theorem State.advance_nmiPending : (s.advance n).nmiPending = s.nmiPending := rfl
@[simp] theorem State.advance_nmiBlocked : (s.advance n).nmiBlocked = s.nmiBlocked := rfl
@[simp] theorem State.advance_smiPending : (s.advance n).smiPending = s.smiPending := rfl
@[simp] theorem State.advance_inSmm : (s.advance n).inSmm = s.inSmm := rfl
@[simp] theorem State.advance_halted : (s.advance n).halted = s.halted := rfl
@[simp] theorem State.advance_shutdown : (s.advance n).shutdown = s.shutdown := rfl
@[simp] theorem State.advance_suspended : (s.advance n).suspended = s.suspended := rfl
@[simp] theorem State.advance_shadow : (s.advance n).shadow = s.shadow := rfl
@[simp] theorem State.advance_trap : (s.advance n).trap = s.trap := rfl
@[simp] theorem State.advance_lastIp : (s.advance n).lastIp = s.lastIp := rfl
@[simp] theorem State.advance_lastIo : (s.advance n).lastIo = s.lastIo := rfl
@[simp] theorem State.advance_branchDue : (s.advance n).branchDue = s.branchDue := rfl
@[simp] theorem State.advance_tlb : (s.advance n).tlb = s.tlb := rfl
@[simp] theorem State.advance_cache : (s.advance n).cache = s.cache := rfl
@[simp] theorem State.advance_stale : (s.advance n).stale = s.stale := rfl
@[simp] theorem State.advance_mem : (s.advance n).mem = s.mem := rfl
@[simp] theorem State.advance_smm : (s.advance n).smm = s.smm := rfl
@[simp] theorem State.advance_ken : (s.advance n).ken = s.ken := rfl
@[simp] theorem State.advance_starting : (s.advance n).starting = s.starting := rfl
@[simp] theorem State.advance_part : (s.advance n).part = s.part := rfl
@[simp] theorem State.advance_ioLog : (s.advance n).ioLog = s.ioLog := rfl
@[simp] theorem State.advance_env : (s.advance n).env = s.env := rfl
@[simp] theorem State.advance_bus : (s.advance n).bus = s.bus := rfl
@[simp] theorem State.advance_nmiLevel : (s.advance n).nmiLevel = s.nmiLevel := rfl
@[simp] theorem State.advance_smiLevel : (s.advance n).smiLevel = s.smiLevel := rfl
@[simp] theorem State.advance_freeCtr : (s.advance n).freeCtr = s.freeCtr := rfl
@[simp] theorem State.advance_cur : (s.advance n).cur = s.cur := rfl
end

section
variable (s : State)
@[simp] theorem State.startInstr_regs : (s.startInstr).regs = s.regs := rfl
@[simp] theorem State.startInstr_eip : (s.startInstr).eip = s.eip := rfl
@[simp] theorem State.startInstr_flags : (s.startInstr).flags = s.flags := rfl
@[simp] theorem State.startInstr_segs : (s.startInstr).segs = s.segs := rfl
@[simp] theorem State.startInstr_cpl : (s.startInstr).cpl = s.cpl := rfl
@[simp] theorem State.startInstr_cr0 : (s.startInstr).cr0 = s.cr0 := rfl
@[simp] theorem State.startInstr_cr2 : (s.startInstr).cr2 = s.cr2 := rfl
@[simp] theorem State.startInstr_cr3 : (s.startInstr).cr3 = s.cr3 := rfl
@[simp] theorem State.startInstr_cr4 : (s.startInstr).cr4 = s.cr4 := rfl
@[simp] theorem State.startInstr_gdtr : (s.startInstr).gdtr = s.gdtr := rfl
@[simp] theorem State.startInstr_idtr : (s.startInstr).idtr = s.idtr := rfl
@[simp] theorem State.startInstr_ldtr : (s.startInstr).ldtr = s.ldtr := rfl
@[simp] theorem State.startInstr_ldtrInvalid : (s.startInstr).ldtrInvalid = s.ldtrInvalid := rfl
@[simp] theorem State.startInstr_tr : (s.startInstr).tr = s.tr := rfl
@[simp] theorem State.startInstr_dr : (s.startInstr).dr = s.dr := rfl
@[simp] theorem State.startInstr_test : (s.startInstr).test = s.test := rfl
@[simp] theorem State.startInstr_tsc : (s.startInstr).tsc = s.tsc := rfl
@[simp] theorem State.startInstr_cesr : (s.startInstr).cesr = s.cesr := rfl
@[simp] theorem State.startInstr_pmc0 : (s.startInstr).pmc0 = s.pmc0 := rfl
@[simp] theorem State.startInstr_pmc1 : (s.startInstr).pmc1 = s.pmc1 := rfl
@[simp] theorem State.startInstr_fpu : (s.startInstr).fpu = s.fpu := rfl
@[simp] theorem State.startInstr_cfg : (s.startInstr).cfg = s.cfg := rfl
@[simp] theorem State.startInstr_smhr : (s.startInstr).smhr = s.smhr := rfl
@[simp] theorem State.startInstr_nmiPending : (s.startInstr).nmiPending = s.nmiPending := rfl
@[simp] theorem State.startInstr_nmiBlocked : (s.startInstr).nmiBlocked = s.nmiBlocked := rfl
@[simp] theorem State.startInstr_smiPending : (s.startInstr).smiPending = s.smiPending := rfl
@[simp] theorem State.startInstr_inSmm : (s.startInstr).inSmm = s.inSmm := rfl
@[simp] theorem State.startInstr_halted : (s.startInstr).halted = s.halted := rfl
@[simp] theorem State.startInstr_shutdown : (s.startInstr).shutdown = s.shutdown := rfl
@[simp] theorem State.startInstr_suspended : (s.startInstr).suspended = s.suspended := rfl
@[simp] theorem State.startInstr_shadow : (s.startInstr).shadow = .none := rfl
@[simp] theorem State.startInstr_trap : (s.startInstr).trap = s.trap := rfl
@[simp] theorem State.startInstr_lastIp : (s.startInstr).lastIp = s.lastIp := rfl
@[simp] theorem State.startInstr_lastIo : (s.startInstr).lastIo = s.lastIo := rfl
@[simp] theorem State.startInstr_branchDue : (s.startInstr).branchDue = s.branchDue := rfl
@[simp] theorem State.startInstr_tlb : (s.startInstr).tlb = s.tlb := rfl
@[simp] theorem State.startInstr_cache : (s.startInstr).cache = s.cache := rfl
@[simp] theorem State.startInstr_stale : (s.startInstr).stale = s.stale := rfl
@[simp] theorem State.startInstr_mem : (s.startInstr).mem = s.mem := rfl
@[simp] theorem State.startInstr_smm : (s.startInstr).smm = s.smm := rfl
@[simp] theorem State.startInstr_ken : (s.startInstr).ken = s.ken := rfl
@[simp] theorem State.startInstr_starting : (s.startInstr).starting = s.starting := rfl
@[simp] theorem State.startInstr_part : (s.startInstr).part = s.part := rfl
@[simp] theorem State.startInstr_ioLog : (s.startInstr).ioLog = s.ioLog := rfl
@[simp] theorem State.startInstr_env : (s.startInstr).env = s.env := rfl
@[simp] theorem State.startInstr_bus : (s.startInstr).bus = s.bus := rfl
@[simp] theorem State.startInstr_nmiLevel : (s.startInstr).nmiLevel = s.nmiLevel := rfl
@[simp] theorem State.startInstr_smiLevel : (s.startInstr).smiLevel = s.smiLevel := rfl
@[simp] theorem State.startInstr_freeCtr : (s.startInstr).freeCtr = s.freeCtr := rfl
@[simp] theorem State.startInstr_cur : (s.startInstr).cur = { Current.start s.eip with fetchHits := s.execHits (s.segs.cs.base + s.eip), held := s.shadow } := rfl
end

section
variable (s : State)
@[simp] theorem State.enteredHandler_regs : (s.enteredHandler).regs = s.regs := rfl
@[simp] theorem State.enteredHandler_eip : (s.enteredHandler).eip = s.eip := rfl
@[simp] theorem State.enteredHandler_flags : (s.enteredHandler).flags = s.flags := rfl
@[simp] theorem State.enteredHandler_segs : (s.enteredHandler).segs = s.segs := rfl
@[simp] theorem State.enteredHandler_cpl : (s.enteredHandler).cpl = s.cpl := rfl
@[simp] theorem State.enteredHandler_cr0 : (s.enteredHandler).cr0 = s.cr0 := rfl
@[simp] theorem State.enteredHandler_cr2 : (s.enteredHandler).cr2 = s.cr2 := rfl
@[simp] theorem State.enteredHandler_cr3 : (s.enteredHandler).cr3 = s.cr3 := rfl
@[simp] theorem State.enteredHandler_cr4 : (s.enteredHandler).cr4 = s.cr4 := rfl
@[simp] theorem State.enteredHandler_gdtr : (s.enteredHandler).gdtr = s.gdtr := rfl
@[simp] theorem State.enteredHandler_idtr : (s.enteredHandler).idtr = s.idtr := rfl
@[simp] theorem State.enteredHandler_ldtr : (s.enteredHandler).ldtr = s.ldtr := rfl
@[simp] theorem State.enteredHandler_ldtrInvalid : (s.enteredHandler).ldtrInvalid = s.ldtrInvalid := rfl
@[simp] theorem State.enteredHandler_tr : (s.enteredHandler).tr = s.tr := rfl
@[simp] theorem State.enteredHandler_dr : (s.enteredHandler).dr = s.dr := rfl
@[simp] theorem State.enteredHandler_test : (s.enteredHandler).test = s.test := rfl
@[simp] theorem State.enteredHandler_tsc : (s.enteredHandler).tsc = s.tsc := rfl
@[simp] theorem State.enteredHandler_cesr : (s.enteredHandler).cesr = s.cesr := rfl
@[simp] theorem State.enteredHandler_pmc0 : (s.enteredHandler).pmc0 = s.pmc0 := rfl
@[simp] theorem State.enteredHandler_pmc1 : (s.enteredHandler).pmc1 = s.pmc1 := rfl
@[simp] theorem State.enteredHandler_fpu : (s.enteredHandler).fpu = s.fpu := rfl
@[simp] theorem State.enteredHandler_cfg : (s.enteredHandler).cfg = s.cfg := rfl
@[simp] theorem State.enteredHandler_smhr : (s.enteredHandler).smhr = s.smhr := rfl
@[simp] theorem State.enteredHandler_nmiPending : (s.enteredHandler).nmiPending = s.nmiPending := rfl
@[simp] theorem State.enteredHandler_nmiBlocked : (s.enteredHandler).nmiBlocked = s.nmiBlocked := rfl
@[simp] theorem State.enteredHandler_smiPending : (s.enteredHandler).smiPending = s.smiPending := rfl
@[simp] theorem State.enteredHandler_inSmm : (s.enteredHandler).inSmm = s.inSmm := rfl
@[simp] theorem State.enteredHandler_halted : (s.enteredHandler).halted = s.halted := rfl
@[simp] theorem State.enteredHandler_shutdown : (s.enteredHandler).shutdown = s.shutdown := rfl
@[simp] theorem State.enteredHandler_suspended : (s.enteredHandler).suspended = s.suspended := rfl
@[simp] theorem State.enteredHandler_shadow : (s.enteredHandler).shadow = s.shadow := rfl
@[simp] theorem State.enteredHandler_trap : (s.enteredHandler).trap = s.trap := rfl
@[simp] theorem State.enteredHandler_lastIp : (s.enteredHandler).lastIp = none := rfl
@[simp] theorem State.enteredHandler_lastIo : (s.enteredHandler).lastIo = none := rfl
@[simp] theorem State.enteredHandler_branchDue : (s.enteredHandler).branchDue = s.branchDue := rfl
@[simp] theorem State.enteredHandler_tlb : (s.enteredHandler).tlb = s.tlb := rfl
@[simp] theorem State.enteredHandler_cache : (s.enteredHandler).cache = s.cache := rfl
@[simp] theorem State.enteredHandler_stale : (s.enteredHandler).stale = s.stale := rfl
@[simp] theorem State.enteredHandler_mem : (s.enteredHandler).mem = s.mem := rfl
@[simp] theorem State.enteredHandler_smm : (s.enteredHandler).smm = s.smm := rfl
@[simp] theorem State.enteredHandler_ken : (s.enteredHandler).ken = s.ken := rfl
@[simp] theorem State.enteredHandler_starting : (s.enteredHandler).starting = s.starting := rfl
@[simp] theorem State.enteredHandler_part : (s.enteredHandler).part = s.part := rfl
@[simp] theorem State.enteredHandler_ioLog : (s.enteredHandler).ioLog = s.ioLog := rfl
@[simp] theorem State.enteredHandler_env : (s.enteredHandler).env = s.env := rfl
@[simp] theorem State.enteredHandler_bus : (s.enteredHandler).bus = s.bus := rfl
@[simp] theorem State.enteredHandler_nmiLevel : (s.enteredHandler).nmiLevel = s.nmiLevel := rfl
@[simp] theorem State.enteredHandler_smiLevel : (s.enteredHandler).smiLevel = s.smiLevel := rfl
@[simp] theorem State.enteredHandler_freeCtr : (s.enteredHandler).freeCtr = s.freeCtr := rfl
@[simp] theorem State.enteredHandler_cur : (s.enteredHandler).cur = { s.cur with entered := true } := rfl
end

section
variable (s : State)
@[simp] theorem State.awake_regs : (s.awake).regs = s.regs := rfl
@[simp] theorem State.awake_eip : (s.awake).eip = s.eip := rfl
@[simp] theorem State.awake_flags : (s.awake).flags = s.flags := rfl
@[simp] theorem State.awake_segs : (s.awake).segs = s.segs := rfl
@[simp] theorem State.awake_cpl : (s.awake).cpl = s.cpl := rfl
@[simp] theorem State.awake_cr0 : (s.awake).cr0 = s.cr0 := rfl
@[simp] theorem State.awake_cr2 : (s.awake).cr2 = s.cr2 := rfl
@[simp] theorem State.awake_cr3 : (s.awake).cr3 = s.cr3 := rfl
@[simp] theorem State.awake_cr4 : (s.awake).cr4 = s.cr4 := rfl
@[simp] theorem State.awake_gdtr : (s.awake).gdtr = s.gdtr := rfl
@[simp] theorem State.awake_idtr : (s.awake).idtr = s.idtr := rfl
@[simp] theorem State.awake_ldtr : (s.awake).ldtr = s.ldtr := rfl
@[simp] theorem State.awake_ldtrInvalid : (s.awake).ldtrInvalid = s.ldtrInvalid := rfl
@[simp] theorem State.awake_tr : (s.awake).tr = s.tr := rfl
@[simp] theorem State.awake_dr : (s.awake).dr = s.dr := rfl
@[simp] theorem State.awake_test : (s.awake).test = s.test := rfl
@[simp] theorem State.awake_tsc : (s.awake).tsc = s.tsc := rfl
@[simp] theorem State.awake_cesr : (s.awake).cesr = s.cesr := rfl
@[simp] theorem State.awake_pmc0 : (s.awake).pmc0 = s.pmc0 := rfl
@[simp] theorem State.awake_pmc1 : (s.awake).pmc1 = s.pmc1 := rfl
@[simp] theorem State.awake_fpu : (s.awake).fpu = s.fpu := rfl
@[simp] theorem State.awake_cfg : (s.awake).cfg = s.cfg := rfl
@[simp] theorem State.awake_smhr : (s.awake).smhr = s.smhr := rfl
@[simp] theorem State.awake_nmiPending : (s.awake).nmiPending = s.nmiPending := rfl
@[simp] theorem State.awake_nmiBlocked : (s.awake).nmiBlocked = s.nmiBlocked := rfl
@[simp] theorem State.awake_smiPending : (s.awake).smiPending = s.smiPending := rfl
@[simp] theorem State.awake_inSmm : (s.awake).inSmm = s.inSmm := rfl
@[simp] theorem State.awake_halted : (s.awake).halted = false := rfl
@[simp] theorem State.awake_shutdown : (s.awake).shutdown = s.shutdown := rfl
@[simp] theorem State.awake_suspended : (s.awake).suspended = false := rfl
@[simp] theorem State.awake_shadow : (s.awake).shadow = s.shadow := rfl
@[simp] theorem State.awake_trap : (s.awake).trap = s.trap := rfl
@[simp] theorem State.awake_lastIp : (s.awake).lastIp = s.lastIp := rfl
@[simp] theorem State.awake_lastIo : (s.awake).lastIo = s.lastIo := rfl
@[simp] theorem State.awake_branchDue : (s.awake).branchDue = s.branchDue := rfl
@[simp] theorem State.awake_tlb : (s.awake).tlb = s.tlb := rfl
@[simp] theorem State.awake_cache : (s.awake).cache = s.cache := rfl
@[simp] theorem State.awake_stale : (s.awake).stale = s.stale := rfl
@[simp] theorem State.awake_mem : (s.awake).mem = s.mem := rfl
@[simp] theorem State.awake_smm : (s.awake).smm = s.smm := rfl
@[simp] theorem State.awake_ken : (s.awake).ken = s.ken := rfl
@[simp] theorem State.awake_starting : (s.awake).starting = s.starting := rfl
@[simp] theorem State.awake_part : (s.awake).part = s.part := rfl
@[simp] theorem State.awake_ioLog : (s.awake).ioLog = s.ioLog := rfl
@[simp] theorem State.awake_env : (s.awake).env = s.env := rfl
@[simp] theorem State.awake_bus : (s.awake).bus = s.bus := rfl
@[simp] theorem State.awake_nmiLevel : (s.awake).nmiLevel = s.nmiLevel := rfl
@[simp] theorem State.awake_smiLevel : (s.awake).smiLevel = s.smiLevel := rfl
@[simp] theorem State.awake_freeCtr : (s.awake).freeCtr = s.freeCtr := rfl
@[simp] theorem State.awake_cur : (s.awake).cur = s.cur := rfl
end

section
variable (s : State) (i : Instr) (tf : Bool)
@[simp] theorem State.completed_regs : (s.completed i tf).regs = s.regs := rfl
@[simp] theorem State.completed_eip : (s.completed i tf).eip = s.eip := rfl
@[simp] theorem State.completed_segs : (s.completed i tf).segs = s.segs := rfl
@[simp] theorem State.completed_cpl : (s.completed i tf).cpl = s.cpl := rfl
@[simp] theorem State.completed_cr0 : (s.completed i tf).cr0 = s.cr0 := rfl
@[simp] theorem State.completed_cr2 : (s.completed i tf).cr2 = s.cr2 := rfl
@[simp] theorem State.completed_cr3 : (s.completed i tf).cr3 = s.cr3 := rfl
@[simp] theorem State.completed_cr4 : (s.completed i tf).cr4 = s.cr4 := rfl
@[simp] theorem State.completed_gdtr : (s.completed i tf).gdtr = s.gdtr := rfl
@[simp] theorem State.completed_idtr : (s.completed i tf).idtr = s.idtr := rfl
@[simp] theorem State.completed_ldtr : (s.completed i tf).ldtr = s.ldtr := rfl
@[simp] theorem State.completed_ldtrInvalid : (s.completed i tf).ldtrInvalid = s.ldtrInvalid := rfl
@[simp] theorem State.completed_tr : (s.completed i tf).tr = s.tr := rfl
@[simp] theorem State.completed_dr : (s.completed i tf).dr = s.dr := rfl
@[simp] theorem State.completed_test : (s.completed i tf).test = s.test := rfl
@[simp] theorem State.completed_tsc : (s.completed i tf).tsc = s.tsc := rfl
@[simp] theorem State.completed_cesr : (s.completed i tf).cesr = s.cesr := rfl
@[simp] theorem State.completed_pmc0 : (s.completed i tf).pmc0 = s.pmc0 := rfl
@[simp] theorem State.completed_pmc1 : (s.completed i tf).pmc1 = s.pmc1 := rfl
@[simp] theorem State.completed_fpu : (s.completed i tf).fpu = s.fpu := rfl
@[simp] theorem State.completed_cfg : (s.completed i tf).cfg = s.cfg := rfl
@[simp] theorem State.completed_smhr : (s.completed i tf).smhr = s.smhr := rfl
@[simp] theorem State.completed_nmiPending : (s.completed i tf).nmiPending = s.nmiPending := rfl
@[simp] theorem State.completed_nmiBlocked : (s.completed i tf).nmiBlocked = s.nmiBlocked := rfl
@[simp] theorem State.completed_smiPending : (s.completed i tf).smiPending = s.smiPending := rfl
@[simp] theorem State.completed_inSmm : (s.completed i tf).inSmm = s.inSmm := rfl
@[simp] theorem State.completed_halted : (s.completed i tf).halted = s.halted := rfl
@[simp] theorem State.completed_shutdown : (s.completed i tf).shutdown = s.shutdown := rfl
@[simp] theorem State.completed_suspended : (s.completed i tf).suspended = s.suspended := rfl
@[simp] theorem State.completed_shadow : (s.completed i tf).shadow = if s.cur.repeating then s.cur.held else s.shadow := rfl
@[simp] theorem State.completed_lastIp : (s.completed i tf).lastIp = some s.cur.ip := rfl
@[simp] theorem State.completed_lastIo : (s.completed i tf).lastIo = s.cur.io := rfl
@[simp] theorem State.completed_branchDue : (s.completed i tf).branchDue = s.branchDue := rfl
@[simp] theorem State.completed_tlb : (s.completed i tf).tlb = s.tlb := rfl
@[simp] theorem State.completed_cache : (s.completed i tf).cache = s.cache := rfl
@[simp] theorem State.completed_stale : (s.completed i tf).stale = s.stale := rfl
@[simp] theorem State.completed_mem : (s.completed i tf).mem = s.mem := rfl
@[simp] theorem State.completed_smm : (s.completed i tf).smm = s.smm := rfl
@[simp] theorem State.completed_ken : (s.completed i tf).ken = s.ken := rfl
@[simp] theorem State.completed_starting : (s.completed i tf).starting = s.starting := rfl
@[simp] theorem State.completed_part : (s.completed i tf).part = s.part := rfl
@[simp] theorem State.completed_ioLog : (s.completed i tf).ioLog = s.ioLog := rfl
@[simp] theorem State.completed_env : (s.completed i tf).env = s.env := rfl
@[simp] theorem State.completed_bus : (s.completed i tf).bus = s.bus := rfl
@[simp] theorem State.completed_nmiLevel : (s.completed i tf).nmiLevel = s.nmiLevel := rfl
@[simp] theorem State.completed_smiLevel : (s.completed i tf).smiLevel = s.smiLevel := rfl
@[simp] theorem State.completed_freeCtr : (s.completed i tf).freeCtr = s.freeCtr := rfl
@[simp] theorem State.completed_cur : (s.completed i tf).cur = s.cur := rfl
end

section
variable (s : State) (x : Word)
@[simp] theorem State.withStackPtr_regs : (s.withStackPtr x).regs = { s.regs with esp := newEsp s.segs.ss s.regs.esp x } := rfl
@[simp] theorem State.withStackPtr_eip : (s.withStackPtr x).eip = s.eip := rfl
@[simp] theorem State.withStackPtr_flags : (s.withStackPtr x).flags = s.flags := rfl
@[simp] theorem State.withStackPtr_segs : (s.withStackPtr x).segs = s.segs := rfl
@[simp] theorem State.withStackPtr_cpl : (s.withStackPtr x).cpl = s.cpl := rfl
@[simp] theorem State.withStackPtr_cr0 : (s.withStackPtr x).cr0 = s.cr0 := rfl
@[simp] theorem State.withStackPtr_cr2 : (s.withStackPtr x).cr2 = s.cr2 := rfl
@[simp] theorem State.withStackPtr_cr3 : (s.withStackPtr x).cr3 = s.cr3 := rfl
@[simp] theorem State.withStackPtr_cr4 : (s.withStackPtr x).cr4 = s.cr4 := rfl
@[simp] theorem State.withStackPtr_gdtr : (s.withStackPtr x).gdtr = s.gdtr := rfl
@[simp] theorem State.withStackPtr_idtr : (s.withStackPtr x).idtr = s.idtr := rfl
@[simp] theorem State.withStackPtr_ldtr : (s.withStackPtr x).ldtr = s.ldtr := rfl
@[simp] theorem State.withStackPtr_ldtrInvalid : (s.withStackPtr x).ldtrInvalid = s.ldtrInvalid := rfl
@[simp] theorem State.withStackPtr_tr : (s.withStackPtr x).tr = s.tr := rfl
@[simp] theorem State.withStackPtr_dr : (s.withStackPtr x).dr = s.dr := rfl
@[simp] theorem State.withStackPtr_test : (s.withStackPtr x).test = s.test := rfl
@[simp] theorem State.withStackPtr_tsc : (s.withStackPtr x).tsc = s.tsc := rfl
@[simp] theorem State.withStackPtr_cesr : (s.withStackPtr x).cesr = s.cesr := rfl
@[simp] theorem State.withStackPtr_pmc0 : (s.withStackPtr x).pmc0 = s.pmc0 := rfl
@[simp] theorem State.withStackPtr_pmc1 : (s.withStackPtr x).pmc1 = s.pmc1 := rfl
@[simp] theorem State.withStackPtr_fpu : (s.withStackPtr x).fpu = s.fpu := rfl
@[simp] theorem State.withStackPtr_cfg : (s.withStackPtr x).cfg = s.cfg := rfl
@[simp] theorem State.withStackPtr_smhr : (s.withStackPtr x).smhr = s.smhr := rfl
@[simp] theorem State.withStackPtr_nmiPending : (s.withStackPtr x).nmiPending = s.nmiPending := rfl
@[simp] theorem State.withStackPtr_nmiBlocked : (s.withStackPtr x).nmiBlocked = s.nmiBlocked := rfl
@[simp] theorem State.withStackPtr_smiPending : (s.withStackPtr x).smiPending = s.smiPending := rfl
@[simp] theorem State.withStackPtr_inSmm : (s.withStackPtr x).inSmm = s.inSmm := rfl
@[simp] theorem State.withStackPtr_halted : (s.withStackPtr x).halted = s.halted := rfl
@[simp] theorem State.withStackPtr_shutdown : (s.withStackPtr x).shutdown = s.shutdown := rfl
@[simp] theorem State.withStackPtr_suspended : (s.withStackPtr x).suspended = s.suspended := rfl
@[simp] theorem State.withStackPtr_shadow : (s.withStackPtr x).shadow = s.shadow := rfl
@[simp] theorem State.withStackPtr_trap : (s.withStackPtr x).trap = s.trap := rfl
@[simp] theorem State.withStackPtr_lastIp : (s.withStackPtr x).lastIp = s.lastIp := rfl
@[simp] theorem State.withStackPtr_lastIo : (s.withStackPtr x).lastIo = s.lastIo := rfl
@[simp] theorem State.withStackPtr_branchDue : (s.withStackPtr x).branchDue = s.branchDue := rfl
@[simp] theorem State.withStackPtr_tlb : (s.withStackPtr x).tlb = s.tlb := rfl
@[simp] theorem State.withStackPtr_cache : (s.withStackPtr x).cache = s.cache := rfl
@[simp] theorem State.withStackPtr_stale : (s.withStackPtr x).stale = s.stale := rfl
@[simp] theorem State.withStackPtr_mem : (s.withStackPtr x).mem = s.mem := rfl
@[simp] theorem State.withStackPtr_smm : (s.withStackPtr x).smm = s.smm := rfl
@[simp] theorem State.withStackPtr_ken : (s.withStackPtr x).ken = s.ken := rfl
@[simp] theorem State.withStackPtr_starting : (s.withStackPtr x).starting = s.starting := rfl
@[simp] theorem State.withStackPtr_part : (s.withStackPtr x).part = s.part := rfl
@[simp] theorem State.withStackPtr_ioLog : (s.withStackPtr x).ioLog = s.ioLog := rfl
@[simp] theorem State.withStackPtr_env : (s.withStackPtr x).env = s.env := rfl
@[simp] theorem State.withStackPtr_bus : (s.withStackPtr x).bus = s.bus := rfl
@[simp] theorem State.withStackPtr_nmiLevel : (s.withStackPtr x).nmiLevel = s.nmiLevel := rfl
@[simp] theorem State.withStackPtr_smiLevel : (s.withStackPtr x).smiLevel = s.smiLevel := rfl
@[simp] theorem State.withStackPtr_freeCtr : (s.withStackPtr x).freeCtr = s.freeCtr := rfl
@[simp] theorem State.withStackPtr_cur : (s.withStackPtr x).cur = s.cur := rfl
end

/-! Sampling the environment (R13, R620). -/

/-- What a byte written to main memory by another agent can change. -/
theorem State.setMainByte_eq (s : State) (pa : Word) (v : Byte) : ∃ m, s.setMainByte pa v = { s with mem := m } := by
  unfold State.setMainByte
  split <;> exact ⟨_, rfl⟩
theorem State.setMainBytes_eq (s : State) (a : Word) (bs : List Byte) : ∃ m, s.setMainBytes a bs = { s with mem := m } := by
  induction bs generalizing s a with
  | nil => exact ⟨s.mem, rfl⟩
  | cons b rest ih =>
    obtain ⟨m, h⟩ := s.setMainByte_eq a b
    obtain ⟨m', h'⟩ := ih (s.setMainByte a b) (a + 1#32)
    exact ⟨m', by rw [State.setMainBytes, h', h]⟩
theorem State.writeBackSector_eq (s : State) (k i : Nat) (l : CacheLine) :
    ∃ m m', s.writeBackSector k i l = { s with mem := m, smm := m' } := by
  by_cases hm : ((if i = 0 then l.mesi0 else l.mesi1) == 0x8#4) = true
  · by_cases hs : l.smi = true
    · exact ⟨s.mem, s.smm.writeBytes (l.address k + 16 * i) (((wordsBytes l.data).drop (16 * i)).take 16), by
        simp only [State.writeBackSector]; rw [if_pos hm, if_pos hs]⟩
    · obtain ⟨m, h⟩ := s.setMainBytes_eq (BitVec.ofNat 32 (l.address k + 16 * i))
        (((wordsBytes l.data).drop (16 * i)).take 16)
      exact ⟨m, s.smm, by simp only [State.writeBackSector]; rw [if_pos hm, if_neg hs, h]⟩
  · exact ⟨s.mem, s.smm, by simp only [State.writeBackSector]; rw [if_neg hm]⟩
/-- The write-back of an inquiry changes the memories (R171). -/
theorem State.inquiryWriteBack_eq (s : State) (pa : Word) :
    ∃ m m', s.inquiryWriteBack pa = { s with mem := m, smm := m' } := by
  unfold State.inquiryWriteBack
  split
  · exact s.writeBackSector_eq _ _ _
  · exact ⟨s.mem, s.smm, rfl⟩
/-- What other agents do at one moment changes the memories, the cache and the bytes a fetch may still see (R171, R620). -/
theorem State.busDo_eq (s : State) (es : List BusEvent) :
    ∃ m m' c st, s.busDo es = { s with mem := m, smm := m', cache := c, stale := st } := by
  induction es generalizing s with
  | nil => exact ⟨s.mem, s.smm, s.cache, s.stale, rfl⟩
  | cons e rest ih =>
    cases e with
    | read pa =>
      obtain ⟨m, m', h⟩ := s.inquiryWriteBack_eq pa
      obtain ⟨_, _, _, _, h'⟩ := ih (s.busRead pa)
      exact ⟨_, _, _, _, by rw [State.busDo, h', State.busRead, h]⟩
    | write pa v =>
      obtain ⟨m, m', h⟩ := s.inquiryWriteBack_eq pa
      obtain ⟨m2, h2⟩ := State.setMainByte_eq { s with mem := m, smm := m' } pa v
      obtain ⟨_, _, _, _, h'⟩ := ih (s.busWrite pa v)
      rw [State.busDo, h']
      simp only [State.busWrite, h, h2]
      exact ⟨_, _, _, _, rfl⟩
theorem State.busAll_eq (s : State) (ess : List (List BusEvent)) :
    ∃ m m' c st, s.busAll ess = { s with mem := m, smm := m', cache := c, stale := st } := by
  induction ess generalizing s with
  | nil => exact ⟨s.mem, s.smm, s.cache, s.stale, rfl⟩
  | cons es rest ih =>
    obtain ⟨_, _, _, _, h⟩ := s.busDo_eq es
    obtain ⟨_, _, _, _, h'⟩ := ih (s.busDo es)
    exact ⟨_, _, _, _, by rw [State.busAll, h', h]⟩
/-- What other agents still do in a step. -/
theorem State.busRest_eq (s : State) :
    ∃ m m' c st, s.busRest = { s with mem := m, smm := m', cache := c, stale := st, bus := [] } := by
  obtain ⟨_, _, _, _, h⟩ := State.busAll_eq { s with bus := [] } s.bus
  exact ⟨_, _, _, _, by rw [State.busRest, h]⟩
/-- What they do at the next moment. -/
theorem State.busNext_eq (s : State) :
    ∃ m m' c st, s.busNext = { s with mem := m, smm := m', cache := c, stale := st, bus := s.bus.tail } := by
  unfold State.busNext
  split
  · rename_i h
    exact ⟨s.mem, s.smm, s.cache, s.stale, by cases s; simp_all⟩
  · rename_i es rest h
    obtain ⟨_, _, _, _, h'⟩ := State.busDo_eq { s with bus := rest } es
    exact ⟨_, _, _, _, by rw [h', h]; rfl⟩

section
variable (s : State) (p : Pins)
@[simp] theorem State.sampled_regs : (s.sampled p).regs = s.regs := by
  obtain ⟨_, _, _, _, h⟩ := s.busDo_eq (p.bus.headD []); simp only [State.sampled, h]
@[simp] theorem State.sampled_eip : (s.sampled p).eip = s.eip := by
  obtain ⟨_, _, _, _, h⟩ := s.busDo_eq (p.bus.headD []); simp only [State.sampled, h]
@[simp] theorem State.sampled_flags : (s.sampled p).flags = s.flags := by
  obtain ⟨_, _, _, _, h⟩ := s.busDo_eq (p.bus.headD []); simp only [State.sampled, h]
@[simp] theorem State.sampled_segs : (s.sampled p).segs = s.segs := by
  obtain ⟨_, _, _, _, h⟩ := s.busDo_eq (p.bus.headD []); simp only [State.sampled, h]
@[simp] theorem State.sampled_cpl : (s.sampled p).cpl = s.cpl := by
  obtain ⟨_, _, _, _, h⟩ := s.busDo_eq (p.bus.headD []); simp only [State.sampled, h]
@[simp] theorem State.sampled_cr0 : (s.sampled p).cr0 = s.cr0 := by
  obtain ⟨_, _, _, _, h⟩ := s.busDo_eq (p.bus.headD []); simp only [State.sampled, h]
@[simp] theorem State.sampled_cr2 : (s.sampled p).cr2 = s.cr2 := by
  obtain ⟨_, _, _, _, h⟩ := s.busDo_eq (p.bus.headD []); simp only [State.sampled, h]
@[simp] theorem State.sampled_cr3 : (s.sampled p).cr3 = s.cr3 := by
  obtain ⟨_, _, _, _, h⟩ := s.busDo_eq (p.bus.headD []); simp only [State.sampled, h]
@[simp] theorem State.sampled_cr4 : (s.sampled p).cr4 = s.cr4 := by
  obtain ⟨_, _, _, _, h⟩ := s.busDo_eq (p.bus.headD []); simp only [State.sampled, h]
@[simp] theorem State.sampled_gdtr : (s.sampled p).gdtr = s.gdtr := by
  obtain ⟨_, _, _, _, h⟩ := s.busDo_eq (p.bus.headD []); simp only [State.sampled, h]
@[simp] theorem State.sampled_idtr : (s.sampled p).idtr = s.idtr := by
  obtain ⟨_, _, _, _, h⟩ := s.busDo_eq (p.bus.headD []); simp only [State.sampled, h]
@[simp] theorem State.sampled_ldtr : (s.sampled p).ldtr = s.ldtr := by
  obtain ⟨_, _, _, _, h⟩ := s.busDo_eq (p.bus.headD []); simp only [State.sampled, h]
@[simp] theorem State.sampled_ldtrInvalid : (s.sampled p).ldtrInvalid = s.ldtrInvalid := by
  obtain ⟨_, _, _, _, h⟩ := s.busDo_eq (p.bus.headD []); simp only [State.sampled, h]
@[simp] theorem State.sampled_tr : (s.sampled p).tr = s.tr := by
  obtain ⟨_, _, _, _, h⟩ := s.busDo_eq (p.bus.headD []); simp only [State.sampled, h]
@[simp] theorem State.sampled_dr : (s.sampled p).dr = s.dr := by
  obtain ⟨_, _, _, _, h⟩ := s.busDo_eq (p.bus.headD []); simp only [State.sampled, h]
@[simp] theorem State.sampled_test : (s.sampled p).test = s.test := by
  obtain ⟨_, _, _, _, h⟩ := s.busDo_eq (p.bus.headD []); simp only [State.sampled, h]
@[simp] theorem State.sampled_tsc : (s.sampled p).tsc = s.tsc := by
  obtain ⟨_, _, _, _, h⟩ := s.busDo_eq (p.bus.headD []); simp only [State.sampled, h]
@[simp] theorem State.sampled_cesr : (s.sampled p).cesr = s.cesr := by
  obtain ⟨_, _, _, _, h⟩ := s.busDo_eq (p.bus.headD []); simp only [State.sampled, h]
@[simp] theorem State.sampled_pmc0 : (s.sampled p).pmc0 = s.pmc0 := by
  obtain ⟨_, _, _, _, h⟩ := s.busDo_eq (p.bus.headD []); simp only [State.sampled, h]
@[simp] theorem State.sampled_pmc1 : (s.sampled p).pmc1 = s.pmc1 := by
  obtain ⟨_, _, _, _, h⟩ := s.busDo_eq (p.bus.headD []); simp only [State.sampled, h]
@[simp] theorem State.sampled_fpu : (s.sampled p).fpu = s.fpu := by
  obtain ⟨_, _, _, _, h⟩ := s.busDo_eq (p.bus.headD []); simp only [State.sampled, h]
@[simp] theorem State.sampled_cfg : (s.sampled p).cfg = s.cfg := by
  obtain ⟨_, _, _, _, h⟩ := s.busDo_eq (p.bus.headD []); simp only [State.sampled, h]
@[simp] theorem State.sampled_smhr : (s.sampled p).smhr = s.smhr := by
  obtain ⟨_, _, _, _, h⟩ := s.busDo_eq (p.bus.headD []); simp only [State.sampled, h]
@[simp] theorem State.sampled_nmiBlocked : (s.sampled p).nmiBlocked = s.nmiBlocked := by
  obtain ⟨_, _, _, _, h⟩ := s.busDo_eq (p.bus.headD []); simp only [State.sampled, h]
@[simp] theorem State.sampled_inSmm : (s.sampled p).inSmm = s.inSmm := by
  obtain ⟨_, _, _, _, h⟩ := s.busDo_eq (p.bus.headD []); simp only [State.sampled, h]
@[simp] theorem State.sampled_halted : (s.sampled p).halted = s.halted := by
  obtain ⟨_, _, _, _, h⟩ := s.busDo_eq (p.bus.headD []); simp only [State.sampled, h]
@[simp] theorem State.sampled_shutdown : (s.sampled p).shutdown = s.shutdown := by
  obtain ⟨_, _, _, _, h⟩ := s.busDo_eq (p.bus.headD []); simp only [State.sampled, h]
@[simp] theorem State.sampled_suspended : (s.sampled p).suspended = s.suspended := by
  obtain ⟨_, _, _, _, h⟩ := s.busDo_eq (p.bus.headD []); simp only [State.sampled, h]
@[simp] theorem State.sampled_shadow : (s.sampled p).shadow = s.shadow := by
  obtain ⟨_, _, _, _, h⟩ := s.busDo_eq (p.bus.headD []); simp only [State.sampled, h]
@[simp] theorem State.sampled_trap : (s.sampled p).trap = s.trap := by
  obtain ⟨_, _, _, _, h⟩ := s.busDo_eq (p.bus.headD []); simp only [State.sampled, h]
@[simp] theorem State.sampled_lastIp : (s.sampled p).lastIp = s.lastIp := by
  obtain ⟨_, _, _, _, h⟩ := s.busDo_eq (p.bus.headD []); simp only [State.sampled, h]
@[simp] theorem State.sampled_lastIo : (s.sampled p).lastIo = s.lastIo := by
  obtain ⟨_, _, _, _, h⟩ := s.busDo_eq (p.bus.headD []); simp only [State.sampled, h]
@[simp] theorem State.sampled_branchDue : (s.sampled p).branchDue = s.branchDue := by
  obtain ⟨_, _, _, _, h⟩ := s.busDo_eq (p.bus.headD []); simp only [State.sampled, h]
@[simp] theorem State.sampled_tlb : (s.sampled p).tlb = s.tlb := by
  obtain ⟨_, _, _, _, h⟩ := s.busDo_eq (p.bus.headD []); simp only [State.sampled, h]
@[simp] theorem State.sampled_starting : (s.sampled p).starting = s.starting := by
  obtain ⟨_, _, _, _, h⟩ := s.busDo_eq (p.bus.headD []); simp only [State.sampled, h]
@[simp] theorem State.sampled_part : (s.sampled p).part = s.part := by
  obtain ⟨_, _, _, _, h⟩ := s.busDo_eq (p.bus.headD []); simp only [State.sampled, h]
@[simp] theorem State.sampled_ioLog : (s.sampled p).ioLog = s.ioLog := by
  obtain ⟨_, _, _, _, h⟩ := s.busDo_eq (p.bus.headD []); simp only [State.sampled, h]
@[simp] theorem State.sampled_freeCtr : (s.sampled p).freeCtr = s.freeCtr := by
  obtain ⟨_, _, _, _, h⟩ := s.busDo_eq (p.bus.headD []); simp only [State.sampled, h]
@[simp] theorem State.sampled_cur : (s.sampled p).cur = s.cur := by
  obtain ⟨_, _, _, _, h⟩ := s.busDo_eq (p.bus.headD []); simp only [State.sampled, h]
@[simp] theorem State.sampled_ken : (s.sampled p).ken = p.ken := rfl
@[simp] theorem State.sampled_bus : (s.sampled p).bus = p.bus.tail := rfl
@[simp] theorem State.sampled_env : (s.sampled p).env = s.env.tail := rfl
@[simp] theorem State.sampled_nmiLevel : (s.sampled p).nmiLevel = p.nmi := rfl
@[simp] theorem State.sampled_smiLevel : (s.sampled p).smiLevel = p.smi := rfl
end

/-! The end of a step, and the delay after RESET (R640). -/

section
variable (s : State) (b : Bool)
@[simp] theorem State.tick_regs : (s.tick b).regs = s.regs := by
  obtain ⟨_, _, _, _, h⟩ := s.busRest_eq; simp [State.tick, h]
@[simp] theorem State.tick_flags : (s.tick b).flags = s.flags := by
  obtain ⟨_, _, _, _, h⟩ := s.busRest_eq; simp [State.tick, h]
@[simp] theorem State.tick_segs : (s.tick b).segs = s.segs := by
  obtain ⟨_, _, _, _, h⟩ := s.busRest_eq; simp [State.tick, h]
@[simp] theorem State.tick_cpl : (s.tick b).cpl = s.cpl := by
  obtain ⟨_, _, _, _, h⟩ := s.busRest_eq; simp [State.tick, h]
@[simp] theorem State.tick_cr0 : (s.tick b).cr0 = s.cr0 := by
  obtain ⟨_, _, _, _, h⟩ := s.busRest_eq; simp [State.tick, h]
@[simp] theorem State.tick_cr2 : (s.tick b).cr2 = s.cr2 := by
  obtain ⟨_, _, _, _, h⟩ := s.busRest_eq; simp [State.tick, h]
@[simp] theorem State.tick_cr3 : (s.tick b).cr3 = s.cr3 := by
  obtain ⟨_, _, _, _, h⟩ := s.busRest_eq; simp [State.tick, h]
@[simp] theorem State.tick_cr4 : (s.tick b).cr4 = s.cr4 := by
  obtain ⟨_, _, _, _, h⟩ := s.busRest_eq; simp [State.tick, h]
@[simp] theorem State.tick_gdtr : (s.tick b).gdtr = s.gdtr := by
  obtain ⟨_, _, _, _, h⟩ := s.busRest_eq; simp [State.tick, h]
@[simp] theorem State.tick_idtr : (s.tick b).idtr = s.idtr := by
  obtain ⟨_, _, _, _, h⟩ := s.busRest_eq; simp [State.tick, h]
@[simp] theorem State.tick_ldtr : (s.tick b).ldtr = s.ldtr := by
  obtain ⟨_, _, _, _, h⟩ := s.busRest_eq; simp [State.tick, h]
@[simp] theorem State.tick_ldtrInvalid : (s.tick b).ldtrInvalid = s.ldtrInvalid := by
  obtain ⟨_, _, _, _, h⟩ := s.busRest_eq; simp [State.tick, h]
@[simp] theorem State.tick_tr : (s.tick b).tr = s.tr := by
  obtain ⟨_, _, _, _, h⟩ := s.busRest_eq; simp [State.tick, h]
@[simp] theorem State.tick_dr : (s.tick b).dr = s.dr := by
  obtain ⟨_, _, _, _, h⟩ := s.busRest_eq; simp [State.tick, h]
@[simp] theorem State.tick_test : (s.tick b).test = s.test := by
  obtain ⟨_, _, _, _, h⟩ := s.busRest_eq; simp [State.tick, h]
@[simp] theorem State.tick_cesr : (s.tick b).cesr = s.cesr := by
  obtain ⟨_, _, _, _, h⟩ := s.busRest_eq; simp [State.tick, h]
@[simp] theorem State.tick_fpu : (s.tick b).fpu = s.fpu := by
  obtain ⟨_, _, _, _, h⟩ := s.busRest_eq; simp [State.tick, h]
@[simp] theorem State.tick_cfg : (s.tick b).cfg = s.cfg := by
  obtain ⟨_, _, _, _, h⟩ := s.busRest_eq; simp [State.tick, h]
@[simp] theorem State.tick_smhr : (s.tick b).smhr = s.smhr := by
  obtain ⟨_, _, _, _, h⟩ := s.busRest_eq; simp [State.tick, h]
@[simp] theorem State.tick_nmiPending : (s.tick b).nmiPending = s.nmiPending := by
  obtain ⟨_, _, _, _, h⟩ := s.busRest_eq; simp [State.tick, h]
@[simp] theorem State.tick_nmiBlocked : (s.tick b).nmiBlocked = s.nmiBlocked := by
  obtain ⟨_, _, _, _, h⟩ := s.busRest_eq; simp [State.tick, h]
@[simp] theorem State.tick_smiPending : (s.tick b).smiPending = s.smiPending := by
  obtain ⟨_, _, _, _, h⟩ := s.busRest_eq; simp [State.tick, h]
@[simp] theorem State.tick_inSmm : (s.tick b).inSmm = s.inSmm := by
  obtain ⟨_, _, _, _, h⟩ := s.busRest_eq; simp [State.tick, h]
@[simp] theorem State.tick_halted : (s.tick b).halted = s.halted := by
  obtain ⟨_, _, _, _, h⟩ := s.busRest_eq; simp [State.tick, h]
@[simp] theorem State.tick_shutdown : (s.tick b).shutdown = s.shutdown := by
  obtain ⟨_, _, _, _, h⟩ := s.busRest_eq; simp [State.tick, h]
@[simp] theorem State.tick_suspended : (s.tick b).suspended = s.suspended := by
  obtain ⟨_, _, _, _, h⟩ := s.busRest_eq; simp [State.tick, h]
@[simp] theorem State.tick_shadow : (s.tick b).shadow = s.shadow := by
  obtain ⟨_, _, _, _, h⟩ := s.busRest_eq; simp [State.tick, h]
@[simp] theorem State.tick_trap : (s.tick b).trap = s.trap := by
  obtain ⟨_, _, _, _, h⟩ := s.busRest_eq; simp [State.tick, h]
@[simp] theorem State.tick_lastIp : (s.tick b).lastIp = s.lastIp := by
  obtain ⟨_, _, _, _, h⟩ := s.busRest_eq; simp [State.tick, h]
@[simp] theorem State.tick_lastIo : (s.tick b).lastIo = s.lastIo := by
  obtain ⟨_, _, _, _, h⟩ := s.busRest_eq; simp [State.tick, h]
@[simp] theorem State.tick_branchDue : (s.tick b).branchDue = s.branchDue := by
  obtain ⟨_, _, _, _, h⟩ := s.busRest_eq; simp [State.tick, h]
@[simp] theorem State.tick_tlb : (s.tick b).tlb = s.tlb := by
  obtain ⟨_, _, _, _, h⟩ := s.busRest_eq; simp [State.tick, h]
@[simp] theorem State.tick_ken : (s.tick b).ken = s.ken := by
  obtain ⟨_, _, _, _, h⟩ := s.busRest_eq; simp [State.tick, h]
@[simp] theorem State.tick_starting : (s.tick b).starting = s.starting := by
  obtain ⟨_, _, _, _, h⟩ := s.busRest_eq; simp [State.tick, h]
@[simp] theorem State.tick_part : (s.tick b).part = s.part := by
  obtain ⟨_, _, _, _, h⟩ := s.busRest_eq; simp [State.tick, h]
@[simp] theorem State.tick_ioLog : (s.tick b).ioLog = s.ioLog := by
  obtain ⟨_, _, _, _, h⟩ := s.busRest_eq; simp [State.tick, h]
@[simp] theorem State.tick_env : (s.tick b).env = s.env := by
  obtain ⟨_, _, _, _, h⟩ := s.busRest_eq; simp [State.tick, h]
@[simp] theorem State.tick_nmiLevel : (s.tick b).nmiLevel = s.nmiLevel := by
  obtain ⟨_, _, _, _, h⟩ := s.busRest_eq; simp [State.tick, h]
@[simp] theorem State.tick_smiLevel : (s.tick b).smiLevel = s.smiLevel := by
  obtain ⟨_, _, _, _, h⟩ := s.busRest_eq; simp [State.tick, h]
@[simp] theorem State.tick_cur : (s.tick b).cur = s.cur := by
  obtain ⟨_, _, _, _, h⟩ := s.busRest_eq; simp [State.tick, h]
@[simp] theorem State.tick_eip : (s.tick b).eip = s.offAfter s.eip 0 := by
  obtain ⟨_, _, _, _, h⟩ := s.busRest_eq; simp [State.tick, h, State.offAfter, State.codeD, State.realLike, State.pe]
@[simp] theorem State.tick_bus : (s.tick b).bus = [] := by
  obtain ⟨_, _, _, _, h⟩ := s.busRest_eq; simp [State.tick, h]
@[simp] theorem State.started_regs : s.started.regs = s.regs := rfl
@[simp] theorem State.started_eip : s.started.eip = s.eip := rfl
@[simp] theorem State.started_flags : s.started.flags = s.flags := rfl
@[simp] theorem State.started_segs : s.started.segs = s.segs := rfl
@[simp] theorem State.started_cpl : s.started.cpl = s.cpl := rfl
@[simp] theorem State.started_cr0 : s.started.cr0 = s.cr0 := rfl
@[simp] theorem State.started_cr2 : s.started.cr2 = s.cr2 := rfl
@[simp] theorem State.started_cr3 : s.started.cr3 = s.cr3 := rfl
@[simp] theorem State.started_cr4 : s.started.cr4 = s.cr4 := rfl
@[simp] theorem State.started_gdtr : s.started.gdtr = s.gdtr := rfl
@[simp] theorem State.started_idtr : s.started.idtr = s.idtr := rfl
@[simp] theorem State.started_ldtr : s.started.ldtr = s.ldtr := rfl
@[simp] theorem State.started_ldtrInvalid : s.started.ldtrInvalid = s.ldtrInvalid := rfl
@[simp] theorem State.started_tr : s.started.tr = s.tr := rfl
@[simp] theorem State.started_dr : s.started.dr = s.dr := rfl
@[simp] theorem State.started_test : s.started.test = s.test := rfl
@[simp] theorem State.started_cesr : s.started.cesr = s.cesr := rfl
@[simp] theorem State.started_pmc0 : s.started.pmc0 = s.pmc0 := rfl
@[simp] theorem State.started_pmc1 : s.started.pmc1 = s.pmc1 := rfl
@[simp] theorem State.started_fpu : s.started.fpu = s.fpu := rfl
@[simp] theorem State.started_cfg : s.started.cfg = s.cfg := rfl
@[simp] theorem State.started_smhr : s.started.smhr = s.smhr := rfl
@[simp] theorem State.started_nmiPending : s.started.nmiPending = s.nmiPending := rfl
@[simp] theorem State.started_nmiBlocked : s.started.nmiBlocked = s.nmiBlocked := rfl
@[simp] theorem State.started_smiPending : s.started.smiPending = s.smiPending := rfl
@[simp] theorem State.started_inSmm : s.started.inSmm = s.inSmm := rfl
@[simp] theorem State.started_halted : s.started.halted = s.halted := rfl
@[simp] theorem State.started_shutdown : s.started.shutdown = s.shutdown := rfl
@[simp] theorem State.started_suspended : s.started.suspended = s.suspended := rfl
@[simp] theorem State.started_shadow : s.started.shadow = s.shadow := rfl
@[simp] theorem State.started_trap : s.started.trap = s.trap := rfl
@[simp] theorem State.started_lastIp : s.started.lastIp = s.lastIp := rfl
@[simp] theorem State.started_lastIo : s.started.lastIo = s.lastIo := rfl
@[simp] theorem State.started_branchDue : s.started.branchDue = s.branchDue := rfl
@[simp] theorem State.started_tlb : s.started.tlb = s.tlb := rfl
@[simp] theorem State.started_cache : s.started.cache = s.cache := rfl
@[simp] theorem State.started_stale : s.started.stale = s.stale := rfl
@[simp] theorem State.started_mem : s.started.mem = s.mem := rfl
@[simp] theorem State.started_smm : s.started.smm = s.smm := rfl
@[simp] theorem State.started_ken : s.started.ken = s.ken := rfl
@[simp] theorem State.started_part : s.started.part = s.part := rfl
@[simp] theorem State.started_ioLog : s.started.ioLog = s.ioLog := rfl
@[simp] theorem State.started_env : s.started.env = s.env := rfl
@[simp] theorem State.started_bus : s.started.bus = s.bus := rfl
@[simp] theorem State.started_nmiLevel : s.started.nmiLevel = s.nmiLevel := rfl
@[simp] theorem State.started_smiLevel : s.started.smiLevel = s.smiLevel := rfl
@[simp] theorem State.started_freeCtr : s.started.freeCtr = s.freeCtr := rfl
@[simp] theorem State.started_cur : s.started.cur = s.cur := rfl
@[simp] theorem State.started_starting : s.started.starting = false := rfl
end

/-! Registers (R20, R21). -/

@[simp] theorem Regs.get_set_same (g : Regs) (r : Reg) (v : Word) : (g.set r v).get r = v := by cases r <;> rfl
theorem Regs.get_set_other (g : Regs) {r q : Reg} (v : Word) (h : q ≠ r) : (g.set r v).get q = g.get q := by
  cases r <;> cases q <;> first | rfl | exact absurd rfl h
@[simp] theorem Segs.get_set_same (g : Segs) (r : SegReg) (v : Seg) : (g.set r v).get r = v := by cases r <;> rfl
theorem Segs.get_set_other (g : Segs) {r q : SegReg} (v : Seg) (h : q ≠ r) : (g.set r v).get q = g.get q := by
  cases r <;> cases q <;> first | rfl | exact absurd rfl h
@[simp] theorem mergeLow_32 (old v : Word) : mergeLow old v = v := by simp [mergeLow]

end Sys2Proof.Machine
end

