-- ==== Sys2Proof/Laws/Ops.lean ====
section
/-! SUPPORT. The shared operations: what each answers, once. -/
namespace Sys2Proof.Machine
open Sys2Proof

/-! Address translation and segment checks (R153, R206, R216). -/

/-- The translation of a linear page by itself, no page attribute set. -/
def flatXlat (la : Word) : Xlat := { frame := la.extractLsb' 12 20, pcd := false, pwt := false, walk := none }
/-- With paging off a linear address is physical (R153). -/
theorem translate_off {s : State} (h : s.pg = false) (la : Word) (kind : Acc) (user : Bool) :
    translate la kind user s = .ok (flatXlat la) s := by
  simp only [translate]
  rw [run_bind_ok _ (run_get s)]
  simp [h, flatXlat]
theorem page_append_offset (x : Word) : x.extractLsb' 12 20 ++ x.extractLsb' 0 12 = x := by
  ext i hi
  simp only [BitVec.getElem_append, BitVec.getElem_extractLsb']
  split
  · simp [BitVec.getLsbD_eq_getElem hi]
  · rename_i h
    have : 12 + (i - 12) = i := by omega
    simp [this, BitVec.getLsbD_eq_getElem hi]
theorem page_toNat (x : Word) : (x.extractLsb' 12 20).toNat = x.toNat / 4096 := by
  have := x.isLt
  simp only [BitVec.extractLsb'_toNat, Nat.shiftRight_eq_div_pow]
  omega
@[simp] theorem addrs_plain (pas : List Word) : addrs (plain pas) = pas := by
  induction pas with
  | nil => rfl
  | cons a rest ih => simpa [addrs, plain] using ih
theorem physAddrs_flat {x1 x2 : Xlat} {page : BitVec 20} {n : Nat} {la : Word}
    (h : ∀ k, k < n → (if (la + BitVec.ofNat 32 k).extractLsb' 12 20 = page then x1 else x2) = flatXlat (la + BitVec.ofNat 32 k)) :
    physAddrs la x1 x2 page n = plain (paRange la n) := by
  induction n generalizing la with
  | zero => rfl
  | succ m ih =>
    have h0 := h 0 (by omega)
    have hr : physAddrs (la + 1#32) x1 x2 page m = plain (paRange (la + 1#32) m) := by
      apply ih
      intro k hk
      have h1 := h (k + 1) (by omega)
      have he : la + BitVec.ofNat 32 (k + 1) = la + 1#32 + BitVec.ofNat 32 k := by
        rw [BitVec.add_assoc, show (1#32 : Word) = BitVec.ofNat 32 1 from rfl, ← BitVec.ofNat_add, Nat.add_comm 1 k]
      rw [he] at h1
      exact h1
    simp only [BitVec.add_zero] at h0
    have hp : plain (paRange la (m + 1)) = { addr := la, nc := false, wt := false, lock := false } :: plain (paRange (la + 1#32) m) := rfl
    rw [hp, physAddrs, hr]
    congr 1
    have h0' : (if la.extractLsb' 12 20 == page then x1 else x2) = flatXlat la := by simpa using h0
    simp only [h0', flatXlat, page_append_offset]
/-- The pages of an access with paging off. -/
theorem linXlat_off {s : State} (h : s.pg = false) (la : Word) (n : Nat) (kind : Acc) (user : Bool) :
    linXlat la n kind user s = .ok (flatXlat la, if lastPage la n = la.extractLsb' 12 20 then none
      else some (flatXlat (lastPage la n ++ 0#12))) s := by
  simp only [linXlat]
  rw [run_bind_ok _ (translate_off h _ _ _)]
  by_cases he : lastPage la n = la.extractLsb' 12 20
  · simp [he]
  · simp [he, run_bind, translate_off h]
/-- An access with paging off: the physical addresses are the linear ones (R153). -/
theorem linAccess_off {s : State} (h : s.pg = false) (la : Word) {n : Nat} (hn : n ≤ 4096) (kind : Acc) (user : Bool)
    (al : Nat) (ha : s.misaligned la al = false) :
    linAccess la n kind user al s = .ok (plain (paRange la n)) s := by
  have key : ∀ k, (la + BitVec.ofNat 32 k).toNat = (la.toNat + k) % 4294967296 := by intro k; simp
  have hl := la.isLt
  simp only [linAccess]
  rw [run_bind_ok _ (linXlat_off h _ _ _ _)]
  by_cases he : lastPage la n = la.extractLsb' 12 20
  · simp only [he, if_true, run_bind, run_get, ha, commitXlat, flatXlat]
    simp only [Bool.false_eq_true, if_false]
    refine congrArg (EStateM.Result.ok · s) (physAddrs_flat ?_)
    intro k hk
    have he2 := congrArg BitVec.toNat he
    rw [lastPage, page_toNat, page_toNat, key] at he2
    rw [ite_self]
    simp only [flatXlat, Xlat.mk.injEq, and_true]
    apply BitVec.eq_of_toNat_eq
    rw [page_toNat, page_toNat, key]
    omega
  · simp only [he, if_false, run_bind, run_get, ha, commitXlat, flatXlat]
    simp only [Bool.false_eq_true, if_false]
    refine congrArg (EStateM.Result.ok · s) (physAddrs_flat ?_)
    intro k hk
    have he2 : ¬ (la + BitVec.ofNat 32 (n - 1)).toNat / 4096 = la.toNat / 4096 := by
      rw [← page_toNat, ← page_toNat]; exact fun e => he (BitVec.eq_of_toNat_eq e)
    rw [key] at he2
    split
    · rename_i hc
      simp only [flatXlat, Xlat.mk.injEq, and_true]
      exact hc.symm
    · rename_i hc
      have hc2 : ¬ (la + BitVec.ofNat 32 k).toNat / 4096 = la.toNat / 4096 := by
        rw [← page_toNat, ← page_toNat]; exact fun e => hc (BitVec.eq_of_toNat_eq e)
      rw [key] at hc2
      have hx : (lastPage la n ++ 0#12 : Word).extractLsb' 12 20 = lastPage la n := by
        apply BitVec.eq_of_toNat_eq
        simp only [page_toNat, BitVec.toNat_append, BitVec.toNat_ofNat]
        simp [Nat.shiftLeft_eq]
      simp only [flatXlat, Xlat.mk.injEq, and_true, hx]
      rw [lastPage]
      apply BitVec.eq_of_toNat_eq
      rw [page_toNat, page_toNat, key, key]
      omega
/-- An access that passes the segment checks, in real and V86 mode: within the limit (R152, R206). -/
theorem segCheck_real {s : State} (h : s.realLike = true) {r : SegReg} {off : Word} {n : Nat}
    (hw : (s.segs.get r).within off n = true) (kind : Acc) :
    segCheck r off n kind s = .ok ((s.segs.get r).base + off) s := by
  simp [segCheck, run_bind, h, hw]
/-- What passing the segment checks says (R206). -/
theorem segCheck_inv {s t : State} {r : SegReg} {off : Word} {n : Nat} {kind : Acc} {la : Word}
    (h : segCheck r off n kind s = .ok la t) :
    t = s ∧ la = (s.segs.get r).base + off ∧ (s.segs.get r).within off n = true := by
  simp only [segCheck, run_bind_ok _ (run_get s)] at h
  by_cases h1 : (!s.realLike && !(s.segs.get r).attr.p) = true
  · simp [h1, run_bind] at h
  by_cases h2 : (!s.realLike && kind == .write && !(s.segs.get r).attr.writable) = true
  · simp [h1, h2, run_bind] at h
  by_cases h3 : (!s.realLike && kind == .read && (s.segs.get r).attr.code && !(s.segs.get r).attr.readableCode) = true
  · simp [h1, h2, h3, run_bind] at h
  by_cases h4 : (s.segs.get r).within off n = true
  · simp [h1, h2, h3, h4] at h
    exact ⟨h.2.symm, h.1.symm, h4⟩
  · simp [h1, h2, h3, h4, run_bind] at h

/-! The order of faults (R497). -/

/-- An access that answers is what it is, whatever references follow. -/
theorem before_ok {α : Type} (later : List Ref) {a : Act α} {s t : State} {x : α} (h : a s = .ok x t) :
    before later a s = .ok x t := by simp [before, h]
/-- A refusal, and any exception but a page fault or an alignment check, is raised whatever references follow. -/
theorem before_exc {α : Type} (later : List Ref) {a : Act α} {s t : State} {x : Exc} (h : a s = .error (.exc x) t)
    (h1 : x.vec ≠ 14#8) (h2 : x.vec ≠ 17#8) : before later a s = .error (.exc x) t := by
  simp [before, h, h1, h2]
/-- With nothing to follow, `before` changes nothing. -/
@[simp] theorem before_nil {α : Type} (a : Act α) : before [] a = a := by
  funext s
  simp only [before]
  cases h : a s with
  | ok x t => rfl
  | error e t =>
    cases e with
    | refuse r => rfl
    | exc x => simp
/-- Checks that pass draw free values at most. -/
theorem checkOnly_ok {α : Type} {a : Act α} {s t : State} {x : α} (h : a s = .ok x t) :
    checkOnly a s = .ok () { s with freeCtr := t.freeCtr } := by simp [checkOnly, h]

/-! Operands (R282). -/

theorem locate8_reg (r : Reg8) (kind : Acc) (s : State) : locate8 (.reg r) kind s = .ok (.reg8 r) s := rfl
theorem locateN_reg (n : Nat) (r : Reg) (kind : Acc) (s : State) : locateN n (.reg r) kind s = .ok (.reg r) s := rfl
/-- Read, modify and write back a byte operand. -/
theorem rmw8_ok {d : RM8} {f : Byte → Act Byte} {s s1 s2 : State} {p : Place} {v : Byte}
    (hl : locate8 d .write s = .ok p s1) (hr : s1.placeReadable p = true)
    (hf : f (s1.placeValue 8 p) s1 = .ok v s2) (hw : s2.placeWritable p = true) :
    rmw8 d f s = .ok () (s2.putPlace p v) := by
  simp only [rmw8]
  rw [run_bind_ok _ hl, run_bind_ok _ (readPlace_ok 8 hr), run_bind_ok _ hf]
  exact writePlace_ok hw v
/-- Read, modify and write back a word or doubleword operand. -/
theorem rmwV_ok {sz : OSize} {d : RMv} {f : BitVec (osBits sz) → Act (BitVec (osBits sz))} {s s1 s2 : State} {p : Place}
    {v : BitVec (osBits sz)} (hl : locateV sz d .write s = .ok p s1) (hr : s1.placeReadable p = true)
    (hf : f (s1.placeValue (osBits sz) p) s1 = .ok v s2) (hw : s2.placeWritable p = true) :
    rmwV sz d f s = .ok () (s2.putPlace p v) := by
  simp only [rmwV]
  rw [run_bind_ok _ hl, run_bind_ok _ (readPlace_ok _ hr), run_bind_ok _ hf]
  exact writePlace_ok hw v
/-- Read a byte operand. -/
theorem readRM8_ok {d : RM8} {s s1 : State} {p : Place} (hl : locate8 d .read s = .ok p s1)
    (hr : s1.placeReadable p = true) : readRM8 d s = .ok (s1.placeValue 8 p) s1 := by
  simp only [readRM8]
  rw [run_bind_ok _ hl]
  exact readPlace_ok 8 hr
/-- Read a word or doubleword operand. -/
theorem readRMv_ok {sz : OSize} {d : RMv} {s s1 : State} {p : Place} (hl : locateV sz d .read s = .ok p s1)
    (hr : s1.placeReadable p = true) : readRMv sz d s = .ok (s1.placeValue (osBits sz) p) s1 := by
  simp only [readRMv]
  rw [run_bind_ok _ hl]
  exact readPlace_ok _ hr

/-! Arithmetic with flags (R281). -/

/-- The action of an operation. -/
def aluAct (op : Alu) {n : Nat} (a b : BitVec n) : Act (BitVec n) :=
  match op with
  | .add => addA a b | .or => orA a b | .adc => adcA a b | .sbb => sbbA a b | .and => andA a b | .sub => subA a b
  | .xor => xorA a b
/-- What it answers, and the flags. -/
theorem aluAct_ok (op : Alu) {n : Nat} (a b : BitVec n) (s : State) :
    aluAct op a b s = .ok (aluNext op a b s).1 (aluNext op a b s).2 := by cases op <;> rfl
@[simp] theorem aluNext_writable (op : Alu) {n : Nat} (a b : BitVec n) (s : State) (p : Place) :
    (aluNext op a b s).2.placeWritable p = s.placeWritable p := by cases op <;> cases p <;> rfl

theorem addA_ok {n : Nat} (a b : BitVec n) (s : State) :
    addA a b s = .ok (aluNext .add a b s).1 (aluNext .add a b s).2 := rfl
theorem subA_ok {n : Nat} (a b : BitVec n) (s : State) :
    subA a b s = .ok (aluNext .sub a b s).1 (aluNext .sub a b s).2 := rfl
/-- A shift by a count other than 0 (R320). -/
theorem shiftAt_ok {op : Shift} {n : Nat} {loc : Act Place} {s s1 : State} {p : Place} (hl : loc s = .ok p s1)
    (hc : s.shiftCount ≠ 0) (hr : s1.placeReadable p = true)
    (hw : s1.placeWritable p = true) :
    shiftAt op n loc s = .ok () ((shiftNext op (s1.placeValue n p) s1).2.putPlace p (shiftNext op (s1.placeValue n p) s1).1) := by
  simp only [shiftAt]
  rw [run_bind_ok _ (run_get s)]
  simp only [hc, if_false]
  rw [run_bind_ok _ hl]
  simp only [shiftPlace]
  rw [run_bind_ok _ (run_get s1), run_bind_ok _ (readPlace_ok n hr), run_bind_ok _ (run_drawBit s1)]
  rw [run_bind_ok _ (run_drawBit _), run_bind_ok _ (run_drawBit _), run_bind_ok _ (run_setFlags _ _)]
  exact writePlace_ok (by cases p <;> exact hw) _
/-- A shift by 0 checks its operand and changes nothing (R320). -/
theorem shiftAt_zero {op : Shift} {n : Nat} {loc : Act Place} {s s1 : State} {p : Place} (hl : loc s = .ok p s1)
    (hc : s.shiftCount = 0) : shiftAt op n loc s = .ok () { s with freeCtr := s1.freeCtr } := by
  simp only [shiftAt]
  rw [run_bind_ok _ (run_get s)]
  simp only [hc, if_true]
  exact checkOnly_ok hl
theorem freeFlagsA_ok (s : State) : freeFlagsA s = .ok () s.withFreeFlags := rfl
theorem mulFlagsA_ok (b : Bool) (s : State) : mulFlagsA b s = .ok () (s.withMulFlags b) := rfl
theorem bitFlagsA_ok (b : Bool) (s : State) : bitFlagsA b s = .ok () (s.withBitFlags b) := rfl

/-! The stack (R365). -/

@[simp] theorem State.storeItems_regs (s : State) (sz : OSize) (places : List (List PA)) (vals : List Word) :
    (s.storeItems sz places vals).regs = s.regs := by
  induction places generalizing s vals with
  | nil => cases vals <;> rfl
  | cons p ps ih => cases vals with
    | nil => rfl
    | cons v vs => simp [State.storeItems, ih]
@[simp] theorem State.storeItems_segs (s : State) (sz : OSize) (places : List (List PA)) (vals : List Word) :
    (s.storeItems sz places vals).segs = s.segs := by
  induction places generalizing s vals with
  | nil => cases vals <;> rfl
  | cons p ps ih => cases vals with
    | nil => rfl
    | cons v vs => simp [State.storeItems, ih]
/-- Commit pushes at checked places. -/
theorem pushCommit_ok (sz : OSize) {s : State} {places : List (List PA)} (h : s.itemsOk places = true)
    (vals : List Word) : pushCommit sz places vals s = .ok () (s.pushed sz places vals) := by
  simp only [pushCommit]
  rw [run_bind_ok _ (writeItems_ok sz h vals), run_bind_ok _ (run_get _)]
  simp [setStackPtr, State.pushed, State.withStackPtr, State.stackPtr]
/-- Push items: their places are checked, then they are stored. -/
theorem pushMany_ok {sz : OSize} {vals : List Word} {s s1 : State} {places : List (List PA)}
    (hp : pushPlaces sz 1 vals s = .ok places s1) (h : s1.itemsOk places = true) :
    pushMany sz vals s = .ok () (s1.pushed sz places vals) := by
  simp only [pushMany]
  rw [run_bind_ok _ hp]
  exact pushCommit_ok sz h vals
/-- Release items. -/
@[simp] theorem dropStack_ok (sz : OSize) (n m : Nat) (s : State) : dropStack sz n m s = .ok () (s.popped sz n m) := rfl
/-- One of several items: read where it stands. -/
theorem peekItem_ok {sz : OSize} {n k : Nat} {s t : State} {v : Word} (h : peekStack sz k s = .ok v t) :
    peekItem sz n k s = .ok v t := by
  simp only [peekItem]
  rw [run_bind_ok _ (run_get s)]
  exact before_ok _ h
/-- Load EIP within the CS limit (R331). -/
theorem loadEip_ok {sz : OSize} {t : Word} {s : State} (h : osTrunc sz t ≤ s.segs.cs.limit) :
    loadEip sz t s = .ok () { s with eip := osTrunc sz t } := by
  have h' : ¬ s.segs.cs.limit < osTrunc sz t := by simpa using h
  simp [loadEip, run_bind, h']
/-- Load EIP past the CS limit (R331). -/
theorem loadEip_gp {sz : OSize} {t : Word} {s : State} (h : s.segs.cs.limit < osTrunc sz t) :
    loadEip sz t s = .error (.exc (.gp 0#16)) s := by
  simp [loadEip, run_bind, h]

end Sys2Proof.Machine
end

