-- ==== Sys2Proof/Tests/Slice0.lean ====
section
/-! SUPPORT. Tests: ill-formed terms are refused; every row of the opcode table decodes from a word written out from the spec's
encoding; single steps with the results of spec/95_test_vectors.md (their numbers in the names' comments); and for the
statements with hypotheses a state and operands that meet them. -/
set_option Elab.async false

namespace Sys2Proof.Machine
namespace Tests
open Sys2Proof Sys2Proof.Machine

/-! ## Ill-formed terms -/

/-- BP without displacement is the direct form's slot (R249). -/
theorem test_wf_bp_none : (Instr.mulEb (.mem (.m16 .bp .none))).wf = false := by decide
/-- ESP as a base needs a SIB byte (R248). -/
theorem test_wf_esp_base : (Instr.mulEv .w32 (.mem (.m32 .esp (.d8 1#8)))).wf = false := by decide
/-- EBP without displacement is the direct form's slot (R248). -/
theorem test_wf_ebp_none : (Instr.jmpEv .w32 (.mem (.m32 .ebp .none))).wf = false := by decide
/-- ESP is no index (R248). -/
theorem test_wf_esp_index : (Instr.invlpg (.sib .eax (some .esp) .x2 .none)).wf = false := by decide
/-- EBP as a SIB base needs a displacement (R248). -/
theorem test_wf_sib_ebp : (Instr.invlpg (.sib .ebp none .x1 .none)).wf = false := by decide
/-- ESP is no index without a base either (R248). -/
theorem test_wf_nobase_esp : (Instr.invlpg (.sibNoBase (some .esp) .x1 0#32)).wf = false := by decide
/-- CS is not loaded by MOV (R363). -/
theorem test_wf_mov_cs : (Instr.movSwEw .cs (.reg .eax)).wf = false := by decide
/-- The generic ESC class does not hold FNSAVE (R401). -/
theorem test_wf_esc_named : (Instr.esc 5#3 6#3 (.mem (.direct16 0#16))).wf = false := by decide
/-- XCHG of the accumulator with itself is NOP (R373). -/
theorem test_wf_xchg_ax : (Instr.xchgAx .w16 .eax).wf = false := by decide
/-- A well-formed term is accepted. -/
theorem test_wf_ok : (Instr.addEvGv .w16 (.mem (.m16 .bp (.d8 0#8))) .esp).wf = true := by decide

/-! ## Decoding -/

/-- 32-bit code. -/
def c32 : Ctx := ⟨.w32, .a32, true⟩
/-- Every word decodes to its instruction, nothing left over. -/
def decodesAll (l : List (Ctx × List Byte × Instr)) : Bool := l.all fun x =>
  match decode x.1 x.2.1 with
  | .ok i [] => i == x.2.2
  | _ => false
/-- Opcodes that are invalid or unnamed do not fall through to a neighbour (R258, R262): a group slot, MOVNTQ's slot, Jcc; what an
instruction's own rule rejects is known when its operands are fetched (R261): MOV CS, SVLDT of a register or with a reg field. -/
theorem test_decode_refuses :
    (match decode ctx16 [0xC6#8, 0x08#8] with | .invalid => true | _ => false) = true ∧
    (match decode ctx16 [0x0F#8, 0xFC#8, 0xC1#8] with | .refused => true | _ => false) = true ∧
    (match decode ctx16 [0x74#8, 0x00#8] with | .refused => true | _ => false) = true ∧
    (match decode ctx16 [0x8E#8, 0xC8#8] with | .late .invalidOperand [] => true | _ => false) = true ∧
    (match decode ctx16 [0x0F#8, 0x7A#8, 0xC8#8] with | .late .invalidOperand [] => true | _ => false) = true ∧
    (match decode ctx16 [0x0F#8, 0x7A#8, 0x0E#8, 0x00#8] with | .more => true | _ => false) = true ∧
    (match decode ctx16 [0x0F#8, 0x7A#8, 0x0E#8, 0x00#8, 0x20#8] with
      | .late .reservedRegField [] => true | _ => false) = true := by decide +kernel
/-- Words written from the encoding tables: rows 1 to 30 of spec/opcode_table.json. -/
theorem test_decode_rows_1 : decodesAll [
    (ctx16, [0x26], .segEs),
    (c32, [0x2E], .segCs),
    (ctx16, [0x36], .segSs),
    (c32, [0x3E], .segDs),
    (ctx16, [0x64], .segFs),
    (c32, [0x65], .segGs),
    (ctx16, [0x66], .opsize),
    (c32, [0x67], .adsize),
    (ctx16, [0xF0], .lock),
    (c32, [0xF2], .repne),
    (ctx16, [0xF3], .rep),
    (c32, [0x00, 0x1E], .addEbGb (.mem (.m32 .esi .none)) .bl),
    (ctx16, [0x01, 0xF5], .addEvGv .w16 (.reg .ebp) .esi),
    (c32, [0x02, 0x4B, 0x80], .addGbEb .cl (.mem (.m32 .ebx (.d8 0x80#8)))),
    (ctx16, [0x03, 0x66, 0x10], .addGvEv .w16 .esp (.mem (.m16 .bp (.d8 0x10#8)))),
    (c32, [0x04, 0x85], .addAlIb 0x85#8),
    (ctx16, [0x05, 0xEF, 0xCD], .addAxIv (.i16 0xCDEF#16)),
    (c32, [0x08, 0x2E], .orEbGb (.mem (.m32 .esi .none)) .ch),
    (ctx16, [0x09, 0xC3], .orEvGv .w16 (.reg .ebx) .eax),
    (c32, [0x0A, 0x5B, 0x80], .orGbEb .bl (.mem (.m32 .ebx (.d8 0x80#8)))),
    (ctx16, [0x0B, 0x36, 0x34, 0x12], .orGvEv .w16 .esi (.mem (.direct16 0x1234#16))),
    (c32, [0x0C, 0x85], .orAlIb 0x85#8),
    (ctx16, [0x0D, 0xEF, 0xCD], .orAxIv (.i16 0xCDEF#16)),
    (c32, [0x10, 0x3E], .adcEbGb (.mem (.m32 .esi .none)) .bh),
    (ctx16, [0x11, 0xD1], .adcEvGv .w16 (.reg .ecx) .edx),
    (c32, [0x12, 0x6B, 0x80], .adcGbEb .ch (.mem (.m32 .ebx (.d8 0x80#8)))),
    (ctx16, [0x13, 0x42, 0xFE], .adcGvEv .w16 .eax (.mem (.m16 .bpSi (.d8 0xFE#8)))),
    (c32, [0x14, 0x85], .adcAlIb 0x85#8),
    (ctx16, [0x15, 0xEF, 0xCD], .adcAxIv (.i16 0xCDEF#16)),
    (c32, [0x18, 0x0E], .sbbEbGb (.mem (.m32 .esi .none)) .cl)] = true := by decide +kernel
/-- Words written from the encoding tables: rows 31 to 60 of spec/opcode_table.json. -/
theorem test_decode_rows_31 : decodesAll [
    (ctx16, [0x19, 0xE7], .sbbEvGv .w16 (.reg .edi) .esp),
    (c32, [0x1A, 0x7B, 0x80], .sbbGbEb .bh (.mem (.m32 .ebx (.d8 0x80#8)))),
    (ctx16, [0x1B, 0x95, 0x01, 0x80], .sbbGvEv .w16 .edx (.mem (.m16 .di (.d16 0x8001#16)))),
    (c32, [0x1C, 0x85], .sbbAlIb 0x85#8),
    (ctx16, [0x1D, 0xEF, 0xCD], .sbbAxIv (.i16 0xCDEF#16)),
    (c32, [0x20, 0x1E], .andEbGb (.mem (.m32 .esi .none)) .bl),
    (ctx16, [0x21, 0xF5], .andEvGv .w16 (.reg .ebp) .esi),
    (c32, [0x22, 0x4B, 0x80], .andGbEb .cl (.mem (.m32 .ebx (.d8 0x80#8)))),
    (ctx16, [0x23, 0x27], .andGvEv .w16 .esp (.mem (.m16 .bx .none))),
    (c32, [0x24, 0x85], .andAlIb 0x85#8),
    (ctx16, [0x25, 0xEF, 0xCD], .andAxIv (.i16 0xCDEF#16)),
    (c32, [0x28, 0x2E], .subEbGb (.mem (.m32 .esi .none)) .ch),
    (ctx16, [0x29, 0xC3], .subEvGv .w16 (.reg .ebx) .eax),
    (c32, [0x2A, 0x5B, 0x80], .subGbEb .bl (.mem (.m32 .ebx (.d8 0x80#8)))),
    (ctx16, [0x2B, 0x76, 0x10], .subGvEv .w16 .esi (.mem (.m16 .bp (.d8 0x10#8)))),
    (c32, [0x2C, 0x85], .subAlIb 0x85#8),
    (ctx16, [0x2D, 0xEF, 0xCD], .subAxIv (.i16 0xCDEF#16)),
    (c32, [0x30, 0x3E], .xorEbGb (.mem (.m32 .esi .none)) .bh),
    (ctx16, [0x31, 0xD1], .xorEvGv .w16 (.reg .ecx) .edx),
    (c32, [0x32, 0x6B, 0x80], .xorGbEb .ch (.mem (.m32 .ebx (.d8 0x80#8)))),
    (ctx16, [0x33, 0x06, 0x34, 0x12], .xorGvEv .w16 .eax (.mem (.direct16 0x1234#16))),
    (c32, [0x34, 0x85], .xorAlIb 0x85#8),
    (ctx16, [0x35, 0xEF, 0xCD], .xorAxIv (.i16 0xCDEF#16)),
    (c32, [0x80, 0x06, 0x85], .addEbIb (.mem (.m32 .esi .none)) 0x85#8),
    (ctx16, [0x81, 0xC7, 0xEF, 0xCD], .addEvIv (.reg .edi) (.i16 0xCDEF#16)),
    (c32, [0x83, 0x43, 0x80, 0x85], .addEvIbs .w32 (.mem (.m32 .ebx (.d8 0x80#8))) 0x85#8),
    (ctx16, [0x80, 0x4A, 0xFE, 0x85], .orEbIb (.mem (.m16 .bpSi (.d8 0xFE#8))) 0x85#8),
    (c32, [0x81, 0xCE, 0xEF, 0xCD, 0xAB, 0x89], .orEvIv (.reg .esi) (.i32 0x89ABCDEF#32)),
    (ctx16, [0x83, 0x0F, 0x85], .orEvIbs .w16 (.mem (.m16 .bx .none)) 0x85#8),
    (c32, [0x80, 0x16, 0x85], .adcEbIb (.mem (.m32 .esi .none)) 0x85#8)] = true := by decide +kernel
/-- Words written from the encoding tables: rows 61 to 90 of spec/opcode_table.json. -/
theorem test_decode_rows_61 : decodesAll [
    (ctx16, [0x81, 0xD5, 0xEF, 0xCD], .adcEvIv (.reg .ebp) (.i16 0xCDEF#16)),
    (c32, [0x83, 0x53, 0x80, 0x85], .adcEvIbs .w32 (.mem (.m32 .ebx (.d8 0x80#8))) 0x85#8),
    (ctx16, [0x80, 0x9D, 0x01, 0x80, 0x85], .sbbEbIb (.mem (.m16 .di (.d16 0x8001#16))) 0x85#8),
    (c32, [0x81, 0xDC, 0xEF, 0xCD, 0xAB, 0x89], .sbbEvIv (.reg .esp) (.i32 0x89ABCDEF#32)),
    (ctx16, [0x83, 0x5E, 0x10, 0x85], .sbbEvIbs .w16 (.mem (.m16 .bp (.d8 0x10#8))) 0x85#8),
    (c32, [0x80, 0x26, 0x85], .andEbIb (.mem (.m32 .esi .none)) 0x85#8),
    (ctx16, [0x81, 0xE3, 0xEF, 0xCD], .andEvIv (.reg .ebx) (.i16 0xCDEF#16)),
    (c32, [0x83, 0x63, 0x80, 0x85], .andEvIbs .w32 (.mem (.m32 .ebx (.d8 0x80#8))) 0x85#8),
    (ctx16, [0x80, 0x2F, 0x85], .subEbIb (.mem (.m16 .bx .none)) 0x85#8),
    (c32, [0x81, 0xEA, 0xEF, 0xCD, 0xAB, 0x89], .subEvIv (.reg .edx) (.i32 0x89ABCDEF#32)),
    (ctx16, [0x83, 0x2E, 0x34, 0x12, 0x85], .subEvIbs .w16 (.mem (.direct16 0x1234#16)) 0x85#8),
    (c32, [0x80, 0x36, 0x85], .xorEbIb (.mem (.m32 .esi .none)) 0x85#8),
    (ctx16, [0x81, 0xF1, 0xEF, 0xCD], .xorEvIv (.reg .ecx) (.i16 0xCDEF#16)),
    (c32, [0x83, 0x73, 0x80, 0x85], .xorEvIbs .w32 (.mem (.m32 .ebx (.d8 0x80#8))) 0x85#8),
    (ctx16, [0x06], .pushEs .w16),
    (c32, [0x0E], .pushCs .w32),
    (ctx16, [0x16], .pushSs .w16),
    (c32, [0x1E], .pushDs .w32),
    (ctx16, [0x07], .popEs .w16),
    (c32, [0x17], .popSs .w32),
    (ctx16, [0x1F], .popDs .w16),
    (c32, [0x44], .incR .w32 .esp),
    (ctx16, [0x4F], .decR .w16 .edi),
    (c32, [0x52], .pushR .w32 .edx),
    (ctx16, [0x5D], .popR .w16 .ebp),
    (c32, [0x60], .pusha .w32),
    (ctx16, [0x61], .popa .w16),
    (c32, [0x62, 0x3C, 0x24], .bound .w32 .edi (.sib .esp none .x1 .none)),
    (ctx16, [0x68, 0xEF, 0xCD], .pushIv (.i16 0xCDEF#16)),
    (c32, [0x6A, 0x85], .pushIbs .w32 0x85#8)] = true := by decide +kernel
/-- Words written from the encoding tables: rows 91 to 120 of spec/opcode_table.json. -/
theorem test_decode_rows_91 : decodesAll [
    (ctx16, [0x6C], .insb .a16),
    (c32, [0x6D], .insv .w32 .a32),
    (ctx16, [0x6E], .outsb .a16),
    (c32, [0x6F], .outsv .w32 .a32),
    (ctx16, [0x86, 0x66, 0x10], .xchgEbGb (.mem (.m16 .bp (.d8 0x10#8))) .ah),
    (c32, [0x87, 0x3E], .xchgEvGv .w32 (.mem (.m32 .esi .none)) .edi),
    (ctx16, [0x88, 0xD1], .movEbGb (.reg .cl) .dl),
    (c32, [0x89, 0x6B, 0x80], .movEvGv .w32 (.mem (.m32 .ebx (.d8 0x80#8))) .ebp),
    (ctx16, [0x8A, 0x07], .movGbEb .al (.mem (.m16 .bx .none))),
    (c32, [0x8B, 0xD8], .movGvEv .w32 .ebx (.reg .eax)),
    (ctx16, [0x8C, 0x16, 0x34, 0x12], .movEwSw .w16 (.mem (.direct16 0x1234#16)) .ss),
    (c32, [0x8E, 0x2E], .movSwEw .gs (.mem (.m32 .esi .none))),
    (ctx16, [0x8F, 0xC7], .popEv .w16 (.reg .edi)),
    (c32, [0x90], .nop),
    (ctx16, [0x91], .xchgAx .w16 .ecx),
    (c32, [0x9A, 0xEF, 0xCD, 0xAB, 0x89, 0x34, 0x12], .callPtr { sel := 0x1234#16, off := .i32 0x89ABCDEF#32 }),
    (ctx16, [0x9B, 0xDD, 0x72, 0xFE], .fsave .w16 (.m16 .bpSi (.d8 0xFE#8))),
    (c32, [0x9B, 0xD9, 0x36], .fstenv .w32 (.m32 .esi .none)),
    ({ ctx16 with bare := false }, [0x9B], .wait),
    (c32, [0x9C], .pushf .w32),
    (ctx16, [0x9D], .popf .w16),
    (c32, [0xA0, 0xEF, 0xCD, 0xAB, 0x89], .movAlOb (.o32 0x89ABCDEF#32)),
    (ctx16, [0xA1, 0xEF, 0xCD], .movAxOv .w16 (.o16 0xCDEF#16)),
    (c32, [0xA2, 0xEF, 0xCD, 0xAB, 0x89], .movObAl (.o32 0x89ABCDEF#32)),
    (ctx16, [0xA3, 0xEF, 0xCD], .movOvAx .w16 (.o16 0xCDEF#16)),
    (c32, [0xA4], .movsb .a32),
    (ctx16, [0xA5], .movsv .w16 .a16),
    (c32, [0xAA], .stosb .a32),
    (ctx16, [0xAB], .stosv .w16 .a16),
    (c32, [0xB6, 0x85], .movRIb .dh 0x85#8)] = true := by decide +kernel
/-- Words written from the encoding tables: rows 121 to 150 of spec/opcode_table.json. -/
theorem test_decode_rows_121 : decodesAll [
    (ctx16, [0xB9, 0xEF, 0xCD], .movRIv .ecx (.i16 0xCDEF#16)),
    (c32, [0xC2, 0xEF, 0xBE], .retIw .w32 0xBEEF#16),
    (ctx16, [0xC3], .ret .w16),
    (c32, [0xC6, 0xC0, 0x85], .movEbIb (.reg .al) 0x85#8),
    (ctx16, [0xC7, 0x46, 0x10, 0xEF, 0xCD], .movEvIv (.mem (.m16 .bp (.d8 0x10#8))) (.i16 0xCDEF#16)),
    (c32, [0xCA, 0xEF, 0xBE], .retfIw .w32 0xBEEF#16),
    (ctx16, [0xCB], .retf .w16),
    (c32, [0xCC], .int3),
    (ctx16, [0xCD, 0x85], .intN 0x85#8),
    (c32, [0xCE], .into),
    (ctx16, [0xCF], .iret .w16),
    (c32, [0xD2, 0x06], .rolEbCl (.mem (.m32 .esi .none))),
    (ctx16, [0xD3, 0xC5], .rolEvCl .w16 (.reg .ebp)),
    (c32, [0xD2, 0x4B, 0x80], .rorEbCl (.mem (.m32 .ebx (.d8 0x80#8)))),
    (ctx16, [0xD3, 0x4E, 0x10], .rorEvCl .w16 (.mem (.m16 .bp (.d8 0x10#8)))),
    (c32, [0xD2, 0xD4], .rclEbCl (.reg .ah)),
    (ctx16, [0xD3, 0x52, 0xFE], .rclEvCl .w16 (.mem (.m16 .bpSi (.d8 0xFE#8)))),
    (c32, [0xD2, 0x1E], .rcrEbCl (.mem (.m32 .esi .none))),
    (ctx16, [0xD3, 0xDB], .rcrEvCl .w16 (.reg .ebx)),
    (c32, [0xD2, 0x63, 0x80], .shlEbCl (.mem (.m32 .ebx (.d8 0x80#8)))),
    (ctx16, [0xD3, 0x26, 0x34, 0x12], .shlEvCl .w16 (.mem (.direct16 0x1234#16))),
    (c32, [0xD2, 0xEA], .shrEbCl (.reg .dl)),
    (ctx16, [0xD3, 0xAD, 0x01, 0x80], .shrEvCl .w16 (.mem (.m16 .di (.d16 0x8001#16)))),
    (c32, [0xD2, 0x3E], .sarEbCl (.mem (.m32 .esi .none))),
    (ctx16, [0xD3, 0xF9], .sarEvCl .w16 (.reg .ecx)),
    (c32, [0xD7], .xlat .a32),
    (ctx16, [0xDD, 0x72, 0xFE], .fnsave .w16 (.m16 .bpSi (.d8 0xFE#8))),
    (c32, [0xDD, 0x24, 0x24], .frstor .w32 (.sib .esp none .x1 .none)),
    (ctx16, [0xD9, 0x37], .fnstenv .w16 (.m16 .bx .none)),
    (ctx16, [0xD9, 0xE8], .esc 1#3 5#3 (.reg .mm0))] = true := by decide +kernel
/-- Words written from the encoding tables: rows 151 to 180 of spec/opcode_table.json. -/
theorem test_decode_rows_151 : decodesAll [
    (ctx16, [0xE0, 0x85], .loopne .w16 .a16 0x85#8),
    (c32, [0xE1, 0x85], .loope .w32 .a32 0x85#8),
    (ctx16, [0xE2, 0x85], .loop .w16 .a16 0x85#8),
    (c32, [0xE4, 0x85], .inAlIb 0x85#8),
    (ctx16, [0xE5, 0x85], .inAxIb .w16 0x85#8),
    (c32, [0xE6, 0x85], .outIbAl 0x85#8),
    (ctx16, [0xE7, 0x85], .outIbAx .w16 0x85#8),
    (c32, [0xE8, 0xEF, 0xCD, 0xAB, 0x89], .callRel (.i32 0x89ABCDEF#32)),
    (ctx16, [0xE9, 0xEF, 0xCD], .jmpRel (.i16 0xCDEF#16)),
    (c32, [0xEA, 0xEF, 0xCD, 0xAB, 0x89, 0x34, 0x12], .jmpPtr { sel := 0x1234#16, off := .i32 0x89ABCDEF#32 }),
    (ctx16, [0xEB, 0x85], .jmpRel8 .w16 0x85#8),
    (c32, [0xEC], .inAlDx),
    (ctx16, [0xED], .inAxDx .w16),
    (c32, [0xEE], .outDxAl),
    (ctx16, [0xEF], .outDxAx .w16),
    (c32, [0xF4], .hlt),
    (ctx16, [0xF6, 0x52, 0xFE], .notEb (.mem (.m16 .bpSi (.d8 0xFE#8)))),
    (c32, [0xF7, 0x16], .notEv .w32 (.mem (.m32 .esi .none))),
    (ctx16, [0xF6, 0xD9], .negEb (.reg .cl)),
    (c32, [0xF7, 0x5B, 0x80], .negEv .w32 (.mem (.m32 .ebx (.d8 0x80#8)))),
    (ctx16, [0xF6, 0x26, 0x34, 0x12], .mulEb (.mem (.direct16 0x1234#16))),
    (c32, [0xF7, 0xE0], .mulEv .w32 (.reg .eax)),
    (ctx16, [0xF6, 0xAD, 0x01, 0x80], .imulEb (.mem (.m16 .di (.d16 0x8001#16)))),
    (c32, [0xF7, 0x2E], .imulEv .w32 (.mem (.m32 .esi .none))),
    (ctx16, [0xF6, 0xF7], .divEb (.reg .bh)),
    (c32, [0xF7, 0x73, 0x80], .divEv .w32 (.mem (.m32 .ebx (.d8 0x80#8)))),
    (ctx16, [0xF6, 0x7A, 0xFE], .idivEb (.mem (.m16 .bpSi (.d8 0xFE#8)))),
    (c32, [0xF7, 0xFE], .idivEv .w32 (.reg .esi)),
    (ctx16, [0xFA], .cli),
    (c32, [0xFB], .sti)] = true := by decide +kernel
/-- Words written from the encoding tables: rows 181 to 210 of spec/opcode_table.json. -/
theorem test_decode_rows_181 : decodesAll [
    (ctx16, [0xFE, 0xC5], .incEb (.reg .ch)),
    (c32, [0xFE, 0x4B, 0x80], .decEb (.mem (.m32 .ebx (.d8 0x80#8)))),
    (ctx16, [0xFF, 0x85, 0x01, 0x80], .incEv .w16 (.mem (.m16 .di (.d16 0x8001#16)))),
    (c32, [0xFF, 0xCC], .decEv .w32 (.reg .esp)),
    (ctx16, [0xFF, 0x56, 0x10], .callEv .w16 (.mem (.m16 .bp (.d8 0x10#8)))),
    (c32, [0xFF, 0x1E], .callMp .w32 (.m32 .esi .none)),
    (ctx16, [0xFF, 0xE3], .jmpEv .w16 (.reg .ebx)),
    (c32, [0xFF, 0x6B, 0x80], .jmpMp .w32 (.m32 .ebx (.d8 0x80#8))),
    (ctx16, [0xFF, 0x37], .pushEv .w16 (.mem (.m16 .bx .none))),
    (c32, [0x0F, 0x00, 0xC2], .sldt .w32 (.reg .edx)),
    (ctx16, [0x0F, 0x00, 0x0E, 0x34, 0x12], .str .w16 (.mem (.direct16 0x1234#16))),
    (c32, [0x0F, 0x00, 0x16], .lldt (.mem (.m32 .esi .none))),
    (ctx16, [0x0F, 0x00, 0xD9], .ltr (.reg .ecx)),
    (c32, [0x0F, 0x01, 0x43, 0x80], .sgdt .w32 (.m32 .ebx (.d8 0x80#8))),
    (ctx16, [0x0F, 0x01, 0x4E, 0x10], .sidt .w16 (.m16 .bp (.d8 0x10#8))),
    (c32, [0x0F, 0x01, 0x14, 0x24], .lgdt .w32 (.sib .esp none .x1 .none)),
    (ctx16, [0x0F, 0x01, 0x5A, 0xFE], .lidt .w16 (.m16 .bpSi (.d8 0xFE#8))),
    (c32, [0x0F, 0x01, 0x3E], .invlpg (.m32 .esi .none)),
    (ctx16, [0x0F, 0x08], .invd),
    (c32, [0x0F, 0x09], .wbinvd),
    (ctx16, [0x0F, 0x20, 0xDE], .movRCr .esi 3#3),
    (c32, [0x0F, 0x21, 0xDE], .movRDr .esi 3#3),
    (ctx16, [0x0F, 0x22, 0xDE], .movCrR 3#3 .esi),
    (c32, [0x0F, 0x23, 0xDE], .movDrR 3#3 .esi),
    (ctx16, [0x0F, 0x24, 0xDE], .movRTr .esi 3#3),
    (c32, [0x0F, 0x26, 0xDE], .movTrR 3#3 .esi),
    (ctx16, [0x0F, 0x30], .wrmsr),
    (c32, [0x0F, 0x31], .rdtsc),
    (ctx16, [0x0F, 0x32], .rdmsr),
    (c32, [0x0F, 0x33], .rdpmc)] = true := by decide +kernel
/-- Words written from the encoding tables: rows 211 to 240 of spec/opcode_table.json. -/
theorem test_decode_rows_211 : decodesAll [
    (ctx16, [0x0F, 0x36, 0xC3], .rdshr (.reg .ebx)),
    (c32, [0x0F, 0x37, 0x43, 0x80], .wrshr (.mem (.m32 .ebx (.d8 0x80#8)))),
    (ctx16, [0x0F, 0x38], .smint),
    (c32, [0x0F, 0x6E, 0xCA], .movdPE .mm1 (.reg .edx)),
    (ctx16, [0x0F, 0x6F, 0x66, 0x10], .movqPQ .mm4 (.mem (.m16 .bp (.d8 0x10#8)))),
    (c32, [0x0F, 0x77], .emms),
    (ctx16, [0x0F, 0x78, 0x52, 0xFE], .svdc (.m16 .bpSi (.d8 0xFE#8)) .ss),
    (c32, [0x0F, 0x79, 0x6B, 0x80], .rsdc .gs (.m32 .ebx (.d8 0x80#8))),
    (ctx16, [0x0F, 0x7A, 0x07], .svldt (.m16 .bx .none)),
    (c32, [0x0F, 0x7B, 0x04, 0x24], .rsldt (.sib .esp none .x1 .none)),
    (ctx16, [0x0F, 0x7C, 0x06, 0x34, 0x12], .svts (.direct16 0x1234#16)),
    (c32, [0x0F, 0x7D, 0x06], .rsts (.m32 .esi .none)),
    (ctx16, [0x0F, 0x7E, 0xE7], .movdEP (.reg .edi) .mm4),
    (c32, [0x0F, 0x7F, 0x7B, 0x80], .movqQP (.mem (.m32 .ebx (.d8 0x80#8))) .mm7),
    (ctx16, [0x0F, 0xA0], .pushFs .w16),
    (c32, [0x0F, 0xA1], .popFs .w32),
    (ctx16, [0x0F, 0xA2], .cpuid),
    (c32, [0x0F, 0xA8], .pushGs .w32),
    (ctx16, [0x0F, 0xA9], .popGs .w16),
    (c32, [0x0F, 0xAA], .rsm),
    (ctx16, [0x0F, 0xAB, 0x26, 0x34, 0x12], .btsEvGv .w16 (.mem (.direct16 0x1234#16)) .esp),
    (c32, [0x0F, 0xB0, 0xFC], .cmpxchgEbGb (.reg .ah) .bh),
    (ctx16, [0x0F, 0xB1, 0x95, 0x01, 0x80], .cmpxchgEvGv .w16 (.mem (.m16 .di (.d16 0x8001#16))) .edx),
    (c32, [0x0F, 0xB3, 0x2E], .btrEvGv .w32 (.mem (.m32 .esi .none)) .ebp),
    (ctx16, [0x0F, 0xBA, 0xEB, 0x85], .btsEvIb .w16 (.reg .ebx) 0x85#8),
    (c32, [0x0F, 0xBA, 0x73, 0x80, 0x85], .btrEvIb .w32 (.mem (.m32 .ebx (.d8 0x80#8))) 0x85#8),
    (ctx16, [0x0F, 0xBA, 0x7A, 0xFE, 0x85], .btcEvIb .w16 (.mem (.m16 .bpSi (.d8 0xFE#8))) 0x85#8),
    (c32, [0x0F, 0xBB, 0xCA], .btcEvGv .w32 (.reg .edx) .ecx),
    (ctx16, [0x0F, 0xC0, 0x27], .xaddEbGb (.mem (.m16 .bx .none)) .ah),
    (c32, [0x0F, 0xC1, 0x3E], .xaddEvGv .w32 (.mem (.m32 .esi .none)) .edi)] = true := by decide +kernel

/-! ## Single steps -/

end Tests

/-- Bytes in main memory. -/
def State.poke (s : State) (a : Nat) (bs : List Byte) : State := { s with mem := s.mem.writeBytes a bs }
/-- Bytes in SMM memory. -/
def State.pokeSmm (s : State) (a : Nat) (bs : List Byte) : State := { s with smm := s.smm.writeBytes a bs }
/-- A general register. -/
def State.reg (s : State) (r : Reg) (v : Word) : State := { s with regs := s.regs.set r v }
/-- AL. -/
def State.al (s : State) (v : Byte) : State := { s with regs := s.regs.set8 .al v }
/-- CF set. -/
def State.cf (s : State) : State := { s with flags := { s.flags with cf := true } }
/-- IF set. -/
def State.ifl (s : State) : State := { s with flags := { s.flags with ifl := true } }
/-- CS as loaded in real mode. -/
def State.csAt (s : State) (sel : Word16) : State := { s with segs := { s.segs with cs := s.segs.cs.realLoad sel } }
/-- DS as loaded in real mode. -/
def State.dsAt (s : State) (sel : Word16) : State := { s with segs := { s.segs with ds := s.segs.ds.realLoad sel } }
/-- The base of DS. -/
def State.dsBase (s : State) (x : Word) : State := { s with segs := { s.segs with ds := { s.segs.ds with base := x } } }

namespace Tests

/-- Real mode with all bases 0, about to run at 0000:0100. -/
def real : State := { State.reset.csAt 0#16 with eip := 0x100#32 }
/-- Where the SMM instructions are allowed (the common start of G1 to G9). -/
def smmOn : State := { real with cfg := { real.cfg with ccr1 := 0x86#8, arr3 := 0xA04#24 } }
/-- In a service routine, with a header that describes real mode. -/
def smmHeader : State :=
  ((({ smmOn with smhr := 0xA8001#32, inSmm := true } : State).pokeSmm 0xA7FE5 [0x93#8]).pokeSmm 0xA7FF4
    [0x10#8, 0#8, 0#8, 0x60#8]).pokeSmm 0xA7FF8 [2#8]
/-- A flat descriptor table at 1000h: code and data of level 0, code and data of level 3, a TSS at 2000h, an LDT; at 38h
conforming code, code and data not present, code with limit 0, a call gate, a task gate. -/
def gdt : List Byte :=
  [0xFF#8, 0xFF#8, 0#8, 0#8, 0#8, 0x9A#8, 0xCF#8, 0#8, 0xFF#8, 0xFF#8, 0#8, 0#8, 0#8, 0x92#8, 0xCF#8, 0#8] ++
  [0xFF#8, 0xFF#8, 0#8, 0#8, 0#8, 0xFA#8, 0xCF#8, 0#8, 0xFF#8, 0xFF#8, 0#8, 0#8, 0#8, 0xF2#8, 0xCF#8, 0#8] ++
  [0x67#8, 0#8, 0#8, 0x20#8, 0#8, 0x89#8, 0#8, 0#8, 0xFF#8, 0#8, 0#8, 0x28#8, 0#8, 0x82#8, 0#8, 0#8] ++
  [0xFF#8, 0xFF#8, 0#8, 0#8, 0#8, 0x9E#8, 0xCF#8, 0#8, 0xFF#8, 0xFF#8, 0#8, 0#8, 0#8, 0x1A#8, 0xCF#8, 0#8] ++
  [0xFF#8, 0xFF#8, 0#8, 0#8, 0#8, 0x12#8, 0xCF#8, 0#8, 0#8, 0#8, 0#8, 0#8, 0#8, 0x9A#8, 0x40#8, 0#8] ++
  [0#8, 0#8, 8#8, 0#8, 0#8, 0x8C#8, 0#8, 0#8, 0#8, 0#8, 0x28#8, 0#8, 0#8, 0x85#8, 0#8, 0#8]
/-- A 32-bit interrupt gate to 0008h:off with access byte `acc`. -/
def gate (off acc : Byte) : List Byte := [off, 0#8, 8#8, 0#8, 0#8, acc]
/-- A flat descriptor's register. -/
def flat (sel : Word16) (lvl : BitVec 2) : Seg :=
  { sel := sel, base := 0#32, limit := 0xFFFFFFFF#32, attr := { Attr.realMode with dpl := lvl, g := true, d := true } }
/-- Protected mode at level 0 in 16-bit code, with gates for vectors 11, 13, 17 and, at level 3, 80h. -/
def prot : State :=
  (((((({ real with cr0 := 0x60000011#32, gdtr := { base := 0x1000#32, limit := 0x67#16 }
                    idtr := { base := 0x3000#32, limit := 0x7FF#16 }
                    segs := { real.segs with ss := flat 0x10#16 0#2 } }.reg .esp 0x5000#32).poke 0x1008 gdt).poke 0x3058
    (gate 0xB0#8 0x8E#8)).poke 0x3068 (gate 0xD0#8 0x8E#8)).poke 0x3088 ([0x10#8, 1#8, 8#8, 0#8, 0#8, 0x8E#8])).poke
    0x3400 (gate 0x80#8 0xEE#8))
/-- Level 3, with a TSS whose level 0 stack is 0010h:5000h. -/
def user : State :=
  (({ prot with
      cpl := 3#2
      segs := { prot.segs with
        ss := flat 0x23#16 3#2
        cs := { prot.segs.cs with sel := 0x1B#16, attr := { prot.segs.cs.attr with dpl := 3#2 } } }
      tr := { sel := 0x28#16, base := 0x2000#32, limit := 0x67#32, attr := { Attr.unusable with p := true, typ := 0xB#4 } } }.reg
    .esp 0x6000#32).reg .ebx 0x800#32).poke 0x2005 [0x50#8, 0#8, 0#8, 0x10#8]
/-- V86 mode at IOPL 3. -/
def v86 : State :=
  { user with flags := { user.flags with vm := true, iopl := 3#2 }, segs := { user.segs with cs := Seg.v86Load 0#16 } }
/-- Paging on: page 0 of the first directory entry is itself, page 401h is at 50000h (M12). -/
def paged : State :=
  (((({ real with cr0 := 0xE0000011#32, cr3 := 0x1000#32 }.poke 0x1000 [7#8, 0x30#8, 0#8, 0#8, 7#8, 0x20#8]).poke 0x3000
    [7#8]).poke 0x2004 [7#8, 0#8, 5#8]).poke 0x50234 [0x5A#8])
/-- A valid TLB entry for a page. -/
def entry (page : BitVec 20) : TlbEntry :=
  { lin := page, phys := page, v := true, d := false, g := false, u := true, w := true, a := true, pcd := false,
    pwt := false }
/-- A line of the cache at 500h, both sectors in a state. -/
def line (mesi : BitVec 4) : Nat × CacheLine :=
  (40, { tag := 0#18, smi := false, mesi0 := mesi, mesi1 := mesi, mru := 0#4, data := List.replicate 8 0x11223344#32 })
/-- One step of the instruction given from a state ends in a state for which `p` holds. -/
def after (s : State) (bs : List Byte) (p : State → Bool) : Bool :=
  match step (s.poke (s.segs.cs.base + s.eip).toNat bs) with
  | .next t => p t
  | _ => false
/-- An action answers, and `p` holds of what it answers. -/
def okWith {α : Type} (r : EStateM.Result Stop State α) (p : α → State → Bool) : Bool :=
  match r with
  | .ok a t => p a t
  | .error _ _ => false
/-- 32-bit code at the offset `eip` of a 4-GByte segment: two ES prefixes at its last two offsets, a NOP at offset 0. -/
def topCode (eip : Word) : State :=
  ({ prot with
    eip := eip
    segs := { prot.segs with
      cs := { prot.segs.cs with
        base := 0x8001#32, limit := 0xFFFFFFFF#32, attr := { prot.segs.cs.attr with d := true } } } } : State).poke 0x7FFF
    [0x26#8, 0x26#8, 0x90#8]
/-- An action raises an exception for which `p` holds. -/
def raises {α : Type} (r : EStateM.Result Stop State α) (p : Exc → State → Bool) : Bool :=
  match r with
  | .error (.exc x) t => p x t
  | _ => false
/-- An outcome is a next state for which `p` holds. -/
def nextWith (o : Host.Outcome State Fault Refusal) (p : State → Bool) : Bool :=
  match o with
  | .next t => p t
  | _ => false
/-- A1. -/
theorem test_add_wraps :
    after (real.al 0xFF#8) [0x04#8, 0x01#8] (fun t => t.regs.get8 .al == 0#8 && t.flags.cf && t.flags.zf && t.flags.af
      && t.flags.pf && !t.flags.sf && !t.flags.ofl) = true := by decide +kernel
/-- A2. -/
theorem test_add_overflows :
    after (real.al 0x7F#8) [0x04#8, 0x01#8] (fun t => t.regs.get8 .al == 0x80#8 && !t.flags.cf && !t.flags.zf &&
      t.flags.af && !t.flags.pf && t.flags.sf && t.flags.ofl) = true := by decide +kernel
/-- A3. -/
theorem test_adc_carry :
    after ((real.al 0#8).cf) [0x14#8, 0xFF#8] (fun t => t.regs.get8 .al == 0#8 && t.flags.cf && t.flags.zf &&
      t.flags.af && t.flags.pf && !t.flags.sf && !t.flags.ofl) = true := by decide +kernel
/-- A4, 66 prefix. -/
theorem test_sub_extends_byte :
    after (real) [0x66#8, 0x83#8, 0xE8#8, 0x01#8] (fun t => t.regs.eax == 0xFFFFFFFF#32 && t.flags.cf && t.flags.sf &&
      !t.flags.zf && t.flags.af && t.flags.pf && !t.flags.ofl) = true := by decide +kernel
/-- A5. -/
theorem test_sub_overflows :
    after (real.al 0x80#8) [0x2C#8, 0x01#8] (fun t => t.regs.get8 .al == 0x7F#8 && !t.flags.cf && !t.flags.sf &&
      !t.flags.zf && t.flags.af && !t.flags.pf && t.flags.ofl) = true := by decide +kernel
/-- A6. -/
theorem test_sbb_borrow :
    after ((real.al 5#8).cf) [0x1C#8, 0x05#8] (fun t => t.regs.get8 .al == 0xFF#8 && t.flags.cf && t.flags.sf &&
      !t.flags.zf && t.flags.af && t.flags.pf && !t.flags.ofl) = true := by decide +kernel
/-- A7. -/
theorem test_and_clears :
    after ((real.al 0xF0#8).cf) [0x24#8, 0x3C#8] (fun t => t.regs.get8 .al == 0x30#8 && !t.flags.zf && !t.flags.sf &&
      t.flags.pf && !t.flags.cf && !t.flags.ofl) = true := by decide +kernel
/-- A8. -/
theorem test_or_sets :
    after (real.al 0x80#8) [0x0C#8, 0x01#8] (fun t => t.regs.get8 .al == 0x81#8 && !t.flags.zf && t.flags.sf &&
      t.flags.pf && !t.flags.cf && !t.flags.ofl) = true := by decide +kernel
/-- A9. -/
theorem test_xor_self :
    after (real.reg .eax 0x12345678#32) [0x66#8, 0x31#8, 0xC0#8] (fun t => t.regs.eax == 0#32 && t.flags.zf &&
      !t.flags.sf && t.flags.pf && !t.flags.cf && !t.flags.ofl) = true := by decide +kernel
/-- A10. -/
theorem test_inc_keeps_cf :
    after ((real.al 0xFF#8).cf) [0xFE#8, 0xC0#8] (fun t => t.regs.get8 .al == 0#8 && t.flags.zf && t.flags.af &&
      t.flags.pf && !t.flags.sf && !t.flags.ofl && t.flags.cf) = true := by decide +kernel
/-- A11. -/
theorem test_dec_overflows :
    after (real.al 0x80#8) [0xFE#8, 0xC8#8] (fun t => t.regs.get8 .al == 0x7F#8 && t.flags.ofl && !t.flags.sf &&
      !t.flags.zf && t.flags.af && !t.flags.pf && !t.flags.cf) = true := by decide +kernel
/-- A12. -/
theorem test_neg_min :
    after (real.al 0x80#8) [0xF6#8, 0xD8#8] (fun t => t.regs.get8 .al == 0x80#8 && t.flags.cf && t.flags.ofl &&
      t.flags.sf && !t.flags.zf && !t.flags.af && !t.flags.pf) = true := by decide +kernel
/-- A13. -/
theorem test_neg_zero :
    after ((real.al 0#8).cf) [0xF6#8, 0xD8#8] (fun t => t.regs.get8 .al == 0#8 && !t.flags.cf && t.flags.zf &&
      t.flags.pf && !t.flags.sf && !t.flags.ofl && !t.flags.af) = true := by decide +kernel
/-- A14. -/
theorem test_not_word :
    after (real.reg .eax 0x123400FF#32) [0xF7#8, 0xD0#8] (fun t => t.regs.eax == 0x1234FF00#32 && t.flags ==
      real.flags) = true := by decide +kernel
/-- A15. -/
theorem test_xadd_memory :
    after (((real.reg .ebx 0x800#32).reg .ecx 5#32).poke 0x800 [0x10#8]) [0x0F#8, 0xC0#8, 0x0F#8] (fun t => t.mem.read
      0x800 == 0x15#8 && t.regs.get8 .cl == 0x10#8 && !t.flags.cf && !t.flags.zf && !t.flags.sf && !t.flags.ofl &&
      !t.flags.af && !t.flags.pf) = true := by decide +kernel
/-- A16, LOCK. -/
theorem test_cmpxchg_equal :
    after ((((real.reg .eax 5#32).reg .ebx 0x800#32).reg .ecx 9#32).poke 0x800 [5#8]) [0x66#8, 0xF0#8, 0x0F#8, 0xB1#8,
      0x0F#8] (fun t => t.mem.read 0x800 == 9#8 && t.regs.eax == 5#32 && t.flags.zf && !t.flags.cf) = true :=
      by decide +kernel
/-- A17. -/
theorem test_cmpxchg_unequal :
    after ((((real.reg .eax 5#32).reg .ebx 0x800#32).reg .ecx 9#32).poke 0x800 [7#8]) [0x66#8, 0x0F#8, 0xB1#8, 0x0F#8]
      (fun t => t.mem.read 0x800 == 7#8 && t.regs.eax == 7#32 && !t.flags.zf && t.flags.cf && t.flags.sf) = true :=
      by decide +kernel
/-- A18. -/
theorem test_mul_byte :
    after ((real.al 0x10#8).reg .ecx 0x10#32) [0xF6#8, 0xE1#8] (fun t => t.regs.eax == 0x100#32 && t.flags.cf &&
      t.flags.ofl) = true := by decide +kernel
/-- A19. -/
theorem test_mul_dword :
    after ((real.reg .eax 0xFFFFFFFF#32).reg .ecx 2#32) [0x66#8, 0xF7#8, 0xE1#8] (fun t => t.regs.edx == 1#32 &&
      t.regs.eax == 0xFFFFFFFE#32 && t.flags.cf && t.flags.ofl) = true := by decide +kernel
/-- A20. -/
theorem test_imul_fits :
    after ((real.al 0xFE#8).reg .ebx 3#32) [0xF6#8, 0xEB#8] (fun t => t.regs.eax == 0xFFFA#32 && !t.flags.cf &&
      !t.flags.ofl) = true := by decide +kernel
/-- A21. -/
theorem test_imul_over :
    after ((real.al 0x7F#8).reg .ebx 2#32) [0xF6#8, 0xEB#8] (fun t => t.regs.eax == 0xFE#32 && t.flags.cf &&
      t.flags.ofl) = true := by decide +kernel
/-- A22. -/
theorem test_div_byte :
    after ((real.reg .eax 0x64#32).reg .ecx 7#32) [0xF6#8, 0xF1#8] (fun t => t.regs.eax == 0x20E#32) = true :=
      by decide +kernel
/-- A23, X1. -/
theorem test_div_too_big :
    after (((((real.reg .eax 0x200#32).reg .ecx 1#32).reg .esp 0x100#32)).poke 0 [0#8, 5#8]) [0xF6#8, 0xF1#8] (fun t
      => t.regs.eax == 0x200#32 && t.eip == 0x500#32 && t.mem.read 0xFB == 1#8 && t.mem.read 0xFA == 0#8 && t.regs.esp
      == 0xFA#32) = true := by decide +kernel
/-- A25. -/
theorem test_idiv_truncates :
    after ((real.reg .eax 0xFFF9#32).reg .ebx 2#32) [0xF6#8, 0xFB#8] (fun t => t.regs.eax == 0xFFFD#32) = true :=
      by decide +kernel
/-- A26. -/
theorem test_idiv_too_big :
    after (((real.reg .eax 0x8000#32).reg .ebx 0xFF#32).reg .esp 0x100#32) [0xF6#8, 0xFB#8] (fun t => t.regs.eax ==
      0x8000#32 && t.cur.entered) = true := by decide +kernel
/-- A27: vector 6. -/
theorem test_lock_register :
    after ((real.reg .esp 0x100#32).poke 0x18 [0x34#8]) [0xF0#8, 0x04#8, 0x01#8] (fun t => t.eip == 0x34#32) = true :=
      by decide +kernel
/-- B1. -/
theorem test_bts :
    after (real) [0x66#8, 0x0F#8, 0xBA#8, 0xE8#8, 0x03#8] (fun t => t.regs.eax == 8#32 && !t.flags.cf) = true :=
      by decide +kernel
/-- B2. -/
theorem test_btr :
    after (real.reg .eax 0xFF#32) [0x66#8, 0x0F#8, 0xBA#8, 0xF0#8, 0x00#8] (fun t => t.regs.eax == 0xFE#32 &&
      t.flags.cf) = true := by decide +kernel
/-- B3. -/
theorem test_btc_modulo :
    after (real.reg .eax 0x8000#32) [0x0F#8, 0xBA#8, 0xF8#8, 0x1F#8] (fun t => t.regs.eax == 0#32 && t.flags.cf) =
      true := by decide +kernel
/-- B5. -/
theorem test_bts_string_down :
    after ((real.reg .eax 0xFFFFFFFF#32).reg .ebx 0x800#32) [0x66#8, 0x0F#8, 0xAB#8, 0x07#8] (fun t => t.mem.read
      0x7FF == 0x80#8 && !t.flags.cf) = true := by decide +kernel
/-- B6. -/
theorem test_rol :
    after (((real.al 0x81#8).reg .ecx 0x01#32)) [0xD2#8, 0xC0#8] (fun t => t.regs.get8 .al == 3#8 && t.flags.cf &&
      t.flags.ofl) = true := by decide +kernel
/-- B7. -/
theorem test_ror :
    after (((real.al 0x01#8).reg .ecx 0x01#32)) [0xD2#8, 0xC8#8] (fun t => t.regs.get8 .al == 0x80#8 && t.flags.cf &&
      t.flags.ofl) = true := by decide +kernel
/-- B8. -/
theorem test_rcl :
    after (((real.al 0x80#8).reg .ecx 0x01#32)) [0xD2#8, 0xD0#8] (fun t => t.regs.get8 .al == 0#8 && t.flags.cf &&
      t.flags.ofl) = true := by decide +kernel
/-- B9. -/
theorem test_rcr :
    after (((real.al 0x01#8).reg .ecx 0x01#32)) [0xD2#8, 0xD8#8] (fun t => t.regs.get8 .al == 0#8 && t.flags.cf &&
      !t.flags.ofl) = true := by decide +kernel
/-- B10. -/
theorem test_rcl_nine :
    after (((real.al 0x5A#8).reg .ecx 0x09#32).cf) [0xD2#8, 0xD0#8] (fun t => t.regs.get8 .al == 0x5A#8 && t.flags.cf)
      = true := by decide +kernel
/-- B11. -/
theorem test_shl :
    after (((real.al 0x81#8).reg .ecx 0x01#32)) [0xD2#8, 0xE0#8] (fun t => t.regs.get8 .al == 2#8 && t.flags.cf &&
      t.flags.ofl && !t.flags.sf && !t.flags.zf && !t.flags.pf) = true := by decide +kernel
/-- B12. -/
theorem test_shr :
    after (((real.al 0x81#8).reg .ecx 0x01#32)) [0xD2#8, 0xE8#8] (fun t => t.regs.get8 .al == 0x40#8 && t.flags.cf &&
      t.flags.ofl && !t.flags.sf && !t.flags.zf && !t.flags.pf) = true := by decide +kernel
/-- B13. -/
theorem test_sar :
    after (((real.al 0x81#8).reg .ecx 0x01#32)) [0xD2#8, 0xF8#8] (fun t => t.regs.get8 .al == 0xC0#8 && t.flags.cf &&
      !t.flags.ofl && t.flags.sf && t.flags.pf) = true := by decide +kernel
/-- B14. -/
theorem test_shl_zero :
    after (((real.al 0x81#8).reg .ecx 0x20#32)) [0xD2#8, 0xE0#8] (fun t => t.regs.get8 .al == 0x81#8 && t.flags ==
      real.flags) = true := by decide +kernel
/-- B16. -/
theorem test_sar_7 :
    after (((real.al 0xFF#8).reg .ecx 0x07#32)) [0xD2#8, 0xF8#8] (fun t => t.regs.get8 .al == 0xFF#8 && t.flags.cf &&
      t.flags.sf && t.flags.pf) = true := by decide +kernel
/-- C1. -/
theorem test_jmp_forward :
    after (real) [0xEB#8, 0x02#8] (fun t => t.eip == 0x104#32) = true := by decide +kernel
/-- C3. -/
theorem test_jmp_wraps :
    after ({ real with eip := 0xFFF0#32 }) [0xEB#8, 0x20#8] (fun t => t.eip == 0x12#32) = true := by decide +kernel
/-- C4. -/
theorem test_jmp_far :
    after (real) [0xEA#8, 0x00#8, 0x01#8, 0x00#8, 0xF0#8] (fun t => t.segs.cs.sel == 0xF000#16 && t.segs.cs.base ==
      0xF0000#32 && t.eip == 0x100#32 && t.segs.cs.limit == 0xFFFF#32) = true := by decide +kernel
/-- C5. -/
theorem test_call_near :
    after ({ real.reg .esp 0x100#32 with eip := 0x200#32 }) [0xE8#8, 0x10#8, 0x00#8] (fun t => t.mem.read 0xFE == 3#8
      && t.mem.read 0xFF == 2#8 && t.regs.esp == 0xFE#32 && t.eip == 0x213#32) = true := by decide +kernel
/-- C6. -/
theorem test_call_far :
    after ({ (real.reg .esp 0x100#32).csAt 0x1000#16 with eip := 5#32 }) [0x9A#8, 0x34#8, 0x12#8, 0x00#8, 0x20#8] (fun
      t => t.mem.read 0xFF == 0x10#8 && t.mem.read 0xFC == 0x0A#8 && t.regs.esp == 0xFC#32 && t.segs.cs.base ==
      0x20000#32 && t.eip == 0x1234#32) = true := by decide +kernel
/-- C7. -/
theorem test_ret :
    after ((real.reg .esp 0xFE#32).poke 0xFE [3#8, 2#8]) [0xC3#8] (fun t => t.eip == 0x203#32 && t.regs.esp ==
      0x100#32) = true := by decide +kernel
/-- C8. -/
theorem test_ret_iw :
    after ((real.reg .esp 0xFE#32).poke 0xFE [3#8, 2#8]) [0xC2#8, 0x04#8, 0x00#8] (fun t => t.eip == 0x203#32 &&
      t.regs.esp == 0x104#32) = true := by decide +kernel
/-- C9. -/
theorem test_retf :
    after ((real.reg .esp 0xFC#32).poke 0xFC [0x0A#8, 0#8, 0#8, 0x10#8]) [0xCB#8] (fun t => t.eip == 0xA#32 &&
      t.segs.cs.sel == 0x1000#16 && t.regs.esp == 0x100#32) = true := by decide +kernel
/-- C10. -/
theorem test_iret :
    after ((real.reg .esp 0xFA#32).poke 0xFA [5#8, 1#8, 0#8, 0x20#8, 2#8, 2#8]) [0xCF#8] (fun t => t.eip == 0x105#32
      && t.segs.cs.sel == 0x2000#16 && t.flags.toWord == 0x202#32 && t.regs.esp == 0x100#32) = true :=
      by decide +kernel
/-- C11. -/
theorem test_int_n :
    after ((((real.reg .esp 0x100#32).csAt 0x1000#16).ifl).poke 0x84 [0x34#8, 0x12#8, 0#8, 0xF0#8]) [0xCD#8, 0x21#8]
      (fun t => t.mem.read 0xFF == 2#8 && t.mem.read 0xFD == 0x10#8 && t.mem.read 0xFA == 2#8 && t.mem.read 0xFB ==
      1#8 && t.regs.esp == 0xFA#32 && t.flags.toWord == 2#32 && t.segs.cs.sel == 0xF000#16 && t.eip == 0x1234#32) =
      true := by decide +kernel
/-- C12. -/
theorem test_int3 :
    after ({ (real.reg .esp 0x100#32).poke 0xC [0x77#8] with eip := 0x200#32 }) [0xCC#8] (fun t => t.eip == 0x77#32 &&
      t.mem.read 0xFA == 1#8 && t.mem.read 0xFB == 2#8) = true := by decide +kernel
/-- C13. -/
theorem test_into_not :
    after ({ real with eip := 0x300#32 }) [0xCE#8] (fun t => t.eip == 0x301#32) = true := by decide +kernel
/-- C14. -/
theorem test_into_taken :
    after
      ({ (real.reg .esp 0x100#32).poke 0x10 [0x77#8] with eip := 0x300#32, flags := { real.flags with ofl := true } })
      [0xCE#8] (fun t => t.eip == 0x77#32 && t.mem.read 0xFA == 1#8 && t.mem.read 0xFB == 3#8) = true :=
      by decide +kernel
/-- C15. -/
theorem test_bound_inside :
    after (((real.reg .eax 5#32).reg .ebx 0x800#32).poke 0x802 [9#8]) [0x62#8, 0x07#8] (fun t => t.eip == 0x102#32) =
      true := by decide +kernel
/-- C16. -/
theorem test_bound_outside :
    after ((((real.reg .eax 10#32).reg .ebx 0x800#32).reg .esp 0x100#32).poke 0x802 [9#8]) [0x62#8, 0x07#8] (fun t =>
      t.cur.entered && t.mem.read 0xFA == 0#8 && t.mem.read 0xFB == 1#8) = true := by decide +kernel
/-- C17. -/
theorem test_loop_taken :
    after (real.reg .ecx 2#32) [0xE2#8, 0xFE#8] (fun t => t.eip == 0x100#32 && t.regs.ecx == 1#32) = true :=
      by decide +kernel
/-- C18. -/
theorem test_loop_wraps :
    after (real) [0xE2#8, 0xFE#8] (fun t => t.eip == 0x100#32 && t.regs.ecx == 0xFFFF#32) = true := by decide +kernel
/-- C19. -/
theorem test_loope :
    after (real.reg .ecx 5#32) [0xE1#8, 0xF0#8] (fun t => t.eip == 0x102#32 && t.regs.ecx == 4#32) = true :=
      by decide +kernel
/-- C20. -/
theorem test_loopne :
    after (real.reg .ecx 5#32) [0xE0#8, 0x10#8] (fun t => t.eip == 0x112#32 && t.regs.ecx == 4#32) = true :=
      by decide +kernel
/-- C21: vector 13. -/
theorem test_jmp_past_limit :
    after ((real.reg .esp 0x100#32).poke 0x34 [0x77#8]) [0x66#8, 0xE9#8, 0x00#8, 0x00#8, 0x01#8, 0x00#8] (fun t =>
      t.eip == 0x77#32 && t.mem.read 0xFA == 0#8 && t.mem.read 0xFB == 1#8) = true := by decide +kernel
/-- D1. -/
theorem test_mov_imm_word :
    after (real.reg .eax 0xAAAA0000#32) [0xB8#8, 0x34#8, 0x12#8] (fun t => t.regs.eax == 0xAAAA1234#32) = true :=
      by decide +kernel
/-- D2. -/
theorem test_mov_imm_dword :
    after (real) [0x66#8, 0xB8#8, 0x78#8, 0x56#8, 0x34#8, 0x12#8] (fun t => t.regs.eax == 0x12345678#32) = true :=
      by decide +kernel
/-- D3, S2. -/
theorem test_mov_ah :
    after (real.reg .eax 0x12345678#32) [0xB4#8, 0xFF#8] (fun t => t.regs.eax == 0x1234FF78#32) = true :=
      by decide +kernel
/-- D4. -/
theorem test_mov_moffs :
    after ((real.poke 0x1234 [0x5A#8]).dsAt 0x100#16) [0xA0#8, 0x34#8, 0x02#8] (fun t => t.regs.get8 .al == 0x5A#8) =
      true := by decide +kernel
/-- D7. -/
theorem test_push :
    after ((real.reg .esp 0x100#32).reg .eax 0x1234#32) [0x50#8] (fun t => t.mem.read 0xFE == 0x34#8 && t.mem.read
      0xFF == 0x12#8 && t.regs.esp == 0xFE#32) = true := by decide +kernel
/-- D8. -/
theorem test_push_wraps :
    after (real.reg .eax 0x1234#32) [0x50#8] (fun t => t.mem.read 0xFFFE == 0x34#8 && t.regs.esp == 0xFFFE#32) =
      true := by decide +kernel
/-- D9. -/
theorem test_pop :
    after ((real.reg .esp 0xFE#32).poke 0xFE [0x34#8, 0x12#8]) [0x5B#8] (fun t => t.regs.ebx == 0x1234#32 &&
      t.regs.esp == 0x100#32) = true := by decide +kernel
/-- D10: vector 12. -/
theorem test_pop_straddles :
    after ((real.reg .esp 0xFFFF#32).poke 0x30 [0x77#8]) [0x5B#8] (fun t => t.eip == 0x77#32 && t.regs.esp ==
      0xFFF9#32) = true := by decide +kernel
/-- D11. -/
theorem test_pusha :
    after ((real.reg .esp 0x100#32).reg .eax 0x1111#32) [0x60#8] (fun t => t.regs.esp == 0xF0#32 && t.mem.read 0xFE ==
      0x11#8 && t.mem.read 0xF6 == 0#8 && t.mem.read 0xF7 == 1#8) = true := by decide +kernel
/-- D12. -/
theorem test_popa :
    after ((real.reg .esp 0xF0#32).poke 0xF0 [7#8, 0#8, 6#8, 0#8, 5#8, 0#8, 99#8, 0#8, 3#8, 0#8, 2#8, 0#8, 1#8])
      [0x61#8] (fun t => t.regs.esp == 0x100#32 && t.regs.edi == 7#32 && t.regs.ecx == 1#32 && t.regs.edx == 2#32) =
      true := by decide +kernel
/-- D13. -/
theorem test_pushf :
    after ((real.reg .esp 0x100#32).ifl) [0x9C#8] (fun t => t.mem.read 0xFE == 2#8 && t.mem.read 0xFF == 2#8 &&
      t.regs.esp == 0xFE#32) = true := by decide +kernel
/-- D14. -/
theorem test_popf :
    after ((real.reg .esp 0xFE#32).poke 0xFE [0xD7#8, 0x0A#8]) [0x9D#8] (fun t => t.flags.toWord == 0xAD7#32) =
      true := by decide +kernel
/-- D15. -/
theorem test_popf_fixed_bits :
    after ((real.reg .esp 0xFE#32).poke 0xFE [0xFF#8, 0xFF#8]) [0x9D#8] (fun t => t.flags.toWord == 0x7FD7#32) =
      true := by decide +kernel
/-- D16. -/
theorem test_xchg :
    after ((real.reg .eax 0x1111#32).reg .ebx 0x2222#32) [0x87#8, 0xD8#8] (fun t => t.regs.eax == 0x2222#32 &&
      t.regs.ebx == 0x1111#32) = true := by decide +kernel
/-- D16. -/
theorem test_xchg_ax :
    after ((real.reg .eax 0x1111#32).reg .ebx 0x2222#32) [0x93#8] (fun t => t.regs.eax == 0x2222#32 && t.regs.ebx ==
      0x1111#32) = true := by decide +kernel
/-- D17. -/
theorem test_nop :
    after (real) [0x90#8] (fun t => t.eip == 0x101#32 && t.regs == real.regs && t.flags == real.flags) = true :=
      by decide +kernel
/-- D18. -/
theorem test_xlat :
    after (((real.reg .ebx 0x200#32).al 3#8).poke 0x203 [0x7E#8]) [0xD7#8] (fun t => t.regs.get8 .al == 0x7E#8) =
      true := by decide +kernel
/-- D19. -/
theorem test_out_index :
    after (real.al 0xC3#8) [0xE6#8, 0x22#8] (fun t => t.cfg.index == 0xC3#8 && t.cfg.indexValid && t.ioLog == []) =
      true := by decide +kernel
/-- D20. -/
theorem test_in_config :
    after ({ real with cfg := { real.cfg with index := 0xC3#8, indexValid := true, ccr3 := 0x10#8 } }) [0xE4#8,
      0x23#8] (fun t => t.regs.get8 .al == 0x10#8 && !t.cfg.indexValid && t.ioLog == []) = true := by decide +kernel
/-- D21. -/
theorem test_in_external :
    after (real) [0xE4#8, 0x23#8] (fun t => t.ioLog.length == 1) = true := by decide +kernel
/-- D24. -/
theorem test_insb :
    after (real.reg .edi 0x10#32) [0x6C#8] (fun t => t.regs.edi == 0x11#32 && t.ioLog.length == 1) = true :=
      by decide +kernel
/-- D25. -/
theorem test_outsb_down :
    after ({ (real.reg .esi 0x20#32).poke 0x20 [0x41#8] with flags := { real.flags with df := true } }) [0x6E#8] (fun
      t => t.regs.esi == 0x1F#32 && t.ioLog.map (·.value) == [0x41#32]) = true := by decide +kernel
/-- D27. -/
theorem test_movsd_down :
    after
      ({ ((real.reg .esi 0x400#32).reg .edi 0x200#32).poke 0x400 [1#8, 2#8, 3#8, 4#8] with flags := { real.flags with df := true } })
      [0x66#8, 0xA5#8] (fun t => t.mem.read 0x203 == 4#8 && t.regs.esi == 0x3FC#32 && t.regs.edi == 0x1FC#32) =
      true := by decide +kernel
/-- D29, first iteration. -/
theorem test_rep_stosb :
    after (((real.al 0xFF#8).reg .ecx 3#32).reg .edi 0x300#32) [0xF3#8, 0xAA#8] (fun t => t.mem.read 0x300 == 0xFF#8
      && t.regs.ecx == 2#32 && t.regs.edi == 0x301#32 && t.eip == 0x100#32) = true := by decide +kernel
/-- D30 with MOVSB. -/
theorem test_rep_none :
    after ((real.poke 0 [0xFF#8]).reg .edi 0x300#32) [0xF3#8, 0xA4#8] (fun t => t.mem.read 0x300 == 0#8 && t.regs.edi
      == 0x300#32 && t.eip == 0x102#32) = true := by decide +kernel
/-- D32. -/
theorem test_cs_movsb :
    after ((((real.csAt 0x100#16).reg .esi 0x40#32).reg .edi 0x200#32).poke 0x1040 [0x41#8]) [0x2E#8, 0xA4#8] (fun t
      => t.mem.read 0x200 == 0x41#8) = true := by decide +kernel
/-- E1. -/
theorem test_esc_ts :
    after (({ real with cr0 := 0x60000018#32 }.reg .esp 0x100#32).poke 0x1C [0x77#8]) [0xD9#8, 0xE8#8] (fun t => t.eip
      == 0x77#32 && t.mem.read 0xFA == 0#8) = true := by decide +kernel
/-- E3. -/
theorem test_wait_mp_ts :
    after (({ real with cr0 := 0x6000001A#32 }.reg .esp 0x100#32).poke 0x1C [0x77#8]) [0x9B#8] (fun t => t.eip ==
      0x77#32) = true := by decide +kernel
/-- E4. -/
theorem test_wait_ts :
    after ({ real with cr0 := 0x60000018#32 }) [0x9B#8] (fun t => t.eip == 0x101#32) = true := by decide +kernel
/-- E6. -/
theorem test_emms :
    after ({ real with fpu := { real.fpu with status := 0x1800#16 } }) [0x0F#8, 0x77#8] (fun t => t.fpu.tag ==
      0xFFFF#16 && t.fpu.top == 0) = true := by decide +kernel
/-- E7. -/
theorem test_movd_in :
    after (real.reg .eax 0x12345678#32) [0x0F#8, 0x6E#8, 0xC0#8] (fun t => t.fpu.mm .mm0 == 0x12345678#64 && t.fpu.tag
      == 0#16 && t.fpu.r0.extractLsb' 64 16 == 0xFFFF#16) = true := by decide +kernel
/-- E8. -/
theorem test_movd_out :
    after ({ real with fpu := real.fpu.setMm .mm0 0x1122334455667788#64 }) [0x0F#8, 0x7E#8, 0xC3#8] (fun t =>
      t.regs.ebx == 0x55667788#32) = true := by decide +kernel
/-- E9. -/
theorem test_movq_out :
    after ({ real.reg .ebx 0x800#32 with fpu := real.fpu.setMm .mm1 0x0102030405060708#64 }) [0x0F#8, 0x7F#8, 0x0F#8]
      (fun t => t.mem.read 0x800 == 8#8 && t.mem.read 0x807 == 1#8) = true := by decide +kernel
/-- E10. -/
theorem test_movd_em :
    after (({ real with cr0 := 0x60000014#32 }.reg .esp 0x100#32).poke 0x18 [0x77#8]) [0x0F#8, 0x6E#8, 0xC0#8] (fun t
      => t.eip == 0x77#32) = true := by decide +kernel
/-- R404. -/
theorem test_fnsave_initialises :
    after ({ prot with fpu := { prot.fpu with mcr := 0x1234#16, tag := 0x55AA#16 } }) [0xDD#8, 0x36#8, 0x00#8, 0x08#8]
      (fun t => t.mem.read 0x800 == 0x34#8 && t.mem.read 0x804 == 0xAA#8 && t.fpu.mcr == 0x37F#16 && t.fpu.tag ==
      0xFFFF#16) = true := by decide +kernel
/-- R406. -/
theorem test_frstor :
    after (real.poke 0x800 [0x7F#8, 3#8, 0#8, 0#8, 0xAA#8, 0x55#8]) [0xDD#8, 0x26#8, 0x00#8, 0x08#8] (fun t =>
      t.fpu.mcr == 0x37F#16 && t.fpu.tag == 0x55AA#16) = true := by decide +kernel
/-- F1. -/
theorem test_lgdt_32 :
    after ((real.reg .ebx 0x800#32).poke 0x800 [0xFF#8, 3#8, 0#8, 0x10#8, 0#8, 0#8]) [0x66#8, 0x0F#8, 0x01#8, 0x17#8]
      (fun t => t.gdtr == { base := 0x1000#32, limit := 0x3FF#16 }) = true := by decide +kernel
/-- F2. -/
theorem test_lgdt_16 :
    after ((real.reg .ebx 0x800#32).poke 0x800 [0xFF#8, 3#8, 0x78#8, 0x56#8, 0x34#8, 0x12#8]) [0x0F#8, 0x01#8, 0x17#8]
      (fun t => t.gdtr == { base := 0x345678#32, limit := 0x3FF#16 }) = true := by decide +kernel
/-- F3. -/
theorem test_sgdt :
    after ({ real.reg .ebx 0x800#32 with gdtr := { base := 0x1000#32, limit := 0x3FF#16 } }) [0x66#8, 0x0F#8, 0x01#8,
      0x07#8] (fun t => t.mem.read 0x800 == 0xFF#8 && t.mem.read 0x801 == 3#8 && t.mem.read 0x803 == 0x10#8) = true :=
      by decide +kernel
/-- F4, 32-bit operand. -/
theorem test_sidt :
    after (real.reg .ebx 0x800#32) [0x66#8, 0x0F#8, 0x01#8, 0x0F#8] (fun t => t.mem.read 0x800 == 0xFF#8 && t.mem.read
      0x801 == 3#8 && t.mem.read 0x804 == 0#8) = true := by decide +kernel
/-- F5: #GP(0). -/
theorem test_hlt_user :
    after (user) [0xF4#8] (fun t => t.cpl == 0#2 && t.eip == 0xD0#32 && !t.halted) = true := by decide +kernel
/-- F6: vector 6. -/
theorem test_lldt_real :
    after ((real.reg .esp 0x100#32).poke 0x18 [0x77#8]) [0x0F#8, 0x00#8, 0xD0#8] (fun t => t.eip == 0x77#32) = true :=
      by decide +kernel
/-- F7. -/
theorem test_mov_cr0 :
    after (real.reg .eax 0x60000011#32) [0x0F#8, 0x22#8, 0xC0#8] (fun t => t.cr0 == 0x60000011#32) = true :=
      by decide +kernel
/-- F8. -/
theorem test_mov_from_cr0 :
    after (real) [0x0F#8, 0x20#8, 0xC0#8] (fun t => t.regs.eax == 0x60000010#32) = true := by decide +kernel
/-- F9: vector 13. -/
theorem test_mov_cr0_pg :
    after (((real.reg .eax 0x80000010#32).reg .esp 0x100#32).poke 0x34 [0x77#8]) [0x0F#8, 0x22#8, 0xC0#8] (fun t =>
      t.eip == 0x77#32 && t.cr0 == 0x60000010#32) = true := by decide +kernel
/-- F11. -/
theorem test_mov_dr0 :
    after (real.reg .eax 0x1000#32) [0x0F#8, 0x23#8, 0xC0#8] (fun t => t.dr.dr0 == 0x1000#32) = true :=
      by decide +kernel
/-- F12: vector 1. -/
theorem test_mov_dr_gd :
    after (({ real with dr := { real.dr with dr7 := 0x2400#32 } }.reg .esp 0x100#32).poke 4 [0x77#8]) [0x0F#8, 0x21#8,
      0xC0#8] (fun t => t.eip == 0x77#32 && t.dr.dr7 == 0x400#32) = true := by decide +kernel
/-- F13. -/
theorem test_mov_tr5 :
    after (real.reg .eax 3#32) [0x0F#8, 0x26#8, 0xE8#8] (fun t => t.test.tr5 == 3#32) = true := by decide +kernel
/-- F14. -/
theorem test_rdtsc :
    after ({ real with tsc := 0x100000200#64, starting := false }) [0x0F#8, 0x31#8] (fun t => t.regs.edx == 1#32 && t.regs.eax ==
      0x200#32) = true := by decide +kernel
/-- F16. -/
theorem test_wrmsr_cesr :
    after ((({ real with cesr := 5#64 }.reg .edx 0#32).reg .eax 0xD6#32).reg .ecx 0x11#32) [0x0F#8, 0x30#8] (fun t =>
      t.cesr == 0xD6#64) = true := by decide +kernel
/-- F17. -/
theorem test_rdmsr_cesr :
    after (({ real with cesr := 0xD6#64 }).reg .ecx 0x11#32) [0x0F#8, 0x32#8] (fun t => t.regs.eax == 0xD6#32 &&
      t.regs.edx == 0#32) = true := by decide +kernel
/-- F18: vector 13. -/
theorem test_rdmsr_unknown :
    after (((real.reg .ecx 0x20#32).reg .esp 0x100#32).poke 0x34 [0x77#8]) [0x0F#8, 0x32#8] (fun t => t.eip ==
      0x77#32) = true := by decide +kernel
/-- F19. -/
theorem test_rdpmc :
    after ({ real with pmc0 := 0x100#48 }) [0x0F#8, 0x33#8] (fun t => t.regs.eax == 0x100#32 && t.regs.edx == 0#32) =
      true := by decide +kernel
/-- F21. -/
theorem test_cli :
    after (real.ifl) [0xFA#8] (fun t => t.flags.toWord == 2#32) = true := by decide +kernel
/-- F22. -/
theorem test_sti_shadow :
    after (real) [0xFB#8] (fun t => t.flags.toWord == 0x202#32 && t.shadow == .sti) = true := by decide +kernel
/-- F24. -/
theorem test_hlt :
    after (real.ifl) [0xF4#8] (fun t => t.halted && t.eip == 0x101#32) = true := by decide +kernel
/-- F25: vector 6. -/
theorem test_cpuid_disabled :
    after (({ real with cfg := { real.cfg with ccr4 := 0#8 } }.reg .esp 0x100#32).poke 0x18 [0x77#8]) [0x0F#8, 0xA2#8]
      (fun t => t.eip == 0x77#32) = true := by decide +kernel
/-- F28. -/
theorem test_invlpg :
    after ({ real.dsBase 0x400123#32 with tlb := { l1 := [], l2 := [], cached := [entry 0x400#20, entry 0x401#20] } })
      [0x0F#8, 0x01#8, 0x3F#8] (fun t => t.tlb.cached == [entry 0x401#20]) = true := by decide +kernel
/-- G1. -/
theorem test_svdc :
    after ((smmOn.dsAt 0x1234#16)) [0x2E#8, 0x0F#8, 0x78#8, 0x1E#8, 0x00#8, 0x10#8] (fun t => [0, 1, 2, 3, 4, 5, 6, 7,
      8, 9].map (fun k => t.mem.read (0x1000 + k)) == [0xFF#8, 0xFF#8, 0x40#8, 0x23#8, 1#8, 0x93#8, 0#8, 0#8, 0x34#8,
      0x12#8]) = true := by decide +kernel
/-- G3. -/
theorem test_rsdc :
    after (smmOn.poke 0x2000 [0xFF#8, 0xFF#8, 0#8, 0#8, 0#8, 0x93#8, 0xCF#8, 0#8, 0x10#8]) [0x0F#8, 0x79#8, 0x06#8,
      0x00#8, 0x20#8] (fun t => t.segs.es.sel == 0x10#16 && t.segs.es.base == 0#32 && t.segs.es.limit == 0xFFFFFFFF#32
      && t.segs.es.attr.d) = true := by decide +kernel
/-- G5. -/
theorem test_svldt :
    after
      ({ smmOn with ldtr := { sel := 0x28#16, base := 0x100000#32, limit := 0xFFF#32, attr := { Attr.unusable with p := true, typ := 2#4 } } })
      [0x0F#8, 0x7A#8, 0x06#8, 0x00#8, 0x20#8] (fun t => [0, 1, 2, 3, 4, 5, 6, 7, 8, 9].map (fun k => t.mem.read
      (0x2000 + k)) == [0xFF#8, 0xF#8, 0#8, 0#8, 0x10#8, 0x82#8, 0#8, 0#8, 0x28#8, 0#8]) = true := by decide +kernel
/-- R464: the image of a null selector and P = 0 with limit Fh; the LDT's second descriptor can be read, the third cannot. -/
theorem test_rsldt_null :
    after (({ smmOn with ldtrInvalid := true } : State).poke 0x2000 [0xF#8, 0#8, 0#8, 0x10#8, 0#8, 2#8, 0#8, 0#8, 0#8, 0#8])
      [0x0F#8, 0x7B#8, 0x06#8, 0x00#8, 0x20#8] (fun t => t.ldtr.base == 0x1000#32 && t.ldtr.limit == 0xF#32 &&
        !t.ldtr.attr.p && okWith (readDesc 0xC#16 (.gp 0xC#16) t) (fun x _ => x.1 == 0x1008#32) &&
        raises (readDesc 0x14#16 (.gp 0x14#16) t) (fun x _ => x == .gp 0x14#16)) = true := by decide +kernel
/-- R424: after a null selector no selector of the LDT is good, one of a good LDT is. -/
theorem test_lldt_mark :
    let s : State := { prot with ldtr := { Seg.resetSystem with sel := 0x30#16, base := 0x1000#32, limit := 0xF#32 } }
    okWith (readDesc 0xC#16 (.gp 0xC#16) s) (fun _ _ => true) = true ∧
    nextWith (exec (.lldt (.reg .eax)) s) (fun t => t.ldtrInvalid &&
      raises (readDesc 0xC#16 (.gp 0xC#16) t) (fun x _ => x == .gp 0xC#16)) = true ∧
    nextWith (exec (.lldt (.reg .eax)) (({ s with ldtrInvalid := true } : State).reg .eax 0x30#32))
      (fun t => !t.ldtrInvalid) = true := by
  decide +kernel
/-- R25, D14: a prefix at FFFF FFFFh does not go on at offset 0; the same NOP runs from there. -/
theorem test_prefix_at_top :
    [0xFFFFFFFE#32, 0xFFFFFFFF#32].all (fun e => match step (topCode e) with | .refused .eipWrap => true | _ => false) = true ∧
    nextWith (step (topCode 0#32)) (fun t => t.eip == 1#32) = true := by decide +kernel
/-- G6. -/
theorem test_svts :
    after
      ({ smmOn with tr := { sel := 0x30#16, base := 0x20000#32, limit := 0x67#32, attr := { Attr.unusable with p := true, typ := 0xB#4 } } })
      [0x0F#8, 0x7C#8, 0x06#8, 0x10#8, 0x20#8] (fun t => [0, 1, 2, 3, 4, 5, 6, 7, 8, 9].map (fun k => t.mem.read
      (0x2010 + k)) == [0x67#8, 0#8, 0#8, 0#8, 2#8, 0x8B#8, 0#8, 0#8, 0x30#8, 0#8]) = true := by decide +kernel
/-- G8. -/
theorem test_rdshr :
    after ({ smmOn with smhr := 0xA8001#32 }) [0x0F#8, 0x36#8, 0xC3#8] (fun t => t.regs.ebx == 0xA8001#32) = true :=
      by decide +kernel
/-- G9. -/
theorem test_wrshr :
    after (smmOn.reg .eax 0xA4001#32) [0x0F#8, 0x37#8, 0xC0#8] (fun t => t.smhr == 0xA4001#32) = true :=
      by decide +kernel
/-- G10: vector 6. -/
theorem test_smint_disabled :
    after ((real.reg .esp 0x100#32).poke 0x18 [0x77#8]) [0x0F#8, 0x38#8] (fun t => t.eip == 0x77#32) = true :=
      by decide +kernel
/-- P3. -/
theorem test_smint :
    after ({ smmOn with eip := 0x7C28#32 }) [0x0F#8, 0x38#8] (fun t => t.smhr == 0xA8001#32 && t.segs.cs.base ==
      0xA0000#32 && t.eip == 0#32 && t.inSmm && t.cpl == 0#2) = true := by decide +kernel
/-- P3, R565. -/
theorem test_rsm :
    after (({ smmOn with smhr := 0xA8001#32, inSmm := true }.csAt 0#16).pokeSmm 0xA7FDC [9#8, 0#8, 0#8, 0#8, 0xFF#8,
      0xFF#8, 0#8, 0#8, 0#8, 0x93#8, 0#8, 0#8, 0#8, 0#8, 0#8, 0#8, 0x2A#8, 0x7C#8, 0#8, 0#8, 0x28#8, 0x7C#8, 0#8, 0#8,
      0x10#8, 0#8, 0#8, 0x60#8, 2#8, 0#8, 0#8, 0#8, 0#8, 4#8]) [0x0F#8, 0xAA#8] (fun t => t.eip == 0x7C2A#32 &&
      !t.inSmm && t.cfg.ccr6 == 0x40#8 && t.cr0 == 0x60000010#32) = true := by decide +kernel
/-- X2. -/
theorem test_idt_limit_shutdown :
    after ({ real.reg .esp 0x100#32 with idtr := { base := 0#32, limit := 3#16 } }) [0xCD#8, 0x01#8] (fun t =>
      t.shutdown) = true := by decide +kernel
/-- X5. -/
theorem test_data_breakpoint :
    after ({ real.reg .edi 0x2003#32 with dr := { real.dr with dr0 := 0x2000#32, dr7 := 0xD0401#32 } }) [0xAA#8] (fun
      t => t.trap == some { hits := 1#4, bs := false }) = true := by decide +kernel
/-- X6. -/
theorem test_single_step :
    after ({ real with flags := { real.flags with tf := true } }) [0x90#8] (fun t => t.trap == some
      { hits := 0#4, bs := true } && t.eip == 0x101#32) = true := by decide +kernel
/-- P4. -/
theorem test_far_jump_protected :
    after (prot) [0x66#8, 0xEA#8, 0x00#8, 0x05#8, 0x00#8, 0x00#8, 0x08#8, 0x00#8] (fun t => t.segs.cs.sel == 8#16 &&
      t.eip == 0x500#32 && t.mem.read 0x100D == 0x9B#8) = true := by decide +kernel
/-- P4. -/
theorem test_mov_ds_protected :
    after (prot.reg .eax 0x10#32) [0x8E#8, 0xD8#8] (fun t => t.segs.ds.sel == 0x10#16 && t.segs.ds.base == 0#32 &&
      t.mem.read 0x1015 == 0x93#8) = true := by decide +kernel
/-- X7: vector 11. -/
theorem test_mov_ds_not_present :
    after ((prot.reg .eax 0x13#32).poke 0x1015 [0x72#8]) [0x8E#8, 0xD8#8] (fun t => t.eip == 0xB0#32) = true :=
      by decide +kernel
/-- M20: vector 17. -/
theorem test_mul_alignment :
    after ({ user.reg .ebx 0x801#32 with cr0 := 0x60040011#32, flags := { user.flags with ac := true } }) [0xF7#8,
      0x27#8] (fun t => t.cpl == 0#2 && t.eip == 0x110#32) = true := by decide +kernel
/-- R640, D29: the first RDTSC after reset reads the clocks of the delay, 200 bus clocks at 2X. -/
theorem test_rdtsc_first : after (real) [0x0F#8, 0x31#8] (fun t => t.regs.eax == 400#32) = true := by decide +kernel
/-- R261: LOCK before SVLDT is vector 6, its reg field not 0 or not. -/
theorem test_lock_before_operand :
    after ((smmOn.reg .esp 0x100#32).poke 0x18 [0x77#8]) [0xF0#8, 0x0F#8, 0x7A#8, 0x0E#8, 0x00#8, 0x20#8]
      (fun t => t.eip == 0x77#32) = true := by decide +kernel
/-- R163: another agent writes after four bytes are fetched and the operand is read; XCHG overwrites what it wrote, with weak locking,
and is overwritten, with LOCK#. -/
theorem test_xchg_weak_lock :
    let s := { real.al 1#8 with env := [{ Pins.idle with bus := [[], [], [], [], [], [], [.write 0x2000#32 7#8]] }] }
    after ({ s with cfg := { s.cfg with ccr1 := 0x10#8 } }) [0x86#8, 0x06#8, 0x00#8, 0x20#8]
      (fun t => t.mem.read 0x2000 == 1#8) = true ∧
    after s [0x86#8, 0x06#8, 0x00#8, 0x20#8] (fun t => t.mem.read 0x2000 == 7#8) = true := by decide +kernel
/-- R171: the inquiry of a read writes a modified sector back and leaves it shared. -/
theorem test_bus_read :
    let t := ({ real with cache := { real.cache with lines := [line 8#4] } } : State).busRead 0x500#32
    (t.cache.lines.map fun e => e.2.mesi0) = [9#4] ∧ t.mem.read 0x501 = 0x33#8 := by decide +kernel
/-- R25: in 16-bit code the upper half of EIP is zero, the CS limit past FFFFh or not. -/
theorem test_jmp_upper_half :
    after ({ real with segs := { real.segs with cs := { real.segs.cs with limit := 0xFFFFFFFF#32 } } })
      [0x66#8, 0xE9#8, 0x00#8, 0x00#8, 0x01#8, 0x00#8] (fun t => t.eip == 0x106#32) = true := by decide +kernel
/-- U8: the unnamed bits of DR7 are stored. -/
theorem test_mov_dr7 :
    after (real.reg .eax 0xFFFFDFFF#32) [0x0F#8, 0x23#8, 0xF8#8] (fun t => t.dr.dr7 == 0xFFFFDFFF#32) = true :=
      by decide +kernel
/-- M12, M13: the walk and the bits it marks. -/
theorem test_page_walk : okWith (linAccess 0x401234#32 1 .read false 1 paged) (fun pas t =>
    addrs pas == [0x50234#32] && t.mem.read 0x1004 == 0x27#8 && t.mem.read 0x2004 == 0x27#8) = true := by decide +kernel
/-- M13: a write marks the page table entry dirty. -/
theorem test_page_dirty : okWith (linAccess 0x401234#32 1 .write false 1 paged) (fun pas t =>
    addrs pas == [0x50234#32] && t.mem.read 0x1004 == 0x27#8 && t.mem.read 0x2004 == 0x67#8) = true := by decide +kernel
/-- M14: a write to a read-only page at level 3: error code 7, the address in CR2. -/
theorem test_page_fault :
    (match linAccess 0x401234#32 1 .write true 1 (paged.poke 0x2004 [5#8]) with
     | .error (.exc x) t => x == .pf 7#16 && t.cr2 == 0x401234#32
     | _ => false) = true := by decide +kernel
/-- M19: a descriptor's base, limit and rights. -/
theorem test_descriptor : (let d := BitVec.ofNat 64 (leNat [0xFF#8, 0xFF#8, 0#8, 0#8, 0x10#8, 0x9A#8, 0xCF#8, 0#8])
    descBase d == 0x100000#32 && descLimit d == 0xFFFFFFFF#32 && (descAttr d).d && (descAttr d).code) = true := by decide
/-- M1, S8: a real-mode address. -/
theorem test_real_address : okWith (segCheck .ds 0x5678#32 1 .read (real.dsAt 0x1234#16)) (fun la _ => la == 0x179B8#32) =
    true := by decide +kernel
/-- M4: base, scaled index and displacement. -/
theorem test_sib_address : effAddr ((real.reg .ebx 0x1000#32).reg .esi 0x10#32).regs (.sib .ebx (some .esi) .x4 (.d8 8#8)) =
    0x1048#32 := by decide
/-- M9: ARR7 has a size column of its own. -/
theorem test_arr7_size : regionSize true 1 = 0x40000 := by decide
/-- X3: NMI is taken with IF = 0 and the pin's edge; it is then held off. -/
theorem test_nmi : (match step { real.reg .esp 0x100#32 with env := [{ Pins.idle with nmi := true, intr := some 0x20#8 }] } with
    | .next t => t.nmiBlocked && !t.nmiPending && t.cur.entered
    | _ => false) = true := by decide +kernel
/-- F24: an INTR ends the halt. -/
theorem test_intr_ends_halt :
    (match step { (real.ifl.reg .esp 0x100#32).poke 0x80 [0x77#8] with
      halted := true, env := [{ Pins.idle with intr := some 0x20#8 }] } with
     | .next t => t.eip == 0x77#32 && !t.halted && t.mem.read 0xFB == 1#8
     | _ => false) = true := by decide +kernel

/-! ## Hypotheses that can be met -/

/-- AluOnByteOperand, UnaryOnOperand, ExchangeForms, CompareExchange, ShiftByCl, MovToOperand: the last byte of a segment. -/
theorem wit_byte_write : okWith (locate8 (.mem (.direct16 0xFFFF#16)) .write real) (fun p t =>
    t.placeReadable p && t.placeWritable p && t.placeWritable (t.lockPlace p)) = true := by decide +kernel
/-- AluOnWordOperand, UnaryOnOperand, ExchangeForms, CompareExchange, BitChange, ShiftByCl, MovToOperand: the last word and
the last doubleword of a segment. -/
theorem wit_word_write : (okWith (locateV .w16 (.mem (.direct16 0xFFFE#16)) .write real) (fun p t =>
    t.placeReadable p && t.placeWritable p && t.placeWritable (t.lockPlace p)) &&
    okWith (locateV .w32 (.mem (.direct16 0xFFFC#16)) .write real) (fun p t =>
    t.placeReadable p && t.placeWritable p && t.placeWritable (t.lockPlace p))) = true := by decide +kernel
/-- AluToRegister, Multiply, MovToRegister: operands that are read. -/
theorem wit_read : (okWith (locate8 (.mem (.direct16 0xFFFF#16)) .read real) (fun p t => t.placeReadable p) &&
    okWith (locateV .w32 (.mem (.m16 .bp (.d8 0#8))) .read real) (fun p t => t.placeReadable p)) = true := by
  decide +kernel
/-- AddSubLogicFlags, ShiftResults: a width and a count. -/
theorem wit_width : (32 = 8 ∨ 32 = 16 ∨ 32 = 32) ∧ 1 ≤ 1 ∧ 31 ≤ 31 ∧ (8 : Nat) ≤ 8 := by decide
/-- DivisionResults: quotients at the ends of their range. -/
theorem wit_DivisionResults : divU (n := 8) 0xFEFF#16 0xFF#8 = some (0xFF#8, 0xFE#8) ∧
    divS (n := 8) 0xC000#16 0x7F#8 = none ∧ divS (n := 8) 0x3F80#16 0x80#8 = some (0x81#8, 0#8) ∧
    divU (n := 8) 0x100#16 1#8 = none ∧ divS (n := 8) 0xFFF9#16 2#8 = some (0xFD#8, 0xFF#8) := by decide +kernel
/-- Divide: a byte and a word divisor, with and without a quotient. -/
theorem wit_Divide :
    okWith (locate8 (.reg .cl) .read ((real.reg .eax 0x64#32).reg .ecx 7#32)) (fun p t => t.placeReadable p &&
      divU (n := 8) (t.regs.eax.setWidth 16) (t.placeValue 8 p) == some (0xE#8, 2#8) &&
      divS (n := 8) (t.regs.eax.setWidth 16) (t.placeValue 8 p) == some (0xE#8, 2#8)) = true ∧
    okWith (locate8 (.reg .cl) .read (real.reg .eax 0x8000#32)) (fun p t => t.placeReadable p &&
      divU (n := 8) (t.regs.eax.setWidth 16) (t.placeValue 8 p) == none &&
      divS (n := 8) (t.regs.eax.setWidth 16) (t.placeValue 8 p) == none) = true ∧
    okWith (locateV .w16 (.reg .ecx) .read (((real.reg .eax 0#32).reg .edx 1#32).reg .ecx 4#32)) (fun p t =>
      t.placeReadable p && divU (n := 16) (t.regs.edx.setWidth 16 ++ t.regs.eax.setWidth 16) (t.placeValue 16 p) ==
        some (0x4000#16, 0#16) &&
      divS (n := 16) (t.regs.edx.setWidth 16 ++ t.regs.eax.setWidth 16) (t.placeValue 16 p) == some (0x4000#16, 0#16)) =
      true ∧
    okWith (locateV .w16 (.reg .ecx) .read real) (fun p t => t.placeReadable p &&
      divU (n := 16) (t.regs.edx.setWidth 16 ++ t.regs.eax.setWidth 16) (t.placeValue 16 p) == none &&
      divS (n := 16) (t.regs.edx.setWidth 16 ++ t.regs.eax.setWidth 16) (t.placeValue 16 p) == none) = true := by
  decide +kernel
/-- BitChange: a bit string offset of -1. -/
theorem wit_BitChange : okWith (segAccess (real.dataSeg .ds) (bitWordAddr (.direct16 0x800#16) 0x800#32 .w32
    (bitOffset .w32 0xFFFFFFFF#32)) 4 .write 4 real) (fun pas t => t.readOk && t.writeOk pas &&
    (addrs pas).head? == some 0x7FC#32) = true := by decide +kernel
/-- MovToOperand: moffs at a segment's end, and a selector in memory. -/
theorem wit_MovToOperand : (okWith (locateMoffs (.o16 0xFFFF#16) 1 .write real) (fun pas t => t.writeOk pas) &&
    okWith (locateMoffs (.o16 0xFFFC#16) 4 .write real) (fun pas t => t.writeOk pas) &&
    okWith (locateMem (.direct16 0xFFFE#16) 2 2 .write real) (fun pas t => t.writeOk pas)) = true := by decide +kernel
/-- MovToRegister: moffs and the table byte of XLAT. -/
theorem wit_MovToRegister : (okWith (locateMoffs (.o16 0xFFFF#16) 1 .read real) (fun _ t => t.readOk) &&
    okWith (locateMoffs (.o32 0xFFFC#32) 4 .read real) (fun _ t => t.readOk) &&
    okWith (segAccess (real.dataSeg .ds) (asTrunc .a16 0x10000#32) 1 .read 1 real) (fun _ t => t.readOk)) = true := by
  decide +kernel
/-- RealSegmentLoad: a selector in a register and one on the stack; V86 mode. -/
theorem wit_RealSegmentLoad : (okWith (readRM16 (.reg .eax) real) (fun _ t => t.realLike) &&
    okWith (peekStack .w16 0 (real.reg .esp 0xFFFE#32)) (fun _ t => (t.popped .w16 1 0).realLike) &&
    okWith (readRM16 (.reg .eax) v86) (fun _ t => t.realLike && t.v86)) = true := by decide +kernel
/-- ProtectedSegmentLoad: null selectors; one past the GDT and the last within it; level 0 loads its data segment, in SS too;
level 3 may not; a segment not present; a selector on the stack. -/
theorem wit_ProtectedSegmentLoad :
    (let loads := fun (s : State) (sel : Word16) (p : Attr → State → Bool) =>
       okWith (readRM16 (.reg .eax) (s.reg .eax (sel.setWidth 32))) fun x t => !t.realLike && x == sel && !nullSel x &&
         okWith (readDesc x (.gp (selCode x)) t) fun y u => p (descAttr y.2) t && okWith (markAccessed y.1 y.2 u) fun _ _ => true
     nullSel 3#16 && !prot.realLike && !nullSel 0x68#16 && decide (prot.gdtr.limit.toNat < (0x68#16 &&& 0xFFF8#16).toNat + 7) &&
     loads prot 0x10#16 (fun a t => a.dt && !a.code && a.p && decide (t.cpl ≤ a.dpl) && a.writable && a.dpl == t.cpl) &&
     loads prot 0x60#16 (fun a _ => !a.dt) &&
     loads user 0x10#16 (fun a t => !a.conforming && !a.writable == false && decide (a.dpl < t.cpl)) &&
     loads prot 0x48#16 (fun a t => a.writable && a.dpl == t.cpl && !a.p) &&
     okWith (peekStack .w16 0 (prot.poke 0x5000 [0x10#8])) (fun v t => !(t.popped .w16 1 0).realLike && v == 0x10#32)) =
    true := by decide +kernel
/-- PushForms: a stack pointer of 0 wraps; a pushed operand; PUSHA; a 32-bit selector. -/
theorem wit_PushForms : (okWith (pushPlaces .w16 1 [1#32] real) (fun pl t => t.itemsOk pl) &&
    okWith (readRMv .w32 (.mem (.direct16 0xFFFC#16)) real) (fun v t =>
      okWith (pushPlaces .w32 1 [v.setWidth 32] t) (fun pl u => u.itemsOk pl)) &&
    okWith (pushPlaces .w32 1 (blanks 8) real) (fun pl t => t.itemsOk pl) &&
    okWith (pushPlaces .w32 1 [0#32] { real with freeCtr := real.freeCtr + 1 }) (fun pl t => t.itemsOk pl)) = true := by
  decide +kernel
/-- PopForms: the last word of the stack; a popped operand; the eight items of POPA. -/
theorem wit_PopForms : (okWith (peekStack .w16 0 (real.reg .esp 0xFFFE#32)) (fun _ t =>
      okWith (locateV .w16 (.mem (.direct16 0xFFFE#16)) .write (t.popped .w16 1 0)) (fun p u => u.placeWritable p)) &&
    [0, 1, 2, 3, 4, 5, 6, 7].all fun k => okWith (peekStack .w16 k (real.reg .esp 0xFFF0#32)) fun _ t =>
      t == real.reg .esp 0xFFF0#32) = true := by decide +kernel
/-- FlagsOnStack, IntoAndBound: real mode; V86 mode with IOPL 3. -/
theorem wit_FlagsOnStack : (!real.v86 && okWith (pushPlaces .w16 1 [0#32] real) (fun pl t => t.itemsOk pl) &&
    okWith (peekStack .w32 0 (real.reg .esp 0xFFFC#32)) (fun _ _ => true)) = true := by decide +kernel
/-- NearTransfers: targets at the CS limit and past it, in the instruction, in a register and on the stack. -/
theorem wit_NearTransfers : osTrunc .w16 (({ real with eip := 0xFFFD#32 } : State).eip + (2#8 : Byte).signExtend 32) ≤
      real.segs.cs.limit ∧ real.segs.cs.limit < osTrunc (Imm.i32 0xFF00#32).osize (real.eip + immSext (.i32 0xFF00#32)) ∧
    okWith (readRMv .w16 (.reg .eax) (real.reg .eax 0xFFFF#32)) (fun v t => decide (v.setWidth 32 ≤ t.segs.cs.limit) &&
      okWith (pushPlaces .w16 1 [t.eip] { t with eip := v.setWidth 32 }) (fun pl u => u.itemsOk pl)) = true ∧
    okWith (readRMv .w32 (.reg .eax) (real.reg .eax 0x10000#32)) (fun v t => !decide (v.setWidth 32 ≤ t.segs.cs.limit)) =
      true ∧
    okWith (peekStack .w16 0 (real.poke 0 [0xFF#8, 0xFF#8])) (fun v t => decide (osTrunc .w16 v ≤ t.segs.cs.limit)) = true ∧
    okWith (peekStack .w32 0 (real.poke 2 [1#8])) (fun v t => !decide (osTrunc .w32 v ≤ t.segs.cs.limit)) = true ∧
    real.segs.cs.limit < osTrunc .w32 (({ real with eip := 0xFFFF#32 } : State).eip + (1#8 : Byte).signExtend 32) := by
  decide +kernel
/-- RealFarTransfers: pointers in the instruction and in memory, calls, returns; offsets past the limit; V86 mode. -/
theorem wit_RealFarTransfers : (real.realLike && v86.realLike && decide (immZext (.i16 0xFFFF#16) ≤ real.segs.cs.limit) &&
    decide (real.segs.cs.limit < immZext (.i32 0x10000#32)) &&
    okWith (readFarPtr .w16 (.direct16 0xFFFC#16) [] real) (fun x t => t.realLike && decide (x.2 ≤ t.segs.cs.limit)) &&
    okWith (readFarPtr .w16 (.direct16 0xFFFC#16) (real.pushRefs .w16 1 2) real) (fun x t => t.realLike &&
      decide (x.2 ≤ t.segs.cs.limit) && okWith (pushPlaces .w16 1 [0#32, 0#32] t) (fun pl u =>
        okWith (selItem .w16 t.segs.cs.sel u) (fun _ w => w.itemsOk pl))) &&
    okWith (peekStack .w16 0 (real.reg .esp 0xFFFC#32)) (fun off t =>
      okWith (peekStack .w16 1 t) (fun _ u => u.realLike && decide (off ≤ u.segs.cs.limit))) &&
    okWith (peekStack .w32 0 (real.poke 2 [1#8])) (fun off t =>
      okWith (peekStack .w32 1 t) (fun _ u => u.realLike && decide (u.segs.cs.limit < off)))) = true := by decide +kernel
/-- ProtectedFarJump: a descriptor for each clause; a call; returns to the same and to an outer level. -/
theorem wit_ProtectedFarJump :
    (let target := fun (s : State) (sel : Word16) (p : BitVec 64 → Bool) => !s.realLike && !nullSel sel &&
       okWith (readDesc sel (.gp (selCode sel)) s) fun x t => p x.2 && okWith (markAccessed x.1 x.2 t) fun _ _ => true
     nullSel 3#16 &&
     target prot 8#16 (fun d => (descAttr d).code && !(descAttr d).conforming && (descAttr d).dpl == prot.cpl &&
       (descAttr d).p && decide (immZext (.i32 0xFFFFFFFF#32) ≤ descLimit d)) &&
     target user 0x38#16 (fun d => (descAttr d).conforming && decide ((descAttr d).dpl ≤ user.cpl) && (descAttr d).p) &&
     target user 8#16 (fun d => (descAttr d).code && !(descAttr d).conforming && (descAttr d).dpl != user.cpl) &&
     target prot 0x40#16 (fun d => (descAttr d).code && (descAttr d).dpl == prot.cpl && !(descAttr d).p) &&
     target prot 0x50#16 (fun d => (descAttr d).code && (descAttr d).p && decide (descLimit d < 1#32)) &&
     target prot 0x10#16 (fun d => (descAttr d).data) &&
     target prot 0x28#16 (fun d => !(descAttr d).dt && (descAttr d).typ == 9#4) &&
     target prot 0x30#16 (fun d => !(descAttr d).dt && (descAttr d).typ == 2#4) &&
     target prot 0x58#16 (fun d => !(descAttr d).dt && (descAttr d).typ == 0xC#4) &&
     target prot 0x60#16 (fun d => !(descAttr d).dt && (descAttr d).typ == 5#4)) = true ∧
    okWith (readDesc 8#16 (.gp (selCode 8#16)) prot) (fun x t => okWith (pushPlaces .w32 1 [0#32, 0#32] t) fun pl u =>
      okWith (selItem .w32 t.segs.cs.sel u) fun _ v => okWith (markAccessed x.1 x.2 v) fun _ w => w.itemsOk pl) = true ∧
    okWith (peekStack .w32 0 (prot.poke 0x5004 [8#8])) (fun off t => okWith (peekStack .w32 1 t) fun sel u =>
      okWith (checkReturnSel (sel.setWidth 16) off u) fun x v => rpl (sel.setWidth 16) == u.cpl &&
        okWith (markAccessed x.1 x.2 v) fun _ _ => true) = true ∧
    okWith (peekStack .w32 0 (prot.poke 0x5004 (le32 0x1B#32 ++ le32 0x6000#32 ++ le32 0x23#32))) (fun off t =>
      okWith (peekStack .w32 1 t) fun sel u => okWith (checkReturnSel (sel.setWidth 16) off u) fun x v =>
        rpl (sel.setWidth 16) != u.cpl && okWith (memRead .ss 0x5008#32 4 4 v) fun _ w =>
        okWith (memRead .ss 0x500C#32 4 4 w) fun ss a => okWith (checkStackSel (BitVec.ofNat 16 ss) 3#2 (.gp 0#16)
          (.gp (selCode (BitVec.ofNat 16 ss))) (.ss (selCode (BitVec.ofNat 16 ss))) a) fun y b =>
        okWith (markAccessed x.1 x.2 b) fun _ c => okWith (markAccessed y.1 y.2 c) fun _ _ => true) = true := by
  decide +kernel
/-- RealIret, ProtectedIret: frames on the stack, for the same level, an outer level and V86 mode; NT set; what a return checks
of a selector. -/
theorem wit_Iret : (real.realLike && !real.v86 && v86.v86 && v86.flags.iopl == 3#2 &&
    okWith (peekStack .w16 0 (real.reg .esp 0xFFFA#32)) (fun off t => okWith (peekStack .w16 1 t) (fun _ u =>
      okWith (peekStack .w16 2 u) (fun _ w => decide (off ≤ w.segs.cs.limit)))) &&
    okWith (peekStack .w32 0 (real.poke 2 [1#8])) (fun off t => okWith (peekStack .w32 1 t) (fun _ u =>
      okWith (peekStack .w32 2 u) (fun _ w => decide (w.segs.cs.limit < off)))) &&
    !prot.realLike && !prot.flags.nt &&
    okWith (peekStack .w32 0 (prot.poke 0x5004 [8#8])) (fun off t => okWith (peekStack .w32 1 t) (fun sel u =>
      okWith (peekStack .w32 2 u) (fun fl w => !fl.getLsbD 17 &&
        okWith (checkReturnSel (sel.setWidth 16) off w) (fun x y => rpl (sel.setWidth 16) == w.cpl &&
          okWith (markAccessed x.1 x.2 y) (fun _ _ => true)))))) = true ∧
    okWith (peekStack .w32 0 (prot.poke 0x5004 (le32 0x1B#32 ++ le32 0#32 ++ le32 0x6000#32 ++ le32 0x23#32))) (fun off t =>
      okWith (peekStack .w32 1 t) fun sel u => okWith (peekStack .w32 2 u) fun _ z =>
      okWith (checkReturnSel (sel.setWidth 16) off z) fun x v =>
        rpl (sel.setWidth 16) != z.cpl && okWith (memRead .ss 0x500C#32 4 4 v) fun _ w =>
        okWith (memRead .ss 0x5010#32 4 4 w) fun ss a => okWith (checkStackSel (BitVec.ofNat 16 ss) 3#2 (.gp 0#16)
          (.gp (selCode (BitVec.ofNat 16 ss))) (.ss (selCode (BitVec.ofNat 16 ss))) a) fun y b =>
        okWith (markAccessed x.1 x.2 b) fun _ c => okWith (markAccessed y.1 y.2 c) fun _ _ => true) = true ∧
    (let s := prot.poke 0x500A [2#8]
     (!s.realLike && !s.flags.nt && s.cpl == 0#2 && okWith (peekStack .w32 2 s) (fun v _ => v.getLsbD 17) &&
      [0, 1, 2, 3, 4, 5, 6, 7, 8].all fun k => okWith (peekStack .w32 k s) fun _ t => t == s) = true) ∧
    ({ prot with flags := { prot.flags with nt := true } } : State).flags.nt = true ∧
    (okWith (checkReturnSel 8#16 0xFFFFFFFF#32 prot) (fun _ _ => true) &&
      okWith (checkReturnSel 0x38#16 0#32 prot) (fun _ _ => true) &&
      raises (checkReturnSel 0x10#16 0#32 prot) (fun x _ => x == .gp 0x10#16) &&
      raises (checkReturnSel 0x40#16 0#32 prot) (fun x _ => x == .np 0x40#16) &&
      raises (checkReturnSel 0x50#16 1#32 prot) (fun x _ => x == .gp 0#16)) = true := by decide +kernel
/-- RealSoftwareInterrupt, RealExceptionEntry: the last vector whose entry the IDT limit takes in; INTO with OF set; limits that
leave out the vector, and vector 8 too; what is taken. -/
theorem wit_RealInterrupt : real.pe = false ∧ real.pg = false ∧ real.readOk = true ∧
    4 * (255#8 : Byte).toNat + 3 ≤ real.idtr.limit.toNat ∧ (Exc.gp 0#16).vec ≠ 1#8 ∧
    okWith (pushPlaces .w16 1 [0#32, 0#32, 0#32] real) (fun pl t => t.itemsOk pl) = true ∧
    ({ real with flags := { real.flags with ofl := true } } : State).flags.ofl = true ∧
    ((0x22#16 : Word16).toNat < 4 * (13#8 : Byte).toNat + 3 ∧ (0x22#16 : Word16).toNat < 0x23 ∧
      4 * 8 + 3 ≤ (0x23#16 : Word16).toNat) := by decide +kernel
/-- IntoAndBound: OF clear; bounds in memory, an index inside and one outside. -/
theorem wit_IntoAndBound : real.flags.ofl = false ∧
    okWith (memRead .ds 0xFFFC#32 2 2 real) (fun lo t => okWith (memRead .ds 0xFFFE#32 2 2 t) (fun hi u =>
      decide ((BitVec.ofNat 16 lo).toInt ≤ (u.regs.eax.setWidth 16 : Word16).toInt) &&
      decide ((u.regs.eax.setWidth 16 : Word16).toInt ≤ (BitVec.ofNat 16 hi).toInt))) = true ∧
    okWith (memRead .ds 0xFFFC#32 2 2 (real.reg .eax 1#32)) (fun _ t => okWith (memRead .ds 0xFFFE#32 2 2 t) (fun hi u =>
      !decide ((u.regs.eax.setWidth 16 : Word16).toInt ≤ (BitVec.ofNat 16 hi).toInt))) = true := by decide +kernel
/-- LoopForms: a count that reaches 0, one that does not, targets at the limit and past it. -/
theorem wit_LoopForms : asTrunc .a16 ((real.reg .ecx 1#32).regs.ecx - 1#32) = 0#32 ∧
    asTrunc .a16 (real.regs.ecx - 1#32) ≠ 0#32 ∧
    osTrunc .w16 (({ real with eip := 0xFFFD#32 } : State).eip + (2#8 : Byte).signExtend 32) ≤ real.segs.cs.limit ∧
    real.segs.cs.limit < osTrunc .w32 (({ real with eip := 0xFFFE#32 } : State).eip + (2#8 : Byte).signExtend 32) := by
  decide +kernel
/-- InOutPorts: ports at the ends of the I/O space and beside the configuration ports; the permission map: a bit clear, a bit
set, the last byte within the TSS and one past it. -/
theorem wit_InOutPorts : real.ioFree = true ∧ externalPort ((0xFF#8 : Byte).setWidth 16) 1 = true ∧
    externalPort ((0x24#8 : Byte).setWidth 16) 4 = true ∧ externalPort 0xFFFF#16 1 = true ∧ externalPort 0xFFFC#16 4 = true ∧
    externalPort 0x1E#16 4 = true ∧ externalPort 0x1F#16 4 = false ∧
    (user.pe && decide (user.flags.iopl < user.cpl) && !user.pg && user.readOk && okWith (ioPermit 0#16 4 user) (fun _ _ => true) &&
      raises (ioPermit 0x2C#16 1 user) (fun x _ => x == .gp 0#16) && okWith (ioPermit 0x33F#16 1 user) (fun _ _ => true) &&
      raises (ioPermit 0x340#16 1 user) (fun x _ => x == .gp 0#16) &&
      okWith (ioPermit 0x3F8#16 1 real) (fun _ _ => true)) = true := by decide +kernel
/-- ConfigPorts: indexes at the ends of the on-chip range and beside it; an index selected; SMI_LOCK set and clear; accesses
that touch the ports. -/
theorem wit_ConfigPorts : (okWith (ioPermit 0x22#16 1 real) (fun _ _ => true) && real.cfg.onChip 0xC0#8 &&
    real.cfg.onChip 0xCF#8 && real.cfg.onChip 0xFC#8 && !real.cfg.onChip 0xBF#8 && !real.cfg.onChip 0xD0#8 &&
    !real.cfg.onChip 0xFB#8 && ({ real.cfg with ccr3 := 0x10#8 } : CfgRegs).onChip 0#8 && !real.cfg.indexValid &&
    ({ real.cfg with indexValid := true } : CfgRegs).indexValid && okWith (cfgRead 0xCF#8 real) (fun b t => b == 0#8 && t == real) &&
    ({ real.cfg with ccr3 := 1#8 } : CfgRegs).ccr3.getLsbD 0 && !real.inSmm && !real.cfg.ccr3.getLsbD 0) = true ∧
    ((0x21#8 : Byte).toNat ≤ 0x23 ∧ 0x22 < (0x21#8 : Byte).toNat + osBytes .w16) ∧
    ((0x23#8 : Byte).toNat ≤ 0x23 ∧ 0x22 < (0x23#8 : Byte).toNat + osBytes .w16) ∧
    0x22 < (0x1F#8 : Byte).toNat + osBytes .w32 := by decide +kernel
/-- StringItems: the four kinds of item, at the ends of their segments; a port that is not permitted. -/
theorem wit_StringItems : (!real.cur.pfx.rep && okWith (ioPermit 0#16 4 real) (fun _ _ => true) && externalPort 0#16 4 &&
    okWith (segAccess .es 0xFFFC#32 4 .write 4 real) (fun pas t => t.writeOk pas) &&
    okWith (memRead (real.dataSeg .ds) 0xFFFF#32 1 1 real) (fun _ t =>
      okWith (segAccess .es 0#32 1 .write 1 t) (fun pas u => u.writeOk pas)) &&
    !user.cur.pfx.rep && raises (ioPermit 0x2C#16 4 user) (fun _ _ => true)) = true := by decide +kernel
/-- RepStrings: REP with a count of 0, of 1 and more; an item that faults. -/
theorem wit_RepStrings : (let s : State := { real with cur := { real.cur with pfx := { Pfx.empty with rep := true } } }
    s.cur.pfx.rep && asTrunc .a16 s.regs.ecx == 0#32 && asTrunc .a16 (s.reg .ecx 1#32).regs.ecx != 0#32 &&
    okWith (stosItem .a16 1 (s.reg .ecx 1#32)) (fun _ t => asTrunc .a16 (t.regs.ecx - 1#32) == 0#32) &&
    okWith (stosItem .a16 1 (s.reg .ecx 2#32)) (fun _ t => asTrunc .a16 (t.regs.ecx - 1#32) != 0#32) &&
    (match stosItem .a16 2 ((s.reg .ecx 1#32).reg .edi 0xFFFF#32) with | .error (.exc _) _ => true | _ => false)) = true := by
  decide +kernel
/-- WaitAndEsc: available; MP and TS; an error pending with NE set and clear; waiting and non-waiting ESC forms. -/
theorem wit_WaitAndEsc : ((real.mp && real.ts) || real.fpu.es || real.em || real.ts) = false ∧
    (({ real with cr0 := 0x6000001A#32 } : State).mp && ({ real with cr0 := 0x6000001A#32 } : State).ts) = true ∧
    ({ real.fpu with status := 0x80#16 } : Fpu).es = true ∧ real.ne = false ∧
    ({ real with cr0 := 0x60000030#32 } : State).ne = true ∧ escNonWaiting 1#3 5#3 (.reg .mm0) = false ∧
    escNonWaiting 3#3 4#3 (.reg .mm2) = true := by decide +kernel
/-- FpuImages: the image at the end of a segment, written and read; quiet and not. -/
theorem wit_FpuImages : ((!real.em && !real.ts) &&
    okWith (locateMem (.direct16 0xFFA2#16) (envLen .w16 + 80) 1 .write real) (fun pas t =>
      okWith (envBytes real.fpu (real.envForm .w16) t) (fun _ u => u.writeOk pas)) &&
    okWith (locateMem (.direct16 0xFFE4#16) (envLen .w32) 1 .write real) (fun pas t =>
      okWith (envBytes real.fpu (real.envForm .w32) t) (fun _ u => u.writeOk pas)) &&
    okWith (locateMem (.direct16 0xFFA2#16) (envLen .w16 + 80) 1 .read real) (fun _ t => t.readOk) && real.quiet &&
    !({ real with flags := { real.flags with tf := true } } : State).quiet) = true := by decide +kernel
/-- MmxMoves: available, EM, TS; operands in memory. -/
theorem wit_MmxMoves : (!real.em && !real.ts && !real.fpu.es && ({ real with cr0 := 4#32 } : State).em &&
    ({ real with cr0 := 8#32 } : State).ts && !({ real with cr0 := 8#32 } : State).em &&
    okWith (readRM32 (.mem (.direct16 0xFFFC#16)) real) (fun _ _ => true) &&
    okWith (locateN 4 (.mem (.direct16 0xFFFC#16)) .write real) (fun p t => t.placeWritable p) &&
    okWith (locateMem (.direct16 0xFFF8#16) 8 8 .read real) (fun _ t => t.readOk) &&
    okWith (locateMem (.direct16 0xFFF8#16) 8 8 .write real) (fun pas t => t.writeOk pas)) = true := by decide +kernel
/-- TableRegisters: a six-byte operand at the end of a segment. -/
theorem wit_TableRegisters : (!real.unprivileged && okWith (memRead .ds 0xFFFA#32 2 2 real) (fun _ t =>
      okWith (memRead .ds (0xFFFA#32 + 2#32) 4 4 t) (fun _ _ => true)) &&
    okWith (segAccess .ds 0xFFFA#32 2 .write 2 real) (fun p1 t =>
      okWith (segAccess .ds (0xFFFA#32 + 2#32) 4 .write 4 t) (fun p2 u => u.writeOk p1 && u.writeOk p2))) = true := by
  decide +kernel
/-- LdtrAndTr: real mode; in protected mode a null selector, the LDT and the TSS of the table; LDTR marked invalid. -/
theorem wit_LdtrAndTr : (real.realLike && !prot.realLike && !prot.unprivileged &&
    okWith (locateMem (.direct16 0xFFFE#16) 2 2 .write prot) (fun pas t => t.writeOk pas) &&
    okWith (readRM16 (.reg .eax) prot) (fun sel _ => nullSel sel) &&
    okWith (readRM16 (.reg .eax) (prot.reg .eax 0x30#32)) (fun sel t => !nullSel sel && !sel.getLsbD 2 &&
      okWith (readDesc sel (.gp (selCode sel)) t) (fun x _ => !(descAttr x.2).dt && (descAttr x.2).p &&
        (descAttr x.2).typ == 2#4)) &&
    okWith (readRM16 (.reg .eax) (prot.reg .eax 0x28#32)) (fun sel t => !nullSel sel && !sel.getLsbD 2 &&
      okWith (readDesc sel (.gp (selCode sel)) t) (fun x u => !(descAttr x.2).dt && (descAttr x.2).p &&
        (descAttr x.2).typ == 9#4 &&
        okWith (linWrite (x.1 + 5#32) 1 ((x.2 ||| (1#64 <<< 41)).extractLsb' 40 8).toNat u) (fun _ _ => true))) &&
    ({ prot with ldtrInvalid := true } : State).ldtrInvalid && (4#16).getLsbD 2) = true := by
  decide +kernel
/-- ControlRegisters: values of CR0 and CR4 on each side of each condition. -/
theorem wit_ControlRegisters : real.unprivileged = false ∧ 0x18C#32 &&& ~~~0x18C#32 = 0#32 ∧
    0x200#32 &&& ~~~0x18C#32 ≠ 0#32 ∧
    (0xE005003F#32 &&& ~~~0xE005003F#32 = 0#32 ∧ (0xE005003F#32).getLsbD 4 = true ∧ (0xE005003F#32).getLsbD 0 = true) ∧
    ((0x80000010#32).getLsbD 31 = true ∧ (0x80000010#32).getLsbD 0 = false) ∧ (0#32).getLsbD 4 = false ∧
    real.cfg.ccr2.getLsbD 2 = false := by decide +kernel
/-- DebugAndTestRegisters: GD clear and set; what the clauses on TR5 ask of the cache: a line that is no synonym, one that is, all
other sets locked, a line listed; those on TR6: entries listed, one set that hits. -/
theorem wit_DebugAndTestRegisters : (!real.unprivileged && !real.dr.dr7.getLsbD 13 && (0x2400#32).getLsbD 13 &&
    okWith (lineOf 40 real) (fun l t => l.data.length == 8 && t.freeCtr == 8) &&
    okWith (cacheTest { real with test := { real.test with tr5 := 0x000A0001#32 } }) (fun _ t => t.cache.lines.length == 1) &&
    (let c : Cache := { real.cache with lines := [line 9#4] }
     !c.synonym 40 (line 9#4).2 && c.synonym 552 (line 9#4).2 && c.otherLocked 552 == 0 &&
     (c.lines.find? fun e => e.1 == 40) == some (line 9#4)) &&
    ({ real.cache with lines := [(40, (line 0xC#4).2), (552, (line 7#4).2), (1064, (line 7#4).2)] } : Cache).otherLocked 1576 == 3 &&
    (let e := entry 0x41#20
     let t : Tlb := { real.tlb with l1 := [(1, e)], l2 := [(6, e)] }
     (t.l1.find? fun x => x.1 == 1) == some (1, e) && (t.l2.find? fun x => x.1 == 6 * 1 + 0) == some (6, e) &&
     [0, 1, 2, 3, 4, 5].all (fun k => (t.l2.any fun x => x.1 == 6 * 1 + k && x.2.v && x.2.lin == 0x41#20) == (k == 0)))) =
    true := by decide +kernel
/-- CountersAndMsrs: each index and the gaps between them; both privileges. -/
theorem wit_CountersAndMsrs : user.unprivileged = true ∧ real.unprivileged = false ∧ real.cr4.getLsbD 2 = false ∧
    (0x104#32).getLsbD 2 = true ∧ (0x104#32).getLsbD 8 = true ∧ real.cr4.getLsbD 8 = false ∧ 1#32 < 2#32 ∧
    (2#32 < 3#32 ∧ 5#32 < 6#32 ∧ 0xF#32 < 0x10#32 ∧ 0x13#32 < 0x14#32) ∧
    okWith (cacheTest { real with test := { real.test with tr5 := 3#32 } }) (fun _ _ => true) = true := by decide +kernel
/-- SystemForms: level 0; a cache without modified lines and one with; IF changed at IOPL; CPUID enabled and not. -/
theorem wit_SystemForms : (!real.unprivileged && !real.cache.dirty &&
    real.cache.lines.all (fun e => e.2.mesi0 != 8#4 && e.2.mesi1 != 8#4) && (line 8#4).2.mesi0 == 8#4 &&
    !real.pe && prot.pe && !prot.flags.vm && decide (prot.cpl ≤ prot.flags.iopl) && real.cfg.ccr4.getLsbD 7 &&
    !(0#8 : Byte).getLsbD 7) = true := by decide +kernel
/-- PrivilegeTraps: level 3 above IOPL; V86 mode with IOPL 0. -/
theorem wit_PrivilegeTraps : (user.unprivileged && !user.realLike && user.pe && !user.flags.vm &&
    decide (user.flags.iopl < user.cpl) && ({ user with flags := { user.flags with vm := true } } : State).v86 &&
    user.flags.iopl != 3#2) = true := by decide +kernel
/-- SmmSaveForms: allowed and not; operands at the end of a segment; SMINT with a writable header, RSM with a good one; a layout of
the operand; descriptors at the limit of an installed LDT and beyond it. -/
theorem wit_SmmSaveForms : (smmOn.smmInsnAllowed && !real.smmInsnAllowed &&
    okWith (locateMem (.direct16 0xFFF6#16) 10 1 .write smmOn) (fun pas t => t.writeOk pas) &&
    okWith (locateMem (.direct16 0xFFF6#16) 10 1 .read smmOn) (fun _ t => t.readOk) &&
    okWith (locateN 4 (.mem (.direct16 0xFFFC#16)) .write smmOn) (fun p t => t.placeWritable p) &&
    okWith (readRM32 (.reg .eax) smmOn) (fun _ _ => true) && smmOn.smintAllowed && !smmOn.inSmm &&
    ({ smmOn with inSmm := true } : State).writeOk (plain (paRange ((smmOn.entrySmhr &&& 0xFFFFFFFC#32) - 0x30#32) 48)) &&
    smmHeader.smmInsnAllowed && smmHeader.inSmm && smmHeader.readOk &&
    (Header.ofRows true ((List.range 12).map fun k => BitVec.ofNat 32 (leNat (smmHeader.bytesAt
      (paRange ((smmHeader.smhr &&& 0xFFFFFFFC#32) - 0x30#32 + BitVec.ofNat 32 (4 * k)) 4))))).ok) = true ∧
    [9, 8, 7, 6, 5, 4, 3, 2, 1, 0].Perm (List.range 10) ∧
    (let t : State := { prot with ldtr := { Seg.resetSystem with base := 0x1000#32, limit := 0xF#32 }, ldtrInvalid := false }
     (0xC#16).getLsbD 2 ∧ (0xC#16).toNat / 8 * 8 + 7 = t.ldtr.limit.toNat ∧
     okWith (linRead (t.ldtr.base + 8#32) 8 t) (fun _ _ => true) ∧
     (0x14#16).getLsbD 2 ∧ t.ldtr.limit.toNat < (0x14#16).toNat / 8 * 8 + 7) := by decide +kernel
/-- SmmEntryExit: SMINT allowed with a writable header that is kept; not allowed; inside a routine; from the pin; a header to
return from, a bad one. -/
theorem wit_SmmEntryExit : (smmOn.memoryOk && smmOn.cacheOk && smmOn.smintAllowed && !smmOn.inSmm && smmOn.readOk &&
    (let s : State := { smmOn with smhr := smmOn.entrySmhr, inSmm := true }
     let rows := paRange ((smmOn.entrySmhr &&& 0xFFFFFFFC#32) - 0x30#32) 48
     s.writeOk (plain rows) && rows.all s.keepsWrite) && !real.smintAllowed &&
    okWith (enterSmm true smmOn.cur.ip smmOn.eip none smmOn) (fun _ _ => true) &&
    okWith (enterSmm false 0#32 smmOn.eip none { smmOn with lastIp := some 0#32 }) (fun _ _ => true) &&
    smmHeader.smintAllowed && smmHeader.inSmm && !(smmHeader.smmMode && smmHeader.nestEnabled) &&
    smmOn.smmInsnAllowed && okWith (readRows ((smmHeader.smhr &&& 0xFFFFFFFC#32) - 0x30#32) 12 smmHeader) (fun rows u =>
       u == smmHeader && (Header.ofRows true rows).ok) &&
    (let s := smmHeader.pokeSmm 0xA7FE5 [0#8]
     okWith (readRows ((s.smhr &&& 0xFFFFFFFC#32) - 0x30#32) 12 s) (fun rows u => u == s && !(Header.ofRows true rows).ok))) =
    true := by decide +kernel
/-- ProtectedInterrupt: the gate of vector 80h, at the same level, from level 3 and from V86 mode; a 16-bit gate. -/
theorem wit_ProtectedInterrupt :
    (let s := prot.poke 0x3405 [0xE6#8]
     s.pe && !s.flags.vm && okWith (linRead (s.idtr.base + BitVec.ofNat 32 (8 * 0x80)) 8 s) (fun g t =>
       (BitVec.ofNat 64 g).extractLsb' 40 5 == 0x6#5 && (BitVec.ofNat 64 g).getLsbD 47 &&
       decide (s.cpl ≤ (BitVec.ofNat 64 g).extractLsb' 45 2) && (BitVec.ofNat 64 g).extractLsb' 16 16 == 8#16 &&
       okWith (readDesc 8#16 (.gp (selCode 8#16)) t) (fun x u => (descAttr x.2).code && (descAttr x.2).p &&
         decide (0x80#32 ≤ descLimit x.2) && (descAttr x.2).dpl == s.cpl && stackRoom u.segs.ss .w16 u.stackPtr 4 &&
         okWith (pushPlaces .w16 1 (blanks 4) u) (fun pl v =>
           okWith (markAccessed x.1 x.2 v) (fun _ w => w.itemsOk pl))))) = true ∧
    (let inner := fun (s : State) (items : Nat) =>
       s.pe && okWith (linRead (s.idtr.base + BitVec.ofNat 32 (8 * 0x80)) 8 s) (fun g t =>
         decide (s.cpl ≤ (BitVec.ofNat 64 g).extractLsb' 45 2) && (BitVec.ofNat 64 g).extractLsb' 40 5 == 0xE#5 &&
         okWith (readDesc 8#16 (.gp (selCode 8#16)) t) (fun x u => !(descAttr x.2).conforming &&
           (descAttr x.2).dpl == 0#2 && decide ((descAttr x.2).dpl < s.cpl) &&
           okWith (tssStack (descAttr x.2).dpl 0#16 u) (fun n v =>
             okWith (checkStackSel n.1 (descAttr x.2).dpl (.ts 0#16) (.ts (selCode n.1)) (.ss (selCode n.1)) v) (fun y w =>
               stackRoom (Seg.ofDesc n.1 y.2) .w32 (wrapSp (Seg.ofDesc n.1 y.2) n.2) items &&
               okWith (innerPlaces (Seg.ofDesc n.1 y.2) .w32 (wrapSp (Seg.ofDesc n.1 y.2) n.2) 1 (blanks items) w) (fun pl a =>
                 okWith (markAccessed y.1 y.2 a) (fun _ b =>
                   okWith (markAccessed x.1 x.2 b) (fun _ c => c.itemsOk pl)))))))
     inner user 5 && inner v86 9 && okWith (protDeliver .software 0x80#8 v86.eip none false v86) (fun _ t => !t.flags.vm)) =
    true := by decide +kernel
/-- BoundaryEvents: an idle boundary; each of the events due; a breakpoint at the next instruction, a data access and an I/O
access that meet theirs. -/
theorem wit_BoundaryEvents : (real.env == [] && real.starting && !real.suspended && real.debugDue == none &&
    Pins.idle.bus == [] && !real.smiRecognised Pins.idle && !real.nmiReady && !real.halted && !real.shutdown &&
    ({ real with cfg := { smmOn.cfg with ccr1 := 0x82#8 }, smiPending := true } : State).smiRecognised Pins.idle &&
    ({ real with nmiPending := true } : State).nmiReady && ({ real with halted := true } : State).halted &&
    nextWith (takeNmi 0#32 (({ real with nmiPending := true } : State).reg .esp 0x100#32)) (fun _ => true) &&
    (let s : State := { real with nmiPending := true, shutdown := true }
     s.nmiReady && s.nmiVector && s.nmiRoom && !({ s with idtr := { s.idtr with limit := 0xA#16 } } : State).nmiVector) &&
    ({ smmOn with inSmm := true } : State).inSmm && !({ smmOn with inSmm := true } : State).nestEnabled &&
    !real.flags.ifl && real.ifl.flags.ifl && real.shadow == .none &&
    (let s : State := { real with cfg := { real.cfg with ccr2 := 0x80#8 } }
     s.suspPin { Pins.idle with susp := true } && !s.midString) &&
    nextWith (runInstruction (real.poke 0x100 [0xA2#8, 0#8, 9#8])) (fun _ => true) &&
    (let s : State := { real with dr := { real.dr with dr0 := 0x100#32, dr1 := 0x801#32, dr7 := 0xD00408#32 } }
     s.debugDue == none && s.execHits 0x100#32 == 1#4 && s.dataHits 0x7FF#32 2 .write == 2#4 &&
     s.dataHits 0x800#32 1 .read == 0#4 && s.dataHits 0x804#32 2 .write == 0#4 &&
     ({ s with dr := { s.dr with dr7 := 1#32 } } : State).debugDue == some (1#4, false, true) &&
     ({ s with trap := some { hits := 2#4, bs := true } } : State).debugDue == some (2#4, true, false)) &&
    ({ real with cr4 := 8#32, dr := { real.dr with dr0 := 0xFFFF#32, dr7 := 0x20001#32 } } : State).ioHits 0xFFFC#16 4 == 1#4) =
    true := by decide +kernel
/-- PageTranslation: paging on with no entry cached; present and not, allowed and not. -/
theorem wit_PageTranslation : (!real.pg && paged.pg && paged.tlbMatches 0x401234#32 .write true == [] && paged.readOk &&
    paged.mem.read 0x1004 % 2 == 1#8 && paged.mem.read 0x2004 % 8 == 7#8 && paged.mem.read 0x1008 == 0#8 &&
    paged.mem.read 0x2008 == 0#8 && (paged.poke 0x2004 [5#8]).mem.read 0x2004 == 5#8) = true := by decide +kernel
/-- OperandFrame, StoreFrame: an access across the end of a page, one with paging on; distinct addresses in canonical memory; RAM,
ROM; a byte that another agent may write. -/
theorem wit_Frames : (okWith (segAccess .ds 0xFFF#32 2 .write 2 real) (fun pas t => pas.length == 2 && !t.pg) &&
    okWith (segAccess .ds 0x234#32 2 .write 2 paged) (fun pas t => pas.length == 2 && t.pg) &&
    (paged.segMarks .ds 0x234#32 2 .write).length == 8 &&
    okWith (locateN 8 (.mem (.direct16 0xFFF8#16)) .read real) (fun _ _ => true) &&
    okWith (pushPlaces .w32 1 (blanks 9) real) (fun pl _ => pl.length == 9) &&
    okWith (peekStack .w32 8 real) (fun _ _ => true) && real.memoryOk && real.cacheOk && real.keepsWrite 0#32 &&
    (let s : State := { real with part := { real.part with rom := [{ base := 0xFFFF0000, size := 0x10000 }] } }
     !s.keepsWrite 0xFFFFFFFF#32 && s.keepsWrite 0xFFFEFFFF#32) &&
    real.part.ram 0#32 && !real.smmSelected 0#32 && (real.lineAt 0#32).isNone && decide [0xFFFFFFFF#32, 0#32].Nodup) = true := by
  decide +kernel
/-- StepKeepsMemory, StepKeepsModes, ResetOk: states after a step. -/
theorem wit_StepKeeps : (real.memoryOk && real.cacheOk && real.modeOk && real.controlOk && prot.modeOk && prot.controlOk &&
    user.modeOk && user.controlOk && v86.modeOk && after real [0x90#8] (fun _ => true) && after user [0x90#8] (fun _ => true)) =
    true := by decide +kernel
/-- UserCannotChange: level 3 runs an instruction, and one that traps. -/
theorem wit_UserCannotChange : (user.pe && user.cpl != 0#2 && user.part.smintCpl0 && nextWith (exec .nop user) (fun _ => true) &&
    nextWith (exec .hlt user) (fun _ => true)) = true := by decide +kernel
/-- StepFaultNeedsAlignment: a level 3 handler of vector 17 with a misaligned stack. -/
theorem wit_StepFaultNeedsAlignment :
    (let s : State := ((user.reg .ebx 0x801#32).reg .esp 0x6001#32).poke 0x3088 [0x10#8, 1#8, 0x1B#8, 0#8, 0#8, 0x8E#8]
     match step (({ s with cr0 := 0x60040011#32, flags := { s.flags with ac := true } } : State).poke 0x100 [0xF7#8, 0x27#8]) with
     | .fault .deliveryLoop => true
     | _ => false) = true := by decide +kernel
/-- StepRunsInstruction: the bytes of an instruction at CS:EIP, and a decoder that needs each of them; prefixes; lengths of 15 and
16 bytes; LOCK and REP allowed and not; IP at the end of 64 KByte; a prefix that ends at the
last byte of 4 GByte and one before it; operands that are rejected late. -/
theorem wit_StepRunsInstruction :
    (let bs := [0xB8#8, 0x34#8, 0x12#8]
     let s := real.poke 0x100 bs
     !s.pe && !s.pg && s.readOk && s.stale == [] && !s.segs.cs.attr.expandDown &&
     (match decode s.ctx bs with | .ok i [] => i == .movRIv .eax (.i16 0x1234#16) | _ => false) &&
     [0, 1, 2].all (fun k => match decode s.ctx (bs.take k) with | .more => true | _ => false) &&
     decide (bs.length ≤ 16) && decide (s.eip.toNat + bs.length ≤ s.segs.cs.limit.toNat + 1) &&
     decide (s.eip.toNat + bs.length ≤ 65536) &&
     s.bytesAt (paRange (s.segs.cs.base + s.eip) bs.length) == bs && okWith (fetchInstr s) (fun f t =>
       f.len == 3 && !isPrefix f.instr && !t.cur.pfx.lock && !t.cur.pfx.rep && !t.branchDue) &&
     okWith (fetchInstr (real.poke 0x100 [0xF3#8])) (fun f t => isPrefix f.instr && nextWith (exec f.instr (t.advance f.len))
       (fun u => u.cur.pfx.rep && repeatable (.stosb .a16) && !repeatable .nop)) &&
     [(0xFFFFFFFE#32, 0xFFFFFFFF), (0xFFFFFFFF#32, 0x100000000)].all (fun x =>
       okWith (fetchInstr (topCode x.1)) (fun f t => isPrefix f.instr && t.eip.toNat + f.len == x.2 &&
         nextWith (exec f.instr (t.advance f.len)) fun _ => true)) &&
     lockable (.incEb (.mem (.direct16 0#16))) && !lockable (.incEb (.reg .al)) && !lockable .nop &&
     jumpOrCall (.jmpRel8 .w16 0#8) && !jumpOrCall .nop &&
     (match decode real.ctx [0x8E#8, 0xC8#8] with | .late .invalidOperand [] => true | _ => false) &&
     (match decode real.ctx [0x0F#8, 0x7A#8, 0x0E#8, 0#8, 0x20#8] with | .late .reservedRegField [] => true | _ => false) &&
     smmOn.smmInsnAllowed && !real.smmInsnAllowed && !real.branchDue &&
     decide (15 < 13 + 3) && !decide (15 < 12 + 3)) = true ∧
    (({ real with eip := 0xFFFF#32 } : State).eip + BitVec.ofNat 32 1 ≤ smmOn.smmCs.limit ∧
      real.segs.cs.limit < ({ real with eip := 0xFFFF#32 } : State).eip + BitVec.ofNat 32 1) := by decide +kernel
/-- DecodeEncode: a well-formed instruction in a context that fits it. -/
theorem wit_DecodeEncode : (Instr.addEvGv .w16 (.mem (.m16 .bp (.d8 0#8))) .esp).wf = true ∧
    ctx16.fits (.addEvGv .w16 (.mem (.m16 .bp (.d8 0#8))) .esp) = true ∧ c32.fits (.fsave .w32 (.direct32 0#32)) = true := by
  decide
/-- ShiftByCl: counts of 32 and 31. -/
theorem wit_ShiftByCl : ((real.reg .ecx 32#32).regs.get8 .cl).toNat % 32 = 0 ∧
    ((real.reg .ecx 31#32).regs.get8 .cl).toNat % 32 ≠ 0 := by decide
/-- RealExceptionEntry, ProtectedInterrupt: a fault, an INTR and a debug exception are taken. -/
theorem wit_taken : taken (deliverFault (.gp 0#16) real) real .exception 13#8 real.cur.ip (some 0#16) true ∧
    taken (takeIntr 0x20#8 prot) { prot with halted := false, suspended := false } .external 0x20#8 prot.eip none false ∧
    taken (debugException 1#4 false true prot.eip prot)
      { prot with dr := { prot.dr with dr6 := prot.dr.dr6 ||| (1#4).setWidth 32 ||| 0#32, dr7 := prot.dr.dr7 &&& 0xFFFFDFFF#32 } }
      .exception 1#8 prot.eip none true :=
  ⟨.inl ⟨.gp 0#16, by decide, rfl, rfl, rfl, rfl, rfl, rfl⟩, .inr (.inl ⟨prot, rfl, rfl, rfl, rfl, rfl, rfl⟩),
    .inr (.inr (.inr ⟨prot, 1#4, false, rfl, rfl, rfl, rfl, rfl⟩))⟩
/-- ProtectedInterrupt: gates past the IDT limit, of a bad type, too privileged, not present, a task gate; an exception in the
delivery of another; in that of #DF. -/
theorem wit_ProtectedInterrupt_faults :
    (let raisesGp := fun (s : State) (v : Byte) (c : Word16) => raises (protDeliver .software v 0#32 none false s) fun x _ => x == .gp c
     raisesGp { prot with idtr := { prot.idtr with limit := 0x406#16 } } 0x80#8 0x402#16 && raisesGp prot 0x81#8 0x40A#16 &&
     raisesGp user 13#8 0x6A#16 &&
     raises (protDeliver .software 0x80#8 0#32 none false (prot.poke 0x3405 [0x6E#8])) (fun x _ => x == .np 0x402#16) &&
     (match protDeliver .software 0x80#8 0#32 none false (prot.poke 0x3405 [0xE5#8]) with
       | .error (.refuse .taskGate) _ => true | _ => false) &&
     raises (protDeliver .exception 0#8 0#32 none true prot) (fun x _ => x == .gp 3#16) &&
     raises (protDeliver .exception 8#8 0#32 (some 0#16) true prot) (fun x _ => x == .gp 0x43#16) &&
     okWith (protDeliver .exception 8#8 0#32 (some 0#16) true (prot.poke 0x3040 (gate 0xE0#8 0x8E#8))) (fun _ t => t.eip == 0xE0#32)) =
    true := by decide +kernel
/-- ExchangeForms, CompareExchange: where other agents act, a byte with LOCK# and without. -/
theorem wit_bus_between :
    let s : State := { real with bus := [[.write 0x800#32 7#8], [.read 0x800#32]] }
    okWith (locateMem (.direct16 0x800#16) 1 1 .write s) (fun pas t => pas.all (fun p => !p.lock) && pas.length == 1 &&
      t.bus.length == 2 && t.storeOk pas) = true ∧
    okWith (locateMem (.direct16 0x800#16) 1 1 .write { s with cur := { s.cur with pfx := { Pfx.empty with lock := true } } })
      (fun pas t => pas.all (fun p => p.lock) && t.storeOk pas) = true ∧
    s.cfg.ccr1.getLsbD 4 = false ∧ s.cfg.effWl 0x800#32 = false := by decide +kernel
/-- StoreFrame: two bytes, aligned and not, in a state in which other agents act; a byte that they read. -/
theorem wit_bus_bytes :
    let s : State := { real with bus := [[.write 0x800#32 7#8], [.read 0x800#32], []] }
    let p : PA := { addr := 0x800#32, nc := false, wt := false, lock := false }
    s.storeOk [p, { p with addr := 0x801#32 }] = true ∧ s.storeOk [{ p with addr := 0x801#32 }, { p with addr := 0x802#32 }] = true ∧
    p.addr.toNat % 2 = 0 ∧ (0x801#32).toNat % 2 = 1 ∧ s.memoryOk = true ∧
    ({ s with cache := { s.cache with lines := [line 8#4] } } : State).cacheOk = true := by decide +kernel
/-- DebugAndTestRegisters, CTL = 00 and 10: a modified sector of main memory and one of SMM memory, bytes at their ends and beside
them; a line that no command has written. -/
theorem wit_cache_flush :
    let c : Cache := { lines := [line 8#4, (552, { (line 8#4).2 with smi := true })], used := true, dirty := true }
    let s : State := { real with cache := c }
    let holds := fun (e : Nat × CacheLine) (a : Word) => e.2.tag == a.extractLsb' 14 18 &&
      e.1 % 512 == (a.extractLsb' 5 9).toNat && e.2.mesi a == 8#4
    s.unprivileged = false ∧ s.memoryOk = true ∧ s.cacheOk = true ∧ s.part.ram 0x500#32 = true ∧
    c.lines.all (fun e => holds e 0x500#32 && holds e 0x51F#32 && !holds e 0x4FF#32 && !holds e 0x520#32) = true ∧
    c.lines.all (fun e => e.1 != 41) = true ∧ (0xF0#32).extractLsb' 0 2 = 0#2 ∧ (2#32).extractLsb' 0 2 = 2#2 := by
  decide +kernel
/-- ControlRegisters: LOCK_NW set and clear, NW in CR0 and not in the value. -/
theorem wit_lock_nw : (4#8).getLsbD 2 = true ∧ real.cfg.ccr2.getLsbD 2 = false ∧ real.cr0.getLsbD 29 = true ∧
    0x40000010#32 &&& ~~~0xE005003F#32 = 0#32 ∧ (0x40000010#32).getLsbD 4 = true := by decide
/-- LdtrAndTr: the GDT's last descriptor and the one past it, TI, null, descriptors of an LDT and of a TSS, present and not. -/
theorem wit_LdtrAndTr_faults :
    let read := fun (s : State) (sel : Word16) (p : Attr → Bool) =>
      okWith (readRM16 (.reg .eax) (s.reg .eax (sel.setWidth 32))) (fun x t => x == sel && !t.realLike && !t.unprivileged &&
        okWith (readDesc sel (.gp (selCode sel)) t) (fun y _ => p (descAttr y.2)))
    prot.gdtr.limit.toNat = 0x60 + 7 ∧ prot.gdtr.limit.toNat < (0x68#16).toNat / 8 * 8 + 7 ∧ (0x34#16).getLsbD 2 = true ∧
    nullSel 3#16 = true ∧ nullSel 0x34#16 = false ∧
    read prot 0x30#16 (fun t => !t.dt && t.typ == 2#4 && t.p) = true ∧
    read prot 0x28#16 (fun t => !t.dt && t.typ == 9#4 && t.p) = true ∧ read prot 0x60#16 (fun t => !t.dt && t.typ == 5#4) = true ∧
    read prot 8#16 (fun t => t.dt) = true ∧
    read (prot.poke 0x1035 [2#8]) 0x30#16 (fun t => !t.dt && t.typ == 2#4 && !t.p) = true ∧
    read (prot.poke 0x102D [9#8]) 0x28#16 (fun t => !t.dt && t.typ == 9#4 && !t.p) = true := by decide +kernel
/-- FpuImages: the four forms. -/
theorem wit_FpuImages_forms : real.envForm .w16 = .real16 ∧ real.envForm .w32 = .real32 ∧ prot.envForm .w16 = .prot16 ∧
    prot.envForm .w32 = .prot32 ∧ okWith (envBytes real.fpu (real.envForm .w16) real) (fun env _ => env.length == 14) = true := by
  decide +kernel
/-- StringItems at the configuration ports: permitted, the destination writable, the source readable; both ports, an index
selected and not, on the chip and not; the widest items that touch them at the ends, and beside them. -/
theorem wit_StringItems_config :
    let at' := fun x : Word => real.reg .edx x
    okWith (ioPermit 0x22#16 1 (at' 0x22#32)) (fun _ t => okWith (segAccess .es (asTrunc .a16 t.regs.edi) 1 .write 1 t)
      (fun pas u => u.writeOk pas && !u.cfg.indexValid && u.cfg.onChip 0xC0#8 && !u.cfg.onChip 0xBF#8)) = true ∧
    okWith (ioPermit 0x23#16 1 (at' 0x23#32)) (fun _ t => okWith (memRead (t.dataSeg .ds) (asTrunc .a16 t.regs.esi) 1 1 t)
      (fun v u => v == 0 && okWith (cfgRead 0xC0#8 u) (fun _ _ => true))) = true ∧
    ({ real with cfg := { real.cfg with indexValid := true } } : State).cfg.indexValid = true ∧
    (0x1F#16).toNat ≤ 0x23 ∧ 0x22 < (0x1F#16).toNat + osBytes .w32 ∧ ¬ 0x22 < (0x1E#16).toNat + osBytes .w32 ∧
    okWith (segAccess .es 0#32 4 .write 4 real) (fun _ _ => true) = true ∧
    okWith (memRead .ds 0#32 4 4 real) (fun _ _ => true) = true := by decide +kernel
/-- PageTranslation: an entry of the TLB that matches, and one that does not for a write. -/
theorem wit_tlb_match :
    let s : State := { paged with tlb := { paged.tlb with l1 := [(1, entry 0x401#20)] } }
    s.pg = true ∧ s.tlbMatches 0x401234#32 .read true = [entry 0x401#20] ∧ s.tlbMatches 0x401234#32 .write true = [] := by
  decide +kernel
/-- ProtectedFarJump, ProtectedIret: a code segment and a stack segment that the checks of a return refuse: null, an inner level,
beyond the table, not code. -/
theorem wit_return_faults :
    let s : State := prot.poke 0x5000 [0x10#8, 0#8, 0x1B#8, 0#8, 2#8, 0#8]
    okWith (peekStack .w16 0 s) (fun off t => off == 0x10#32 && okWith (peekStack .w16 1 t) (fun sel u => sel == 0x1B#32 &&
      okWith (peekStack .w16 2 u) (fun _ w => !w.flags.nt && !w.realLike && okWith (checkReturnSel 0x1B#16 0x10#32 w) (fun _ x =>
        okWith (memRead .ss 0x5004#32 2 2 x) (fun _ y =>
          raises (checkStackSel 0x13#16 3#2 (.gp 0#16) (.gp 0x10#16) (.ss 0x10#16) y) (fun _ _ => true)))))) = true ∧
    raises (checkReturnSel 0#16 0x10#32 s) (fun x _ => x == .gp 0#16) = true ∧
    raises (checkReturnSel 0x18#16 0x10#32 user) (fun x _ => x == .gp 0x18#16) = true ∧
    raises (checkReturnSel 0x68#16 0x10#32 s) (fun x _ => x == .gp 0x68#16) = true ∧
    raises (checkReturnSel 0x10#16 0x10#32 s) (fun x _ => x == .gp 0x10#16) = true ∧
    raises (readDesc 0x68#16 (.gp 0x68#16) s) (fun x _ => x == .gp 0x68#16) = true := by decide +kernel
/-- DebugAndTestRegisters: L2 commands, with SET 5, the last one, and with 6 and 7; sets that all hold an entry, of which set 0
alone is for the page. -/
theorem wit_tlb_set :
    [5, 6, 7].all (fun k : Nat => (((BitVec.ofNat 32 k : Word) <<< 7).extractLsb' 7 3).toNat == k) = true ∧
    (0x41801#32).extractLsb' 0 3 = 1#3 ∧ (0x41803#32).extractLsb' 0 3 = 3#3 ∧ (0x41807#32).extractLsb' 0 3 = 7#3 ∧
    (let l := (6, entry 0x41#20) :: [7, 8, 9, 10, 11].map fun k => (k, entry 0x81#20)
     [0, 1, 2, 3, 4, 5].all fun k => (l.find? fun e => e.1 == 6 * 1 + k).isSome &&
       (l.any fun x => x.1 == 6 * 1 + k && x.2.v && x.2.lin == 0x41#20) == (k == 0)) = true ∧
    nextWith (exec (.movTrR 6#3 .eax) ({ real with test := { real.test with tr7 := 0x300#32 } }.reg .eax 0x41801#32))
      (fun t => t.tlb.l2.length == 1) = true := by decide +kernel

end Tests
end Sys2Proof.Machine
end

section
/-! SUPPORT. What the mode of R525 and the reserved bits rest on, and actions that leave it as it is: the rules to compose them,
then one lemma per shared operation, in the order of the model. -/
namespace Sys2Proof.Machine
open Sys2Proof

/-- What legality of the mode (R34, R525, R532), of the reserved bits (R36, R37, R41, R226) and the parameters (R8) rest on. -/
structure ModeView where
  cr0 : Word
  cr4 : Word
  cpl : BitVec 2
  vm : Bool
  tr6 : Word
  part : Part

/-- The mode view of a state. -/
def State.modeView (s : State) : ModeView := ⟨s.cr0, s.cr4, s.cpl, s.flags.vm, s.test.tr6, s.part⟩
/-- The two states have one mode view. -/
def SameMode (s t : State) : Prop := t.modeView = s.modeView

theorem SameMode.refl (s : State) : SameMode s s := rfl

/-- Action `a` leaves the mode view as it is, whether it answers or stops. -/
structure Act.KeepsMode {α : Type} (a : Act α) : Prop where
  keeps : a.Keeps SameMode

section
variable {α β : Type}

/-- What the view of the state after an answer is. -/
theorem Act.KeepsMode.view {a : Act α} (h : a.KeepsMode) {s t : State} {x : α} (e : a s = .ok x t) :
    t.modeView = s.modeView := h.keeps.ok e
@[simp] theorem Act.KeepsMode.pure (x : α) : (Pure.pure x : Act α).KeepsMode := ⟨keeps_pure SameMode.refl x⟩
@[simp] theorem Act.KeepsMode.raise (e : Exc) : (Machine.raise e : Act α).KeepsMode := ⟨keeps_raise SameMode.refl e⟩
@[simp] theorem Act.KeepsMode.refuse (r : Refusal) : (Machine.refuse r : Act α).KeepsMode := ⟨keeps_refuse SameMode.refl r⟩
theorem Act.KeepsMode.upd {f : State → State} (h : ∀ s, (f s).modeView = s.modeView) : (Machine.upd f).KeepsMode :=
  ⟨keeps_upd h⟩
theorem Act.KeepsMode.bind {a : Act α} {f : α → Act β} (ha : a.KeepsMode) (hf : ∀ x, (f x).KeepsMode) :
    (a >>= f).KeepsMode :=
  ⟨keeps_bind (fun h1 h2 => h2.trans h1) ha.keeps fun x => (hf x).keeps⟩
/-- After the state is read. -/
theorem Act.KeepsMode.get {f : State → Act β} (hf : ∀ s, (f s).KeepsMode) : ((MonadState.get : Act State) >>= f).KeepsMode :=
  .bind ⟨keeps_get SameMode.refl⟩ hf
theorem Act.KeepsMode.ite {c : Prop} [Decidable c] {a b : Act α} (ha : a.KeepsMode) (hb : b.KeepsMode) :
    (if c then a else b).KeepsMode := ⟨keeps_ite ha.keeps hb.keeps⟩
/-- A check that raises an exception where it fails. -/
theorem Act.KeepsMode.check {c : Prop} [Decidable c] {e : Exc} {f : α → Act β} {b : Act β} (hb : b.KeepsMode) :
    (if c then Machine.raise e >>= f else b).KeepsMode := by
  split
  · exact ⟨fun _ => rfl⟩
  · exact hb
/-- A check that refuses where it fails. -/
theorem Act.KeepsMode.checkRefuse {c : Prop} [Decidable c] {r : Refusal} {f : α → Act β} {b : Act β} (hb : b.KeepsMode) :
    (if c then Machine.refuse r >>= f else b).KeepsMode := by
  split
  · exact ⟨fun _ => rfl⟩
  · exact hb
end

/-! Free values and registers. -/

@[simp] theorem drawBit_keepsMode : drawBit.KeepsMode := ⟨fun _ => rfl⟩
@[simp] theorem drawWord_keepsMode : drawWord.KeepsMode := ⟨fun _ => rfl⟩
@[simp] theorem drawWord16_keepsMode : drawWord16.KeepsMode := .bind drawWord_keepsMode fun _ => .pure _
@[simp] theorem drawByte_keepsMode : drawByte.KeepsMode := .bind drawWord_keepsMode fun _ => .pure _
@[simp] theorem drawChoice_keepsMode (n : Nat) : (drawChoice n).KeepsMode := ⟨fun _ => rfl⟩
@[simp] theorem getReg_keepsMode (r : Reg) : (getReg r).KeepsMode := ⟨fun _ => rfl⟩
@[simp] theorem setReg_keepsMode (r : Reg) (v : Word) : (setReg r v).KeepsMode := ⟨fun _ => rfl⟩
@[simp] theorem setRegN_keepsMode {n : Nat} (r : Reg) (v : BitVec n) : (setRegN r v).KeepsMode := ⟨fun _ => rfl⟩
@[simp] theorem getReg8_keepsMode (r : Reg8) : (getReg8 r).KeepsMode := ⟨fun _ => rfl⟩
@[simp] theorem setReg8_keepsMode (r : Reg8) (v : Byte) : (setReg8 r v).KeepsMode := ⟨fun _ => rfl⟩
@[simp] theorem getRegV_keepsMode (sz : OSize) (r : Reg) : (getRegV sz r).KeepsMode := ⟨fun _ => rfl⟩
@[simp] theorem setSeg_keepsMode (r : SegReg) (g : Seg) : (setSeg r g).KeepsMode := ⟨fun _ => rfl⟩

/-! Physical memory and what other bus agents do. -/

@[simp] theorem State.storeByte_modeView (s : State) (p : PA) (v : Byte) : (s.storeByte p v).modeView = s.modeView := by
  obtain ⟨_, _, _, h⟩ := s.storeByte_eq p v; rw [h]; rfl
@[simp] theorem State.busNext_modeView (s : State) : s.busNext.modeView = s.modeView := by
  obtain ⟨_, _, _, _, h⟩ := s.busNext_eq; rw [h]; rfl
@[simp] theorem busPoint_keepsMode (free : Bool) : (busPoint free).KeepsMode :=
  .ite (.upd State.busNext_modeView) (.pure _)
@[simp] theorem physReadByte_keepsMode (pa : Word) : (physReadByte pa).KeepsMode := by
  refine ⟨fun s => ?_⟩
  by_cases hbad : s.cfg.anyRegionBad = true
  · simp [physReadByte, hbad, SameMode]
  · simp [physReadByte, hbad, SameMode]
@[simp] theorem physWriteByte_keepsMode (p : PA) (v : Byte) : (physWriteByte p v).KeepsMode := by
  refine ⟨fun s => ?_⟩
  by_cases hbad : s.cfg.anyRegionBad = true
  · simp [physWriteByte, hbad, SameMode]
  by_cases hprot : s.writeProtected p = true
  · simp [physWriteByte, hbad, hprot, SameMode]
  · simp [physWriteByte, hbad, hprot, SameMode]
@[simp] theorem readBytes_keepsMode (apart : Bool) (pas : List PA) : (readBytes apart pas).KeepsMode := by
  induction pas with
  | nil => exact .pure _
  | cons p rest ih =>
    exact .bind (busPoint_keepsMode _) fun _ => .bind (physReadByte_keepsMode _) fun _ => .bind ih fun _ => .pure _
@[simp] theorem writeBytes_keepsMode (apart : Bool) (pas : List PA) (bs : List Byte) : (writeBytes apart pas bs).KeepsMode := by
  induction pas generalizing bs with
  | nil => exact .pure _
  | cons p rest ih =>
    cases bs with
    | nil => exact .pure _
    | cons b bs => exact .bind (busPoint_keepsMode _) fun _ => .bind (physWriteByte_keepsMode _ _) fun _ => ih bs
@[simp] theorem physRead_keepsMode (pas : List PA) : (physRead pas).KeepsMode :=
  .bind (busPoint_keepsMode _) fun _ => readBytes_keepsMode _ _
@[simp] theorem physWrite_keepsMode (pas : List PA) (bs : List Byte) : (physWrite pas bs).KeepsMode :=
  .bind (busPoint_keepsMode _) fun _ => writeBytes_keepsMode _ _ _
@[simp] theorem physReadN_keepsMode (pa : Word) (n : Nat) : (physReadN pa n).KeepsMode :=
  .bind (physRead_keepsMode _) fun _ => .pure _
@[simp] theorem physWriteN_keepsMode (pa : Word) (n v : Nat) : (physWriteN pa n v).KeepsMode := physWrite_keepsMode _ _

/-! Paging. -/

@[simp] theorem pageFault_keepsMode {α : Type} (la : Word) (kind : Acc) (user present : Bool) :
    (pageFault la kind user present : Act α).KeepsMode :=
  .bind (.upd fun _ => rfl) fun _ => .get fun _ => .raise _
@[simp] theorem pageWalk_keepsMode (la : Word) (kind : Acc) (user : Bool) : (pageWalk la kind user).KeepsMode :=
  .get fun _ => .bind (physReadN_keepsMode _ _) fun _ => .ite (pageFault_keepsMode _ _ _ _) <|
    .bind (physReadN_keepsMode _ _) fun _ => .ite (pageFault_keepsMode _ _ _ _) <| .ite (pageFault_keepsMode _ _ _ _) <|
    .pure _
@[simp] theorem translate_keepsMode (la : Word) (kind : Acc) (user : Bool) : (translate la kind user).KeepsMode := by
  refine .get fun s => .ite (.pure _) ?_
  split
  · exact pageWalk_keepsMode _ _ _
  · refine .bind (drawChoice_keepsMode _) fun k => ?_
    split
    · exact .pure _
    · exact pageWalk_keepsMode _ _ _
@[simp] theorem markEntry_keepsMode (a : Word) (wt : Bool) (bits : Word) : (markEntry a wt bits).KeepsMode :=
  .bind (physRead_keepsMode _) fun _ => .ite (physWrite_keepsMode _ _) (.pure _)
@[simp] theorem commitXlat_keepsMode (la : Word) (kind : Acc) (x : Xlat) : (commitXlat la kind x).KeepsMode := by
  unfold commitXlat
  split
  · exact .pure _
  · refine .bind (markEntry_keepsMode _ _ _) fun _ => .bind (markEntry_keepsMode _ _ _) fun _ => .upd fun s => ?_
    dsimp only
    split <;> rfl
@[simp] theorem linXlat_keepsMode (la : Word) (n : Nat) (kind : Acc) (user : Bool) : (linXlat la n kind user).KeepsMode :=
  .bind (translate_keepsMode _ _ _) fun _ => .ite (.pure _) <| .bind (translate_keepsMode _ _ _) fun _ => .pure _
@[simp] theorem linAccess_keepsMode (la : Word) (n : Nat) (kind : Acc) (user : Bool) (al : Nat) :
    (linAccess la n kind user al).KeepsMode := by
  refine .bind (linXlat_keepsMode _ _ _ _) fun ⟨x1, x2⟩ => .get fun _ => .check <| .bind (commitXlat_keepsMode _ _ _) fun _ => ?_
  cases x2 with
  | none => exact .pure _
  | some x => exact .bind (commitXlat_keepsMode _ _ _) fun _ => .pure _
@[simp] theorem linRead_keepsMode (la : Word) (n : Nat) : (linRead la n).KeepsMode :=
  .bind (linAccess_keepsMode _ _ _ _ _) fun _ => .bind (physRead_keepsMode _) fun _ => .pure _
@[simp] theorem linWrite_keepsMode (la : Word) (n v : Nat) : (linWrite la n v).KeepsMode :=
  .bind (linAccess_keepsMode _ _ _ _ _) fun _ => physWrite_keepsMode _ _

/-! Segment accesses and the order of faults. -/

@[simp] theorem segCheck_keepsMode (r : SegReg) (off : Word) (n : Nat) (kind : Acc) : (segCheck r off n kind).KeepsMode :=
  .get fun _ => .check <| .check <| .check <| .check <| .pure _
@[simp] theorem noteHits_keepsMode (h : State → BitVec 4) : (noteHits h).KeepsMode := ⟨fun _ => rfl⟩
@[simp] theorem segAccess_keepsMode (r : SegReg) (off : Word) (n : Nat) (kind : Acc) (al : Nat) :
    (segAccess r off n kind al).KeepsMode :=
  .bind (segCheck_keepsMode _ _ _ _) fun _ => .get fun _ => .bind (linAccess_keepsMode _ _ _ _ _) fun _ =>
    .bind (noteHits_keepsMode _) fun _ => .get fun _ => .pure _
@[simp] theorem memRead_keepsMode (r : SegReg) (off : Word) (n al : Nat) : (memRead r off n al).KeepsMode :=
  .bind (segAccess_keepsMode _ _ _ _ _) fun _ => .bind (physRead_keepsMode _) fun _ => .pure _
@[simp] theorem memWrite_keepsMode (r : SegReg) (off : Word) (n al v : Nat) : (memWrite r off n al v).KeepsMode :=
  .bind (segAccess_keepsMode _ _ _ _ _) fun _ => physWrite_keepsMode _ _
/-- The state that has the CR2 of a page fault. -/
theorem Ref.pageFault_modeView {r : Ref} {s t : State} {x : Exc} (h : r.pageFault s = some (x, t)) :
    t.modeView = s.modeView := by
  unfold Ref.pageFault at h
  split at h
  · rename_i e u hu
    cases h
    exact (linXlat_keepsMode _ _ _ _).keeps.error hu
  · cases h
theorem before_keepsMode {α : Type} (later : List Ref) {a : Act α} (h : a.KeepsMode) : (before later a).KeepsMode := by
  refine ⟨fun s => ?_⟩
  have hs := h.keeps s
  unfold before
  cases ha : a s with
  | ok x t => rw [ha] at hs; exact hs
  | error e t =>
    rw [ha] at hs
    cases e with
    | refuse r => exact hs
    | exc e =>
      dsimp only
      by_cases hpf : (e.vec == 14#8 || e.vec == 17#8) = true
      · rw [if_pos hpf]
        cases later.findSome? fun r => r.segFault s with
        | some x => exact hs
        | none =>
          by_cases hac : (e.vec == 17#8) = true
          · dsimp only
            rw [if_pos hac]
            cases hf : later.findSome? fun r => r.pageFault t with
            | some p =>
              obtain ⟨r, -, hr⟩ := List.exists_of_findSome?_eq_some hf
              exact (Ref.pageFault_modeView hr).trans hs
            | none => exact hs
          · dsimp only
            rw [if_neg hac]
            exact hs
      · rw [if_neg hpf]
        exact hs
theorem checkOnly_keepsMode {α : Type} {a : Act α} (h : a.KeepsMode) : (checkOnly a).KeepsMode := by
  refine ⟨fun s => ?_⟩
  have hs := h.keeps s
  unfold checkOnly
  cases ha : a s with
  | ok x t => rfl
  | error e t => rw [ha] at hs; exact hs

/-! The stack. -/

@[simp] theorem setStackPtr_keepsMode (x : Word) : (setStackPtr x).KeepsMode := ⟨fun _ => rfl⟩
@[simp] theorem pushPlaces_keepsMode (sz : OSize) (k : Nat) (vals : List Word) : (pushPlaces sz k vals).KeepsMode := by
  induction vals generalizing k with
  | nil => exact .pure _
  | cons v rest ih =>
    exact .get fun _ => .bind (before_keepsMode _ (segAccess_keepsMode _ _ _ _ _)) fun _ => .bind (ih _) fun _ => .pure _
@[simp] theorem writeItems_keepsMode (sz : OSize) (places : List (List PA)) (vals : List Word) :
    (writeItems sz places vals).KeepsMode := by
  induction places generalizing vals with
  | nil => exact .pure _
  | cons pas ps ih =>
    cases vals with
    | nil => exact .pure _
    | cons v vs => exact .bind (physWrite_keepsMode _ _) fun _ => ih vs
@[simp] theorem pushCommit_keepsMode (sz : OSize) (places : List (List PA)) (vals : List Word) :
    (pushCommit sz places vals).KeepsMode :=
  .bind (writeItems_keepsMode _ _ _) fun _ => .get fun _ => setStackPtr_keepsMode _
@[simp] theorem pushMany_keepsMode (sz : OSize) (vals : List Word) : (pushMany sz vals).KeepsMode :=
  .bind (pushPlaces_keepsMode _ _ _) fun _ => pushCommit_keepsMode _ _ _
@[simp] theorem push_keepsMode (sz : OSize) (v : Word) : (push sz v).KeepsMode := pushMany_keepsMode _ _
@[simp] theorem peekStack_keepsMode (sz : OSize) (k : Nat) : (peekStack sz k).KeepsMode :=
  .get fun _ => .bind (memRead_keepsMode _ _ _ _) fun _ => .pure _
@[simp] theorem peekItem_keepsMode (sz : OSize) (n k : Nat) : (peekItem sz n k).KeepsMode :=
  .get fun _ => before_keepsMode _ (peekStack_keepsMode _ _)
@[simp] theorem dropStack_keepsMode (sz : OSize) (n m : Nat) : (dropStack sz n m).KeepsMode := ⟨fun _ => rfl⟩
@[simp] theorem pop_keepsMode (sz : OSize) : (pop sz).KeepsMode :=
  .bind (peekStack_keepsMode _ _) fun _ => .bind (dropStack_keepsMode _ _ _) fun _ => .pure _
@[simp] theorem selItem_keepsMode (sz : OSize) (sel : Word16) : (selItem sz sel).KeepsMode := by
  cases sz with
  | w16 => exact .pure _
  | w32 => exact .bind drawWord16_keepsMode fun _ => .pure _

/-! Descriptors, segment registers and EIP. -/

@[simp] theorem readDesc_keepsMode (sel : Word16) (bad : Exc) : (readDesc sel bad).KeepsMode :=
  .get fun _ => .ite (.check <| .bind (linRead_keepsMode _ _) fun _ => .pure _)
    (.check <| .bind (linRead_keepsMode _ _) fun _ => .pure _)
@[simp] theorem markAccessed_keepsMode (a : Word) (d : BitVec 64) : (markAccessed a d).KeepsMode :=
  .ite (linWrite_keepsMode _ _ _) (.pure _)
@[simp] theorem checkStackSel_keepsMode (sel : Word16) (lvl : BitVec 2) (nullX badX npX : Exc) :
    (checkStackSel sel lvl nullX badX npX).KeepsMode :=
  .check <| .bind (readDesc_keepsMode _ _) fun ⟨_, _⟩ => .check <| .check <| .pure _
@[simp] theorem loadSeg_keepsMode (r : SegReg) (sel : Word16) : (loadSeg r sel).KeepsMode :=
  .get fun _ => .ite (setSeg_keepsMode _ _) <|
    .ite (.bind (checkStackSel_keepsMode _ _ _ _ _) fun ⟨_, _⟩ => .bind (markAccessed_keepsMode _ _) fun _ =>
      setSeg_keepsMode _ _) <|
    .ite (setSeg_keepsMode _ _) <|
    .bind (readDesc_keepsMode _ _) fun ⟨_, _⟩ => .check <| .check <| .check <| .bind (markAccessed_keepsMode _ _) fun _ =>
      setSeg_keepsMode _ _
@[simp] theorem loadEip_keepsMode (sz : OSize) (t : Word) : (loadEip sz t).KeepsMode := .get fun _ => .check <| .upd fun _ => rfl
@[simp] theorem transferred_keepsMode : transferred.KeepsMode := ⟨fun _ => rfl⟩
@[simp] theorem branched_keepsMode : branched.KeepsMode := ⟨fun _ => rfl⟩

end Sys2Proof.Machine
end

section
/-! SUPPORT. Legal mode views, and the actions that change a mode view: delivery of exceptions and interrupts, and the return
from them. -/
namespace Sys2Proof.Machine
open Sys2Proof

/-- The mode is one of R525 and the reserved bits have their values: the two invariants of a state, of its mode view. -/
structure ModeView.Legal (v : ModeView) : Prop where
  /-- Real mode has level 0 and no V86 flag (R34, R525). -/
  real : v.cr0.getLsbD 0 = true ∨ v.cpl = 0#2 ∧ v.vm = false
  /-- V86 mode has level 3 (R525). -/
  v86 : v.vm = true → v.cpl = 3#2
  cr0Reserved : v.cr0 &&& ~~~cr0Mask = 0#32
  cr0Bit4 : v.cr0.getLsbD 4 = true
  paging : v.cr0.getLsbD 31 = true → v.cr0.getLsbD 0 = true
  cr4Reserved : v.cr4 &&& ~~~cr4Mask = 0#32
  tr6Reserved : v.tr6 &&& 0xA8#32 = 0#32

theorem not_or_eq_true_iff (a b : Bool) : (!a || b) = true ↔ (a = true → b = true) := by cases a <;> simp
/-- A legal view is what the invariants of the model say. -/
theorem State.modeView_legal_iff (s : State) : s.modeView.Legal ↔ s.modeOk = true ∧ s.controlOk = true := by
  simp only [State.modeOk, State.controlOk, Bool.and_eq_true, ↓not_or_eq_true_iff, Bool.or_eq_true, beq_iff_eq, Bool.not_eq_true']
  constructor
  · rintro ⟨real, v86, cr0, bit4, paging, cr4, tr6⟩
    exact ⟨⟨real, v86⟩, ⟨⟨⟨cr0, bit4⟩, paging⟩, cr4⟩, tr6⟩
  · rintro ⟨⟨real, v86⟩, ⟨⟨⟨cr0, bit4⟩, paging⟩, cr4⟩, tr6⟩
    exact ⟨real, v86, cr0, bit4, paging, cr4, tr6⟩

/-- View `w` may follow view `v`: it is legal and has the same parameters. -/
def ModeView.Next (v w : ModeView) : Prop := w.Legal ∧ w.part = v.part
theorem ModeView.Legal.next {v : ModeView} (h : v.Legal) : v.Next v := ⟨h, rfl⟩
theorem ModeView.Next.trans {u v w : ModeView} (h : u.Next v) (h' : v.Next w) : u.Next w := ⟨h'.1, h'.2.trans h.2⟩

/-- From a state with view `v` action `a`, where it answers, ends in a state whose view may follow `v`. What it does before it
stops does not count: an instruction that stops is rolled back (R484). -/
def Act.LegalFrom {α : Type} (v : ModeView) (a : Act α) : Prop :=
  ∀ ⦃s t : State⦄ ⦃x : α⦄, s.modeView = v → a s = .ok x t → v.Next t.modeView

/-- From a state with view `v` action `a`, where it answers, ends in a state with view `v`. -/
def Act.StaysAt {α : Type} (v : ModeView) (a : Act α) : Prop :=
  ∀ ⦃s t : State⦄ ⦃x : α⦄, s.modeView = v → a s = .ok x t → t.modeView = v

section
variable {α β : Type} {v : ModeView}

theorem Act.KeepsMode.staysAt {a : Act α} (h : a.KeepsMode) : a.StaysAt v := fun _ _ _ hs e => (h.view e).trans hs
theorem Act.StaysAt.upd {f : State → State} (h : ∀ s, s.modeView = v → (f s).modeView = v) : (Machine.upd f).StaysAt v := by
  intro s t x hs e
  cases e
  exact h s hs
theorem Act.StaysAt.legalFrom {a : Act α} (h : a.StaysAt v) (hv : v.Legal) : a.LegalFrom v :=
  fun _ _ _ hs e => h hs e ▸ hv.next
theorem Act.LegalFrom.of_keepsMode {a : Act α} (hv : v.Legal) (h : a.KeepsMode) : a.LegalFrom v := h.staysAt.legalFrom hv
theorem Act.LegalFrom.raise (e : Exc) : (Machine.raise e : Act α).LegalFrom v := fun _ _ _ _ h => nomatch h
theorem Act.LegalFrom.refuse (r : Refusal) : (Machine.refuse r : Act α).LegalFrom v := fun _ _ _ _ h => nomatch h
theorem Act.LegalFrom.upd {f : State → State} (h : ∀ s, s.modeView = v → v.Next (f s).modeView) :
    (Machine.upd f).LegalFrom v := by
  intro s t x hs e
  cases e
  exact h s hs
/-- Running one action after another, for answers. -/
theorem run_bind_ok_iff {a : Act α} {f : α → Act β} {s u : State} {y : β} :
    (a >>= f) s = .ok y u ↔ ∃ x t, a s = .ok x t ∧ f x t = .ok y u := by
  rw [run_bind]
  cases a s with
  | ok x t => simp
  | error e t => simp
theorem Act.LegalFrom.bind {a : Act α} {f : α → Act β} (ha : a.LegalFrom v)
    (hf : ∀ x w, v.Next w → (f x).LegalFrom w) : (a >>= f).LegalFrom v := by
  intro s u y hs e
  obtain ⟨x, t, h1, h2⟩ := run_bind_ok_iff.1 e
  have hw := ha hs h1
  exact hw.trans (hf x _ hw rfl h2)
/-- First an action that stays at the view. -/
theorem Act.StaysAt.andThen {a : Act α} {f : α → Act β} (ha : a.StaysAt v) (hf : ∀ x, (f x).LegalFrom v) :
    (a >>= f).LegalFrom v := by
  intro s u y hs e
  obtain ⟨x, t, h1, h2⟩ := run_bind_ok_iff.1 e
  exact hf x (ha hs h1) h2
/-- First an action that leaves every view as it is. -/
theorem Act.LegalFrom.after {a : Act α} {f : α → Act β} (ha : a.KeepsMode) (hf : ∀ x, (f x).LegalFrom v) :
    (a >>= f).LegalFrom v := ha.staysAt.andThen hf
/-- Last an action that leaves the view as it is. -/
theorem Act.LegalFrom.andThen {a : Act α} {f : α → Act β} (ha : a.LegalFrom v) (hf : ∀ x, (f x).KeepsMode) :
    (a >>= f).LegalFrom v := .bind ha fun x _ hw => .of_keepsMode hw.1 (hf x)
/-- The state is read first: what its view says may be used. -/
theorem Act.LegalFrom.get {f : State → Act β} (hf : ∀ s, s.modeView = v → (f s).LegalFrom v) :
    ((MonadState.get : Act State) >>= f).LegalFrom v := fun s _ _ hs e => hf s hs hs e
theorem Act.LegalFrom.ite {c : Prop} [Decidable c] {a b : Act α} (ha : c → a.LegalFrom v) (hb : ¬ c → b.LegalFrom v) :
    (if c then a else b).LegalFrom v := by
  split
  · rename_i h; exact ha h
  · rename_i h; exact hb h
/-- A check that raises an exception where it fails. -/
theorem Act.LegalFrom.check {c : Prop} [Decidable c] {e : Exc} {f : α → Act β} {b : Act β} (hb : ¬ c → b.LegalFrom v) :
    (if c then Machine.raise e >>= f else b).LegalFrom v := .ite (fun _ _ _ _ _ h => nomatch h) hb
/-- A check that refuses where it fails. -/
theorem Act.LegalFrom.checkRefuse {c : Prop} [Decidable c] {r : Refusal} {f : α → Act β} {b : Act β}
    (hb : ¬ c → b.LegalFrom v) : (if c then Machine.refuse r >>= f else b).LegalFrom v :=
  .ite (fun _ _ _ _ _ h => nomatch h) hb
end

/-! What a view says of its state. -/

/-- Real mode or V86 mode. -/
def ModeView.realLike (v : ModeView) : Bool := !v.cr0.getLsbD 0 || v.vm
theorem ModeView.realLike_eq_false {v : ModeView} : v.realLike = false ↔ v.cr0.getLsbD 0 = true ∧ v.vm = false := by
  simp [ModeView.realLike]

section
variable {s : State} {v : ModeView}
theorem State.pe_of_modeView (h : s.modeView = v) : s.pe = v.cr0.getLsbD 0 := by cases h; rfl
theorem State.realLike_of_modeView (h : s.modeView = v) : s.realLike = v.realLike := by cases h; rfl
theorem State.cpl_of_modeView (h : s.modeView = v) : s.cpl = v.cpl := by cases h; rfl
theorem State.vm_of_modeView (h : s.modeView = v) : s.flags.vm = v.vm := by cases h; rfl
end

/-! Taking an exception or interrupt (R500 to R503). -/

@[simp] theorem realDeliver_keepsMode (v : Byte) (e : Word) : (realDeliver v e).KeepsMode :=
  .get fun _ => .check <| .bind (linRead_keepsMode _ _) fun _ => .bind (pushMany_keepsMode _ _) fun _ => .upd fun _ => rfl
@[simp] theorem tssStack_keepsMode (lvl : BitVec 2) (x : Word16) : (tssStack lvl x).KeepsMode :=
  .get fun _ => .ite
    (.check <| .bind (linRead_keepsMode _ _) fun _ => .bind (linRead_keepsMode _ _) fun _ => .pure _)
    (.check <| .bind (linRead_keepsMode _ _) fun _ => .bind (linRead_keepsMode _ _) fun _ => .pure _)
@[simp] theorem innerPlaces_keepsMode (g : Seg) (sz : OSize) (sp : Word) (k : Nat) (vals : List Word) :
    (innerPlaces g sz sp k vals).KeepsMode := by
  induction vals generalizing k with
  | nil => exact .pure _
  | cons v rest ih =>
    exact .bind (linAccess_keepsMode _ _ _ _ _) fun _ => .bind (noteHits_keepsMode _) fun _ => .bind (ih _) fun _ => .pure _
@[simp] theorem codeItems_keepsMode (sz : OSize) (c : Option Word16) : (codeItems sz c).KeepsMode := by
  cases c with
  | none => exact .pure _
  | some c => exact .bind (selItem_keepsMode _ _) fun _ => .pure _

/-- The view after the entry of a handler at level `lvl` (end of R502). -/
def ModeView.handler (v : ModeView) (lvl : BitVec 2) : ModeView := { v with cpl := lvl, vm := false }
/-- In protected mode a handler may run at any level. -/
theorem ModeView.Legal.handler {v : ModeView} (hv : v.Legal) (hpe : v.cr0.getLsbD 0 = true) (lvl : BitVec 2) :
    v.Next (v.handler lvl) :=
  ⟨⟨.inl hpe, (fun h => nomatch h), hv.cr0Reserved, hv.cr0Bit4, hv.paging, hv.cr4Reserved, hv.tr6Reserved⟩, rfl⟩

section
variable {v : ModeView} (hv : v.Legal) (hpe : v.cr0.getLsbD 0 = true)
include hv hpe

theorem enterHandler_legalFrom (sel : Word16) (d : BitVec 64) (off : Word) (lvl : BitVec 2) (gate : Bool) :
    (enterHandler sel d off lvl gate).LegalFrom v :=
  .upd fun _ hs => by cases hs; exact hv.handler hpe lvl
theorem innerEntry_legalFrom (sz : OSize) (sel : Word16) (da : Word) (d : BitVec 64) (off : Word) (x : Word16) (e : Word)
    (c : Option Word16) (fault gate : Bool) : (innerEntry sz sel da d off x e c fault gate).LegalFrom v := by
  refine .get fun s _ => .after (tssStack_keepsMode _ _) fun ⟨nss, nsp⟩ => .after (checkStackSel_keepsMode _ _ _ _ _)
    fun ⟨sa, sd⟩ => .check fun _ => .check fun _ => .after (innerPlaces_keepsMode _ _ _ _ _) fun places =>
    .after (markAccessed_keepsMode _ _) fun _ => .after (markAccessed_keepsMode _ _) fun _ => ?_
  refine .ite
    (fun _ => .after (selItem_keepsMode _ _) fun _ => .after (selItem_keepsMode _ _) fun _ =>
      .after (selItem_keepsMode _ _) fun _ => .after (selItem_keepsMode _ _) fun _ => .after (.pure _) ?_)
    (fun _ => .after (.pure _) ?_)
  all_goals
    exact fun dataSels =>
    .after (selItem_keepsMode _ _) fun _ => .after (selItem_keepsMode _ _) fun _ => .after (codeItems_keepsMode _ _) fun _ =>
    .after (writeItems_keepsMode _ _ _) fun _ => .after (.upd fun _ => rfl) fun _ => .ite
      (fun _ => .after (.upd fun _ => rfl) fun _ => enterHandler_legalFrom hv hpe _ _ _ _ _)
      (fun _ => enterHandler_legalFrom hv hpe _ _ _ _ _)
theorem sameEntry_legalFrom (sz : OSize) (sel : Word16) (da : Word) (d : BitVec 64) (off : Word) (x : Word16) (e : Word)
    (c : Option Word16) (fault gate : Bool) : (sameEntry sz sel da d off x e c fault gate).LegalFrom v :=
  .get fun _ _ => .check fun _ => .check fun _ => .after (pushPlaces_keepsMode _ _ _) fun _ =>
    .after (markAccessed_keepsMode _ _) fun _ => .after (selItem_keepsMode _ _) fun _ => .after (codeItems_keepsMode _ _)
    fun _ => .after (pushCommit_keepsMode _ _ _) fun _ => enterHandler_legalFrom hv hpe _ _ _ _ _
theorem protDeliver_legalFrom (kind : Kind) (n : Byte) (e : Word) (c : Option Word16) (fault : Bool) :
    (protDeliver kind n e c fault).LegalFrom v :=
  .get fun _ _ => .check fun _ => .after (linRead_keepsMode _ _) fun _ => .check fun _ => .check fun _ => .check fun _ =>
    .checkRefuse fun _ => .check fun _ => .after (readDesc_keepsMode _ _) fun ⟨_, _⟩ => .check fun _ => .check fun _ =>
    .check fun _ => .ite (fun _ => innerEntry_legalFrom hv hpe _ _ _ _ _ _ _ _ _ _)
      (fun _ => sameEntry_legalFrom hv hpe _ _ _ _ _ _ _ _ _ _)
end

/-- One attempt to deliver an event. -/
theorem deliver_legalFrom {v : ModeView} (hv : v.Legal) (kind : Kind) (n : Byte) (e : Word) (c : Option Word16)
    (fault : Bool) : (deliver kind n e c fault).LegalFrom v := by
  refine .get fun s hs => .ite (fun hpe => ?_) fun _ => ?_
  · rw [State.pe_of_modeView hs] at hpe
    exact .andThen (protDeliver_legalFrom hv hpe _ _ _ _ _) fun _ => .bind transferred_keepsMode fun _ => .upd fun _ => rfl
  · exact .of_keepsMode hv <| .bind (realDeliver_keepsMode _ _) fun _ => .bind transferred_keepsMode fun _ => .upd fun _ => rfl
theorem softInt_legalFrom {v : ModeView} (hv : v.Legal) (n : Byte) : (softInt n).LegalFrom v :=
  .get fun _ _ => deliver_legalFrom hv _ _ _ _ _

/-! Outcomes: what a step may end in. -/

/-- Outcome `o`, where it is a next state, is one whose view may follow `v`. -/
def legalOutcome (v : ModeView) (o : Host.Outcome State Fault Refusal) : Prop := ∀ ⦃t⦄, o = .next t → v.Next t.modeView

section
variable {v : ModeView}
theorem legalOutcome_next {t : State} (h : v.Next t.modeView) : legalOutcome v (.next t) := fun _ e => by cases e; exact h
theorem legalOutcome_fault (x : Fault) : legalOutcome v (.fault x) := fun _ e => nomatch e
theorem legalOutcome_refused (r : Refusal) : legalOutcome v (.refused r) := fun _ e => nomatch e
theorem legalOutcome.mapNext {o : Host.Outcome State Fault Refusal} (h : legalOutcome v o) {f : State → State}
    (hf : ∀ s, (f s).modeView = s.modeView) : legalOutcome v (mapNext f o) := by
  cases o with
  | next s => exact legalOutcome_next (hf s ▸ h rfl)
  | fault x => exact legalOutcome_fault x
  | refused r => exact legalOutcome_refused r

/-- What an abandoned action changed does not touch the mode view. -/
@[simp] theorem rollback_modeView (s t : State) : (rollback s t).modeView = s.modeView := rfl
@[simp] theorem State.enteredHandler_modeView (s : State) : s.enteredHandler.modeView = s.modeView := rfl

/-- An event with its consequences (R491): a handler, or shutdown. -/
theorem deliverAll_legal (hv : v.Legal) (fuel : Nat) (kind : Kind) (n : Byte) (e : Word) (c : Option Word16) (fault : Bool)
    {s : State} (hs : s.modeView = v) : legalOutcome v (deliverAll fuel kind n e c fault s) := by
  induction fuel generalizing kind n c fault s with
  | zero => exact legalOutcome_fault _
  | succ k ih =>
    unfold deliverAll
    split
    · rename_i t h
      exact legalOutcome_next (deliver_legalFrom hv _ _ _ _ _ hs h)
    · exact legalOutcome_refused _
    · split
      · exact legalOutcome_next (hs ▸ hv.next)
      · exact ih _ _ _ _ (by exact hs)
theorem debugException_legal (hv : v.Legal) (hits : BitVec 4) (bs fault : Bool) (e : Word) {s : State}
    (hs : s.modeView = v) : legalOutcome v (debugException hits bs fault e s) :=
  (deliverAll_legal hv _ _ _ _ _ _ (by exact hs)).mapNext State.enteredHandler_modeView
theorem deliverFault_legal (hv : v.Legal) (x : Exc) {s : State} (hs : s.modeView = v) : legalOutcome v (deliverFault x s) := by
  unfold deliverFault
  split
  · exact debugException_legal hv _ _ _ _ hs
  · exact (deliverAll_legal hv _ _ _ _ _ _ hs).mapNext State.enteredHandler_modeView
/-- An instruction whose meaning is legal: it completes, or its exception is delivered from the state before it. -/
theorem runInstr_legal (hv : v.Legal) {s : State} (hs : s.modeView = v) {a : Act Unit} (ha : a.LegalFrom v) :
    legalOutcome v (runInstr a s) := by
  intro t ht
  obtain h | ⟨x, u, -, h⟩ := runInstr_next ht
  · exact ha hs h
  · exact deliverFault_legal hv x (rollback_modeView s u ▸ hs) h
theorem runInstr_legal_of_keepsMode (hv : v.Legal) {s : State} (hs : s.modeView = v) {a : Act Unit} (ha : a.KeepsMode) :
    legalOutcome v (runInstr a s) := runInstr_legal hv hs (.of_keepsMode hv ha)
end

end Sys2Proof.Machine
end

section
/-! SUPPORT. The actions of the instructions and the mode view, in the order of the model: most keep it, the others lead from a
legal view to a legal view. -/
namespace Sys2Proof.Machine
open Sys2Proof

/-! Returning from an exception or interrupt (R338 to R340, R504). -/

/-- The V86 flag after a write of the flags: only IRET with 32-bit operands at level 0 of protected mode loads it (R339). -/
theorem State.writtenFlags_vm (s : State) (w : Word) (sz : OSize) (isIret : Bool) :
    (s.writtenFlags w sz isIret).vm =
      if sz = .w32 ∧ isIret = true ∧ s.realLike = false ∧ s.cpl = 0#2 then w.getLsbD 17 else s.flags.vm := by
  have h : (s.writtenFlags w sz isIret).vm =
      pick (sz == .w32 && isIret && s.pe && !s.flags.vm && s.cpl == 0#2) (w.getLsbD 17) s.flags.vm := rfl
  rw [h, pick]
  refine if_congr ?_ rfl rfl
  simp [State.realLike]
  tauto
/-- POPF keeps the V86 flag. -/
@[simp] theorem writeFlags_popf_keepsMode (w : Word) (sz : OSize) : (writeFlags w sz false).KeepsMode :=
  .upd fun s => by simp [State.modeView, State.writtenFlags_vm]
/-- The image that a return loads keeps the V86 flag, but for a return to V86 mode. -/
theorem writeFlags_staysAt {v : ModeView} {w : Word} {sz : OSize} (isIret : Bool)
    (h : v.realLike = false → sz = .w32 → v.cpl = 0#2 → w.getLsbD 17 = false) : (writeFlags w sz isIret).StaysAt v := by
  refine .upd fun s hs => ?_
  have hvm : (s.writtenFlags w sz isIret).vm = s.flags.vm := by
    rw [State.writtenFlags_vm, State.realLike_of_modeView hs, State.cpl_of_modeView hs, State.vm_of_modeView hs]
    split
    · rename_i hc
      obtain ⟨hsz, -, hreal, hcpl⟩ := hc
      rw [h hreal hsz hcpl, (ModeView.realLike_eq_false.1 hreal).2]
    · rfl
  rw [← hs]
  simp [State.modeView, hvm]

@[simp] theorem checkReturnSel_keepsMode (sel : Word16) (off : Word) : (checkReturnSel sel off).KeepsMode :=
  .get fun _ => .check <| .check <| .bind (readDesc_keepsMode _ _) fun ⟨_, _⟩ => .check <| .check <| .check <| .check <|
    .check <| .pure _

section
variable {v : ModeView} (hv : v.Legal)
include hv

/-- Outside V86 mode any level of protected mode is legal. -/
theorem ModeView.Legal.level (hreal : v.realLike = false) (lvl : BitVec 2) : v.Next { v with cpl := lvl } := by
  obtain ⟨hpe, hvm⟩ := ModeView.realLike_eq_false.1 hreal
  have h := hv.handler hpe lvl
  unfold ModeView.handler at h
  rwa [← hvm] at h
theorem outerReturn_legalFrom (hreal : v.realLike = false) (sz : OSize) (sel : Word16) (off a : Word) (d : BitVec 64)
    (k extra : Nat) (fl : Option Word) (hfl : ∀ w, fl = some w → sz = .w32 → v.cpl = 0#2 → w.getLsbD 17 = false) :
    (outerReturn sz sel off a d k extra fl).LegalFrom v := by
  refine .get fun s _ => .after (before_keepsMode _ (memRead_keepsMode _ _ _ _)) fun _ => .after (memRead_keepsMode _ _ _ _)
    fun _ => .after (checkStackSel_keepsMode _ _ _ _ _) fun ⟨_, _⟩ => .after (markAccessed_keepsMode _ _) fun _ =>
    .after (markAccessed_keepsMode _ _) fun _ => ?_
  have load {f : State → State} (hf : ∀ s, (f s).modeView = { s.modeView with cpl := rpl sel }) : (upd f).LegalFrom v :=
    .upd fun s hs => by rw [hf, hs]; exact hv.level hreal _
  cases fl with
  | none => exact load fun _ => rfl
  | some w => exact (writeFlags_staysAt true fun _ => hfl w rfl).andThen fun _ => load fun _ => rfl
end

/-- A return to V86 mode: level 3 (R340). -/
theorem returnToV86_legalFrom {v : ModeView} (hv : v.Legal) (hreal : v.realLike = false) (off : Word) (sel : Word16)
    (fl : Word) : (returnToV86 off sel fl).LegalFrom v :=
  .after (peekItem_keepsMode _ _ _) fun _ => .after (peekItem_keepsMode _ _ _) fun _ => .after (peekItem_keepsMode _ _ _)
  fun _ => .after (peekItem_keepsMode _ _ _) fun _ => .after (peekItem_keepsMode _ _ _) fun _ =>
  .after (peekItem_keepsMode _ _ _) fun _ => .upd fun s hs => by
    obtain ⟨hpe, -⟩ := ModeView.realLike_eq_false.1 hreal
    cases hs
    exact ⟨⟨.inl hpe, fun _ => rfl, hv.cr0Reserved, hv.cr0Bit4, hv.paging, hv.cr4Reserved, hv.tr6Reserved⟩, rfl⟩
theorem realReturn_legalFrom {v : ModeView} (hv : v.Legal) (hreal : v.realLike = true) (sz : OSize) :
    (realReturn sz).LegalFrom v :=
  .after (peekItem_keepsMode _ _ _) fun _ => .after (peekItem_keepsMode _ _ _) fun _ => .after (peekItem_keepsMode _ _ _)
  fun _ => .get fun _ _ => .check fun _ => .after (dropStack_keepsMode _ _ _) fun _ => .after (.upd fun _ => rfl) fun _ =>
  (writeFlags_staysAt true fun h => by simp [hreal] at h).legalFrom hv
theorem protReturn_legalFrom {v : ModeView} (hv : v.Legal) (hreal : v.realLike = false) (sz : OSize) :
    (protReturn sz).LegalFrom v := by
  refine .get fun _ _ => .checkRefuse fun _ => .after (peekItem_keepsMode _ _ _) fun off => .after (peekItem_keepsMode _ _ _)
    fun sel => .after (peekItem_keepsMode _ _ _) fun fl => .get fun s hs => .ite
    (fun _ => returnToV86_legalFrom hv hreal _ _ _) fun hto => .after (checkReturnSel_keepsMode _ _) fun ⟨a, d⟩ => ?_
  have hfl : sz = .w32 → v.cpl = 0#2 → fl.getLsbD 17 = false := by
    rw [State.cpl_of_modeView hs] at hto
    rintro rfl hcpl
    simpa [hcpl] using hto
  exact .ite
    (fun _ => .after (markAccessed_keepsMode _ _) fun _ => .after (dropStack_keepsMode _ _ _) fun _ =>
      .after (.upd fun _ => rfl) fun _ => (writeFlags_staysAt true fun _ => hfl).legalFrom hv)
    (fun _ => outerReturn_legalFrom hv hreal _ _ _ _ _ _ _ _ fun w hw => by cases hw; exact hfl)
/-- IRET. -/
theorem interruptReturn_legalFrom {v : ModeView} (hv : v.Legal) (sz : OSize) : (interruptReturn sz).LegalFrom v :=
  .get fun _ hs => .check fun _ => .ite
    (fun h => .andThen (realReturn_legalFrom hv (State.realLike_of_modeView hs ▸ h) sz) fun _ =>
      .bind transferred_keepsMode fun _ => .upd fun _ => rfl)
    (fun h => .andThen (protReturn_legalFrom hv (State.realLike_of_modeView hs ▸ Bool.eq_false_iff.2 h) sz) fun _ =>
      .bind transferred_keepsMode fun _ => .upd fun _ => rfl)
/-- Far RET. -/
theorem retFar_legalFrom {v : ModeView} (hv : v.Legal) (sz : OSize) (n : Word16) : (retFar sz n).LegalFrom v :=
  .after (peekItem_keepsMode _ _ _) fun _ => .after (peekItem_keepsMode _ _ _) fun _ => .get fun _ hs => .ite
    (fun _ => .check fun _ => .of_keepsMode hv <| .bind (dropStack_keepsMode _ _ _) fun _ => .bind (.upd fun _ => rfl) fun _ =>
      transferred_keepsMode)
    (fun h => .after (checkReturnSel_keepsMode _ _) fun ⟨_, _⟩ => .ite
      (fun _ => .of_keepsMode hv <| .bind (markAccessed_keepsMode _ _) fun _ => .bind (dropStack_keepsMode _ _ _) fun _ =>
        .bind (.upd fun _ => rfl) fun _ => transferred_keepsMode)
      (fun _ => .andThen (outerReturn_legalFrom hv (State.realLike_of_modeView hs ▸ Bool.eq_false_iff.2 h) _ _ _ _ _ _ _ _
        fun _ hw => nomatch hw) fun _ => transferred_keepsMode))

/-! Flags (R281, R297 to R300, R311). -/

@[simp] theorem getFlags_keepsMode : getFlags.KeepsMode := ⟨fun _ => rfl⟩
@[simp] theorem addA_keepsMode {n : Nat} (a b : BitVec n) : (addA a b).KeepsMode := ⟨fun _ => rfl⟩
@[simp] theorem adcA_keepsMode {n : Nat} (a b : BitVec n) : (adcA a b).KeepsMode := ⟨fun _ => rfl⟩
@[simp] theorem subA_keepsMode {n : Nat} (a b : BitVec n) : (subA a b).KeepsMode := ⟨fun _ => rfl⟩
@[simp] theorem sbbA_keepsMode {n : Nat} (a b : BitVec n) : (sbbA a b).KeepsMode := ⟨fun _ => rfl⟩
@[simp] theorem andA_keepsMode {n : Nat} (a b : BitVec n) : (andA a b).KeepsMode := ⟨fun _ => rfl⟩
@[simp] theorem orA_keepsMode {n : Nat} (a b : BitVec n) : (orA a b).KeepsMode := ⟨fun _ => rfl⟩
@[simp] theorem xorA_keepsMode {n : Nat} (a b : BitVec n) : (xorA a b).KeepsMode := ⟨fun _ => rfl⟩
@[simp] theorem incA_keepsMode {n : Nat} (a : BitVec n) : (incA a).KeepsMode := ⟨fun _ => rfl⟩
@[simp] theorem decA_keepsMode {n : Nat} (a : BitVec n) : (decA a).KeepsMode := ⟨fun _ => rfl⟩
@[simp] theorem negA_keepsMode {n : Nat} (a : BitVec n) : (negA a).KeepsMode := ⟨fun _ => rfl⟩
@[simp] theorem notA_keepsMode {n : Nat} (a : BitVec n) : (notA a).KeepsMode := ⟨fun _ => rfl⟩
@[simp] theorem freeFlagsA_keepsMode : freeFlagsA.KeepsMode := ⟨fun _ => rfl⟩
@[simp] theorem mulFlagsA_keepsMode (ovf : Bool) : (mulFlagsA ovf).KeepsMode := ⟨fun _ => rfl⟩
@[simp] theorem bitFlagsA_keepsMode (bit : Bool) : (bitFlagsA bit).KeepsMode := ⟨fun _ => rfl⟩
@[simp] theorem shiftResult_vm (op : Shift) {n : Nat} (a : BitVec n) (c : Nat) (ofl af cf : Bool) (f : Flags) :
    (shiftResult op a c ofl af cf f).2.vm = f.vm := by cases op <;> rfl

/-! Operands (R282). -/

@[simp] theorem locateMem_keepsMode (m : Mem) (n al : Nat) (kind : Acc) : (locateMem m n al kind).KeepsMode :=
  .get fun _ => segAccess_keepsMode _ _ _ _ _
@[simp] theorem locate8_keepsMode (d : RM8) (kind : Acc) : (locate8 d kind).KeepsMode := by
  cases d with
  | reg r => exact .pure _
  | mem m => exact .bind (locateMem_keepsMode _ _ _ _) fun _ => .pure _
@[simp] theorem locateN_keepsMode (n : Nat) (d : RMv) (kind : Acc) : (locateN n d kind).KeepsMode := by
  cases d with
  | reg r => exact .pure _
  | mem m => exact .bind (locateMem_keepsMode _ _ _ _) fun _ => .pure _
@[simp] theorem locateV_keepsMode (sz : OSize) (d : RMv) (kind : Acc) : (locateV sz d kind).KeepsMode :=
  locateN_keepsMode _ _ _
@[simp] theorem readPlace_keepsMode (n : Nat) (p : Place) : (readPlace n p).KeepsMode := by
  cases p with
  | reg r => exact ⟨fun _ => rfl⟩
  | reg8 r => exact ⟨fun _ => rfl⟩
  | mem pas => exact .bind (physRead_keepsMode _) fun _ => .pure _
@[simp] theorem writePlace_keepsMode {n : Nat} (p : Place) (v : BitVec n) : (writePlace p v).KeepsMode := by
  cases p with
  | reg r => exact setRegN_keepsMode _ _
  | reg8 r => exact ⟨fun _ => rfl⟩
  | mem pas => exact physWrite_keepsMode _ _
@[simp] theorem readRM8_keepsMode (d : RM8) : (readRM8 d).KeepsMode :=
  .bind (locate8_keepsMode _ _) fun _ => readPlace_keepsMode _ _
@[simp] theorem readRMv_keepsMode (sz : OSize) (d : RMv) : (readRMv sz d).KeepsMode :=
  .bind (locateV_keepsMode _ _ _) fun _ => readPlace_keepsMode _ _
@[simp] theorem readRM16_keepsMode (d : RMv) : (readRM16 d).KeepsMode :=
  .bind (locateN_keepsMode _ _ _) fun _ => readPlace_keepsMode _ _
@[simp] theorem readRM32_keepsMode (d : RMv) : (readRM32 d).KeepsMode :=
  .bind (locateN_keepsMode _ _ _) fun _ => readPlace_keepsMode _ _
@[simp] theorem writeRM8_keepsMode (d : RM8) (v : Byte) : (writeRM8 d v).KeepsMode :=
  .bind (locate8_keepsMode _ _) fun _ => writePlace_keepsMode _ _
@[simp] theorem writeRMv_keepsMode (sz : OSize) (d : RMv) (v : BitVec (osBits sz)) : (writeRMv sz d v).KeepsMode :=
  .bind (locateV_keepsMode _ _ _) fun _ => writePlace_keepsMode _ _
theorem rmw8_keepsMode {f : Byte → Act Byte} (hf : ∀ a, (f a).KeepsMode) (d : RM8) : (rmw8 d f).KeepsMode :=
  .bind (locate8_keepsMode _ _) fun _ => .bind (readPlace_keepsMode _ _) fun _ => .bind (hf _) fun _ => writePlace_keepsMode _ _
theorem rmwV_keepsMode {sz : OSize} {f : BitVec (osBits sz) → Act (BitVec (osBits sz))} (hf : ∀ a, (f a).KeepsMode)
    (d : RMv) : (rmwV sz d f).KeepsMode :=
  .bind (locateV_keepsMode _ _ _) fun _ => .bind (readPlace_keepsMode _ _) fun _ => .bind (hf _) fun _ =>
    writePlace_keepsMode _ _

/-! Arithmetic and logical instructions (R283 to R300). -/

section
variable {op : Byte → Byte → Act Byte} (hop : ∀ a b, (op a b).KeepsMode)
include hop
theorem aluEbGb_keepsMode (d : RM8) (r : Reg8) : (aluEbGb op d r).KeepsMode :=
  rmw8_keepsMode (fun _ => .bind (getReg8_keepsMode _) fun _ => hop _ _) d
theorem aluGbEb_keepsMode (r : Reg8) (e : RM8) : (aluGbEb op r e).KeepsMode :=
  .bind (readRM8_keepsMode _) fun _ => .bind (getReg8_keepsMode _) fun _ => .bind (hop _ _) fun _ => setReg8_keepsMode _ _
theorem aluAlIb_keepsMode (i : Byte) : (aluAlIb op i).KeepsMode :=
  .bind (getReg8_keepsMode _) fun _ => .bind (hop _ _) fun _ => setReg8_keepsMode _ _
theorem aluEbIb_keepsMode (d : RM8) (i : Byte) : (aluEbIb op d i).KeepsMode := rmw8_keepsMode (fun _ => hop _ _) d
end
section
variable {sz : OSize} {op : BitVec (osBits sz) → BitVec (osBits sz) → Act (BitVec (osBits sz))}
  (hop : ∀ a b, (op a b).KeepsMode)
include hop
theorem aluEvGv_keepsMode (d : RMv) (r : Reg) : (aluEvGv sz op d r).KeepsMode :=
  rmwV_keepsMode (fun _ => .bind (getRegV_keepsMode _ _) fun _ => hop _ _) d
theorem aluGvEv_keepsMode (r : Reg) (e : RMv) : (aluGvEv sz op r e).KeepsMode :=
  .bind (readRMv_keepsMode _ _) fun _ => .bind (getRegV_keepsMode _ _) fun _ => .bind (hop _ _) fun _ => setRegN_keepsMode _ _
theorem aluEvIbs_keepsMode (d : RMv) (i : Byte) : (aluEvIbs sz op d i).KeepsMode := rmwV_keepsMode (fun _ => hop _ _) d
end
section
variable {i : Imm} {op : BitVec (osBits i.osize) → BitVec (osBits i.osize) → Act (BitVec (osBits i.osize))}
  (hop : ∀ a b, (op a b).KeepsMode)
include hop
theorem aluAxIv_keepsMode : (aluAxIv i op).KeepsMode :=
  .bind (getRegV_keepsMode _ _) fun _ => .bind (hop _ _) fun _ => setRegN_keepsMode _ _
theorem aluEvIv_keepsMode (d : RMv) : (aluEvIv d i op).KeepsMode := rmwV_keepsMode (fun _ => hop _ _) d
end
@[simp] theorem setProduct_keepsMode {n : Nat} (p : BitVec (n + n)) : (setProduct p).KeepsMode :=
  .bind (setRegN_keepsMode _ _) fun _ => setRegN_keepsMode _ _
@[simp] theorem getDividend_keepsMode (sz : OSize) : (getDividend sz).KeepsMode := ⟨fun _ => rfl⟩
@[simp] theorem getAx_keepsMode : getAx.KeepsMode := ⟨fun _ => rfl⟩
@[simp] theorem setDiv8_keepsMode (r : Option (Byte × Byte)) : (setDiv8 r).KeepsMode := by
  cases r with
  | none => exact .raise _
  | some x => exact .bind (setReg8_keepsMode _ _) fun _ => .bind (setReg8_keepsMode _ _) fun _ => freeFlagsA_keepsMode
@[simp] theorem setDivV_keepsMode {n : Nat} (r : Option (BitVec n × BitVec n)) : (setDivV r).KeepsMode := by
  cases r with
  | none => exact .raise _
  | some x => exact .bind (setRegN_keepsMode _ _) fun _ => .bind (setRegN_keepsMode _ _) fun _ => freeFlagsA_keepsMode

/-! Bit tests and shifts (R310 to R327). -/

@[simp] theorem bitAtPlace_keepsMode (op : BitOp) (sz : OSize) (p : Place) (k : Nat) : (bitAtPlace op sz p k).KeepsMode :=
  .bind (readPlace_keepsMode _ _) fun _ => .bind (bitFlagsA_keepsMode _) fun _ => writePlace_keepsMode _ _
@[simp] theorem bitImm_keepsMode (op : BitOp) (sz : OSize) (d : RMv) (i : Byte) : (bitImm op sz d i).KeepsMode :=
  .bind (locateV_keepsMode _ _ _) fun _ => bitAtPlace_keepsMode _ _ _ _
@[simp] theorem bitReg_keepsMode (op : BitOp) (sz : OSize) (d : RMv) (r : Reg) : (bitReg op sz d r).KeepsMode := by
  cases d with
  | reg b => exact .get fun _ => bitAtPlace_keepsMode _ _ _ _
  | mem m => exact .get fun _ => .bind (segAccess_keepsMode _ _ _ _ _) fun _ => bitAtPlace_keepsMode _ _ _ _
/-- The flags that a shift writes are those it has read, but for the arithmetic flags. -/
theorem shiftPlace_legalFrom {v : ModeView} (hv : v.Legal) (op : Shift) (n : Nat) (p : Place) :
    (shiftPlace op n p).LegalFrom v :=
  .get fun s hs => .after (readPlace_keepsMode _ _) fun _ => .after drawBit_keepsMode fun _ => .after drawBit_keepsMode
    fun _ => .after drawBit_keepsMode fun _ => .andThen
      (.upd fun t ht => by
        have h : ∀ f : Flags, f.vm = v.vm → ({ t with flags := f } : State).modeView = v := by
          rintro f hf; rw [State.modeView, hf, ← ht]; rfl
        rw [h _ ((shiftResult_vm _ _ _ _ _ _ _).trans (State.vm_of_modeView hs))]
        exact hv.next)
      fun _ => writePlace_keepsMode _ _
theorem shiftAt_legalFrom {v : ModeView} (hv : v.Legal) (op : Shift) (n : Nat) {loc : Act Place} (hloc : loc.KeepsMode) :
    (shiftAt op n loc).LegalFrom v :=
  .get fun _ _ => .ite (fun _ => .of_keepsMode hv (checkOnly_keepsMode hloc))
    fun _ => .after hloc fun _ => shiftPlace_legalFrom hv _ _ _
theorem shiftEb_legalFrom {v : ModeView} (hv : v.Legal) (op : Shift) (d : RM8) : (shiftEb op d).LegalFrom v :=
  shiftAt_legalFrom hv _ _ (locate8_keepsMode _ _)
theorem shiftEv_legalFrom {v : ModeView} (hv : v.Legal) (op : Shift) (sz : OSize) (d : RMv) : (shiftEv op sz d).LegalFrom v :=
  shiftAt_legalFrom hv _ _ (locateV_keepsMode _ _ _)

/-! Data transfer and stack instructions (R361 to R374). -/

@[simp] theorem readPfx_keepsMode (f : Pfx → Pfx) : (readPfx f).KeepsMode := ⟨fun _ => rfl⟩
@[simp] theorem locateMoffs_keepsMode (o : Moffs) (n : Nat) (kind : Acc) : (locateMoffs o n kind).KeepsMode :=
  .get fun _ => segAccess_keepsMode _ _ _ _ _
@[simp] theorem storeSel_keepsMode (sz : OSize) (d : RMv) (sel : Word16) : (storeSel sz d sel).KeepsMode := by
  cases d with
  | reg r =>
    cases sz with
    | w16 => exact setRegN_keepsMode _ _
    | w32 => exact .bind drawWord16_keepsMode fun _ => setReg_keepsMode _ _
  | mem m => exact .bind (locateMem_keepsMode _ _ _ _) fun _ => writePlace_keepsMode _ _
@[simp] theorem shadowIfSs_keepsMode (r : SegReg) : (shadowIfSs r).KeepsMode := .ite (.upd fun _ => rfl) (.pure _)
@[simp] theorem pushSeg_keepsMode (sz : OSize) (r : SegReg) : (pushSeg sz r).KeepsMode :=
  .get fun _ => .bind (selItem_keepsMode _ _) fun _ => push_keepsMode _ _
@[simp] theorem popSeg_keepsMode (sz : OSize) (r : SegReg) : (popSeg sz r).KeepsMode :=
  .bind (pop_keepsMode _) fun _ => .bind (loadSeg_keepsMode _ _) fun _ => shadowIfSs_keepsMode _
@[simp] theorem v86Sensitive_keepsMode : v86Sensitive.KeepsMode := .get fun _ => .ite (.raise _) (.pure _)

/-! Control transfer (R330 to R347). -/

@[simp] theorem farSystem_keepsMode (typ : BitVec 4) (bad : Exc) : (farSystem typ bad).KeepsMode :=
  .ite (.refuse _) <| .ite (.refuse _) <| .ite (.refuse _) (.raise _)
@[simp] theorem checkFar_keepsMode (sel : Word16) (off : Word) : (checkFar sel off).KeepsMode :=
  .get fun _ => .ite (.check <| .pure _) <| .check <| .bind (readDesc_keepsMode _ _) fun ⟨_, _⟩ => .ite
    (.check <| .check <| .check <| .check <| .pure _) (.ite (farSystem_keepsMode _ _) (.raise _))
@[simp] theorem commitFar_keepsMode (t : FarDest) : (commitFar t).KeepsMode := by
  obtain ⟨cs, eip, desc⟩ := t
  cases desc with
  | none => exact .bind (.upd fun _ => rfl) fun _ => branched_keepsMode
  | some x => exact .bind (markAccessed_keepsMode _ _) fun _ => .bind (.upd fun _ => rfl) fun _ => branched_keepsMode
@[simp] theorem relTarget_keepsMode (disp : Word) : (relTarget disp).KeepsMode := ⟨fun _ => rfl⟩
@[simp] theorem jumpNear_keepsMode (sz : OSize) (t : Word) : (jumpNear sz t).KeepsMode :=
  .bind (loadEip_keepsMode _ _) fun _ => branched_keepsMode
@[simp] theorem callNear_keepsMode (sz : OSize) (t : Word) : (callNear sz t).KeepsMode :=
  .get fun _ => .bind (loadEip_keepsMode _ _) fun _ => .bind (push_keepsMode _ _) fun _ => branched_keepsMode
@[simp] theorem jumpFar_keepsMode (sel : Word16) (off : Word) : (jumpFar sel off).KeepsMode :=
  .bind (checkFar_keepsMode _ _) fun _ => commitFar_keepsMode _
@[simp] theorem callFar_keepsMode (sz : OSize) (sel : Word16) (off : Word) : (callFar sz sel off).KeepsMode := by
  refine .bind (checkFar_keepsMode _ _) fun ⟨cs, eip, desc⟩ => .get fun _ => .bind (pushPlaces_keepsMode _ _ _) fun _ =>
    .bind (selItem_keepsMode _ _) fun _ => ?_
  cases desc with
  | none => exact .bind (pushCommit_keepsMode _ _ _) fun _ => commitFar_keepsMode _
  | some x =>
    exact .bind (markAccessed_keepsMode _ _) fun _ => .bind (pushCommit_keepsMode _ _ _) fun _ => commitFar_keepsMode _
@[simp] theorem readFarPtr_keepsMode (sz : OSize) (m : Mem) (later : List Ref) : (readFarPtr sz m later).KeepsMode :=
  .get fun _ => .bind (before_keepsMode _ (memRead_keepsMode _ _ _ _)) fun _ =>
    .bind (before_keepsMode _ (memRead_keepsMode _ _ _ _)) fun _ => .pure _
@[simp] theorem retNear_keepsMode (sz : OSize) (n : Word16) : (retNear sz n).KeepsMode :=
  .bind (peekStack_keepsMode _ _) fun _ => .bind (loadEip_keepsMode _ _) fun _ => .bind (dropStack_keepsMode _ _ _) fun _ =>
    transferred_keepsMode
@[simp] theorem countDown_keepsMode (az : ASize) : (countDown az).KeepsMode := by
  cases az with
  | a16 => exact .bind (getReg_keepsMode _) fun _ => .bind (setRegN_keepsMode _ _) fun _ => .pure _
  | a32 => exact .bind (getReg_keepsMode _) fun _ => .bind (setReg_keepsMode _ _) fun _ => .pure _
@[simp] theorem loopIf_keepsMode (sz : OSize) (az : ASize) (d : Byte) (cond : Flags → Bool) : (loopIf sz az d cond).KeepsMode :=
  .bind (countDown_keepsMode _) fun _ => .bind getFlags_keepsMode fun _ =>
    .ite (.bind (relTarget_keepsMode _) fun _ => loadEip_keepsMode _ _) (.pure _)

/-! Floating point and MMX (R400 to R415). -/

@[simp] theorem pendingError_keepsMode : pendingError.KeepsMode := .get fun _ => .ite (.check <| .refuse _) (.pure _)
@[simp] theorem escAvailable_keepsMode : escAvailable.KeepsMode := .get fun _ => .ite (.raise _) (.pure _)
@[simp] theorem waitCheck_keepsMode : waitCheck.KeepsMode := .get fun _ => .check pendingError_keepsMode
@[simp] theorem mmxAvailable_keepsMode : mmxAvailable.KeepsMode := .get fun _ => .check <| .check pendingError_keepsMode
@[simp] theorem getMm_keepsMode (r : MmReg) : (getMm r).KeepsMode := ⟨fun _ => rfl⟩
@[simp] theorem setMm_keepsMode (r : MmReg) (v : BitVec 64) : (setMm r v).KeepsMode := ⟨fun _ => rfl⟩
@[simp] theorem mmxDone_keepsMode (tag : Word16) : (mmxDone tag).KeepsMode := ⟨fun _ => rfl⟩
@[simp] theorem envBytes_keepsMode (f : Fpu) (form : EnvForm) : (envBytes f form).KeepsMode := by
  cases form <;> exact ⟨fun _ => rfl⟩
@[simp] theorem loadEnv_keepsMode (form : EnvForm) (bs : List Byte) (f : Fpu) : (loadEnv form bs f).KeepsMode := by
  cases form <;> exact ⟨fun _ => rfl⟩
@[simp] theorem fnsave_keepsMode (sz : OSize) (m : Mem) : (fnsave sz m).KeepsMode :=
  .bind escAvailable_keepsMode fun _ => .get fun _ => .bind (locateMem_keepsMode _ _ _ _) fun _ =>
    .bind (envBytes_keepsMode _ _) fun _ => .bind (physWrite_keepsMode _ _) fun _ => .upd fun _ => rfl
@[simp] theorem fnstenv_keepsMode (sz : OSize) (m : Mem) : (fnstenv sz m).KeepsMode :=
  .bind escAvailable_keepsMode fun _ => .get fun _ => .bind (locateMem_keepsMode _ _ _ _) fun _ =>
    .bind (envBytes_keepsMode _ _) fun _ => .bind (physWrite_keepsMode _ _) fun _ => .upd fun _ => rfl
@[simp] theorem frstor_keepsMode (sz : OSize) (m : Mem) : (frstor sz m).KeepsMode :=
  .bind escAvailable_keepsMode fun _ => .get fun _ => .bind (locateMem_keepsMode _ _ _ _) fun _ =>
    .bind (physRead_keepsMode _) fun _ => .bind (loadEnv_keepsMode _ _ _) fun _ => .upd fun _ => rfl
@[simp] theorem readMm64_keepsMode (e : RMmm) : (readMm64 e).KeepsMode := by
  cases e with
  | reg r => exact getMm_keepsMode _
  | mem m => exact .bind (locateMem_keepsMode _ _ _ _) fun _ => .bind (physRead_keepsMode _) fun _ => .pure _
@[simp] theorem writeMm64_keepsMode (d : RMmm) (v : BitVec 64) : (writeMm64 d v).KeepsMode := by
  cases d with
  | reg r => exact setMm_keepsMode _ _
  | mem m => exact .bind (locateMem_keepsMode _ _ _ _) fun _ => physWrite_keepsMode _ _
/-- WAIT with a second instruction: both in one step, or the step ends after WAIT. -/
theorem waitThen_legal {v : ModeView} (hv : v.Legal) {s : State} (hs : s.modeView = v) {part : Act Unit}
    (hp : part.KeepsMode) : legalOutcome v (waitThen part s) := by
  unfold waitThen
  split
  · rename_i u s1 h
    have h1 : s1.modeView = v := (waitCheck_keepsMode.view h).trans hs
    split
    · exact runInstr_legal_of_keepsMode hv (by exact h1) hp
    · exact legalOutcome_next (by exact h1 ▸ hv.next)
  · exact runInstr_legal_of_keepsMode hv hs waitCheck_keepsMode

/-! I/O and strings (R143, R381 to R390, R530). -/

@[simp] theorem ioMapAllows_keepsMode (base : Word) (k n : Nat) : (ioMapAllows base k n).KeepsMode := by
  induction n generalizing k with
  | zero => exact .pure _
  | succ m ih => exact .bind (linRead_keepsMode _ _) fun _ => .check (ih _)
@[simp] theorem ioPermit_keepsMode (port : Word16) (n : Nat) : (ioPermit port n).KeepsMode :=
  .get fun _ => .ite (.get fun _ => .check <| .check <| .bind (linRead_keepsMode _ _) fun _ => .check <|
    ioMapAllows_keepsMode _ _ _) (.pure _)
@[simp] theorem cfgRead_keepsMode (i : Byte) : (cfgRead i).KeepsMode := by
  refine .get fun s => ?_
  split
  · exact .pure _
  · exact .pure _
  · exact .pure _
  · exact drawByte_keepsMode
@[simp] theorem consumeIndex_keepsMode : consumeIndex.KeepsMode := ⟨fun _ => rfl⟩
@[simp] theorem externalRead_keepsMode (port : Word16) (n : Nat) : (externalRead port n).KeepsMode := ⟨fun _ => rfl⟩
@[simp] theorem externalWrite_keepsMode (port : Word16) (n : Nat) (v : Word) : (externalWrite port n v).KeepsMode :=
  ⟨fun _ => rfl⟩
@[simp] theorem State.cfgWrite_modeView (s : State) (i v : Byte) : (s.cfgWrite i v).modeView = s.modeView := by
  unfold State.cfgWrite
  split
  · rfl
  · split
    · split <;> rfl
    · rfl
  · rfl
  · rfl
@[simp] theorem cfgPortRead_keepsMode (port : Word16) : (cfgPortRead port).KeepsMode :=
  .get fun _ => .ite (.bind (cfgRead_keepsMode _) fun _ => .bind consumeIndex_keepsMode fun _ => .pure _)
    (externalRead_keepsMode _ _)
@[simp] theorem cfgPortWrite_keepsMode (port : Word16) (v : Word) : (cfgPortWrite port v).KeepsMode :=
  .get fun _ => .ite
    (.ite (.upd fun _ => rfl) (.bind consumeIndex_keepsMode fun _ => externalWrite_keepsMode _ _ _))
    (.ite (.bind (.upd fun s => s.cfgWrite_modeView _ _) fun _ => consumeIndex_keepsMode) (externalWrite_keepsMode _ _ _))
@[simp] theorem ioBounds_keepsMode (port : Word16) (n : Nat) : (ioBounds port n).KeepsMode :=
  .checkRefuse <| .ite (.refuse _) (.pure _)
@[simp] theorem noteIo_keepsMode (write : Bool) (port : Word16) (n : Nat) (v : Word) (index : Option Word) :
    (noteIo write port n v index).KeepsMode := ⟨fun _ => rfl⟩
@[simp] theorem ioRead_keepsMode (port : Word16) (n : Nat) (index : Option Word) : (ioRead port n index).KeepsMode :=
  .bind (ioBounds_keepsMode _ _) fun _ => .ite
    (.bind (cfgPortRead_keepsMode _) fun _ => .bind (noteIo_keepsMode _ _ _ _ _) fun _ => .pure _)
    (.bind (externalRead_keepsMode _ _) fun _ => .bind (noteIo_keepsMode _ _ _ _ _) fun _ => .pure _)
@[simp] theorem ioWrite_keepsMode (port : Word16) (n : Nat) (v : Word) (index : Option Word) :
    (ioWrite port n v index).KeepsMode :=
  .bind (ioBounds_keepsMode _ _) fun _ => .ite
    (.bind (cfgPortWrite_keepsMode _ _) fun _ => noteIo_keepsMode _ _ _ _ _)
    (.bind (externalWrite_keepsMode _ _ _) fun _ => noteIo_keepsMode _ _ _ _ _)
@[simp] theorem portDx_keepsMode : portDx.KeepsMode := ⟨fun _ => rfl⟩
@[simp] theorem inPort_keepsMode (port : Word16) (n : Nat) : (inPort port n).KeepsMode :=
  .bind (ioPermit_keepsMode _ _) fun _ => ioRead_keepsMode _ _ _
@[simp] theorem outPort_keepsMode (port : Word16) (n : Nat) (v : Word) : (outPort port n v).KeepsMode :=
  .bind (ioPermit_keepsMode _ _) fun _ => ioWrite_keepsMode _ _ _ _
@[simp] theorem indexReg_keepsMode (az : ASize) (r : Reg) : (indexReg az r).KeepsMode := ⟨fun _ => rfl⟩
@[simp] theorem stepIndex_keepsMode (az : ASize) (r : Reg) (n : Nat) : (stepIndex az r n).KeepsMode := ⟨fun _ => rfl⟩
theorem repeated_keepsMode {iter : Act Unit} (h : iter.KeepsMode) (az : ASize) : (repeated az iter).KeepsMode :=
  .get fun _ => .ite h <| .ite (.pure _) <| .bind h fun _ => .bind (countDown_keepsMode _) fun _ =>
    .ite (.upd fun _ => rfl) (.pure _)
theorem repeatedIo_keepsMode {iter : Act Unit} (h : iter.KeepsMode) (write : Bool) (az : ASize) :
    (repeatedIo write az iter).KeepsMode :=
  .get fun _ => .ite (.upd fun _ => rfl) (repeated_keepsMode h _)
@[simp] theorem movsItem_keepsMode (az : ASize) (n : Nat) : (movsItem az n).KeepsMode :=
  .get fun _ => .bind (indexReg_keepsMode _ _) fun _ => .bind (before_keepsMode _ (memRead_keepsMode _ _ _ _)) fun _ =>
    .bind (indexReg_keepsMode _ _) fun _ => .bind (memWrite_keepsMode _ _ _ _ _) fun _ => .bind (stepIndex_keepsMode _ _ _)
    fun _ => stepIndex_keepsMode _ _ _
@[simp] theorem stosItem_keepsMode (az : ASize) (n : Nat) : (stosItem az n).KeepsMode :=
  .bind (indexReg_keepsMode _ _) fun _ => .bind (getReg_keepsMode _) fun _ => .bind (memWrite_keepsMode _ _ _ _ _) fun _ =>
    stepIndex_keepsMode _ _ _
@[simp] theorem insItem_keepsMode (az : ASize) (n : Nat) : (insItem az n).KeepsMode :=
  .bind portDx_keepsMode fun _ => .bind (ioPermit_keepsMode _ _) fun _ => .bind (indexReg_keepsMode _ _) fun _ =>
    .bind (segAccess_keepsMode _ _ _ _ _) fun _ => .bind (getReg_keepsMode _) fun _ => .bind (ioRead_keepsMode _ _ _) fun _ =>
    .bind (physWrite_keepsMode _ _) fun _ => stepIndex_keepsMode _ _ _
@[simp] theorem outsItem_keepsMode (az : ASize) (n : Nat) : (outsItem az n).KeepsMode :=
  .bind portDx_keepsMode fun _ => .bind (ioPermit_keepsMode _ _) fun _ => .get fun _ => .bind (indexReg_keepsMode _ _) fun _ =>
    .bind (memRead_keepsMode _ _ _ _) fun _ => .bind (getReg_keepsMode _) fun _ => .bind (ioWrite_keepsMode _ _ _ _) fun _ =>
    stepIndex_keepsMode _ _ _

/-! System instructions (R420 to R443). -/

@[simp] theorem requireCpl0_keepsMode : requireCpl0.KeepsMode := .get fun _ => .ite (.raise _) (.pure _)
@[simp] theorem readTableReg_keepsMode (sz : OSize) (m : Mem) : (readTableReg sz m).KeepsMode :=
  .get fun _ => .bind (before_keepsMode _ (memRead_keepsMode _ _ _ _)) fun _ => .bind (memRead_keepsMode _ _ _ _) fun _ =>
    .pure _
@[simp] theorem storeTableReg_keepsMode (sz : OSize) (m : Mem) (t : TableReg) : (storeTableReg sz m t).KeepsMode := by
  refine .get fun _ => .bind (before_keepsMode _ (segAccess_keepsMode _ _ _ _ _)) fun _ =>
    .bind (segAccess_keepsMode _ _ _ _ _) fun _ => ?_
  cases sz with
  | w32 => exact .bind (.pure _) fun _ => .bind (physWrite_keepsMode _ _) fun _ => physWrite_keepsMode _ _
  | w16 =>
    exact .bind (.bind drawByte_keepsMode fun _ => .pure _) fun _ => .bind (physWrite_keepsMode _ _) fun _ =>
      physWrite_keepsMode _ _
@[simp] theorem protectedOnly_keepsMode : protectedOnly.KeepsMode := .get fun _ => .ite (.raise _) (.pure _)
@[simp] theorem systemDesc_keepsMode (sel : Word16) (ok : BitVec 4 → Bool) : (systemDesc sel ok).KeepsMode :=
  .check <| .bind (readDesc_keepsMode _ _) fun ⟨_, _⟩ => .check <| .check <| .pure _
@[simp] theorem accessedSet_keepsMode : accessedSet.KeepsMode := .get fun _ => .ite (.pure _) (drawChoice_keepsMode _)
@[simp] theorem tlbEntryAt_keepsMode (l : List (Nat × TlbEntry)) (k : Nat) : (tlbEntryAt l k).KeepsMode := by
  unfold tlbEntryAt
  split
  · exact .pure _
  · exact .bind drawWord_keepsMode fun _ => .bind drawWord_keepsMode fun _ => .pure _
@[simp] theorem l2HitBits_keepsMode (hits : List Nat) : (l2HitBits hits).KeepsMode := by
  cases hits with
  | nil => exact .bind drawWord_keepsMode fun _ => .pure _
  | cons k ks => exact .bind (drawChoice_keepsMode _) fun _ => .pure _

/-- A view whose TR6 has another value with bits 7, 5 and 3 clear (R226). -/
theorem ModeView.Legal.withTr6 {v : ModeView} (hv : v.Legal) {w : Word} (h : w &&& 0xA8#32 = 0#32) :
    v.Next { v with tr6 := w } :=
  ⟨⟨hv.real, hv.v86, hv.cr0Reserved, hv.cr0Bit4, hv.paging, hv.cr4Reserved, h⟩, rfl⟩
/-- The bits of a doubleword with one bit. -/
theorem getLsbD_bitAt (i j : Nat) (b : Bool) : (bitAt i b).getLsbD j = (decide (j < 32) && decide (j = i) && b) := by
  simp only [bitAt, BitVec.getLsbD_shiftLeft, BitVec.getLsbD_setWidth, BitVec.getLsbD_ofBool]
  by_cases h : j = i
  · subst h; simp
  · have : j < i ∨ j - i ≠ 0 := by omega
    rcases this with h' | h' <;> simp [h, h']
/-- TR6 loaded from an entry has bits 7, 5 and 3 clear. -/
theorem tr6Of_reserved (e : TlbEntry) (old : Word) : tr6Of e old &&& 0xA8#32 = 0#32 := by
  apply BitVec.eq_of_getLsbD_eq
  intro i hi
  simp only [tr6Of, BitVec.getLsbD_and, BitVec.getLsbD_or, BitVec.getLsbD_append, getLsbD_bitAt]
  interval_cases i <;> simp
/-- Every answer of the action satisfies `P`. -/
def Act.Answers {α : Type} (P : α → Prop) (a : Act α) : Prop := ∀ ⦃s t : State⦄ ⦃x : α⦄, a s = .ok x t → P x
theorem Act.LegalFrom.afterAnswer {α β : Type} {v : ModeView} {P : α → Prop} {a : Act α} {f : α → Act β} (ha : a.KeepsMode)
    (hP : a.Answers P) (hf : ∀ x, P x → (f x).LegalFrom v) : (a >>= f).LegalFrom v := by
  intro s u y hs e
  obtain ⟨x, t, h1, h2⟩ := run_bind_ok_iff.1 e
  exact hf x (hP h1) ((ha.view h1).trans hs) h2
@[simp] theorem lookedUp_keepsMode (s : State) (hits : List Nat) : (lookedUp s hits).KeepsMode := by
  unfold lookedUp
  split
  · exact .bind (tlbEntryAt_keepsMode _ _) fun _ => .pure _
  · exact .pure _
theorem lookedUp_answers {s : State} (hs : s.test.tr6 &&& 0xA8#32 = 0#32) (hits : List Nat) :
    (lookedUp s hits).Answers fun t => t.tr6 &&& 0xA8#32 = 0#32 := by
  unfold lookedUp
  split
  · intro u t x e
    obtain ⟨y, w, -, h⟩ := run_bind_ok_iff.1 e
    cases h
    exact tr6Of_reserved _ _
  · intro u t x e
    cases e
    exact hs

section
variable {v : ModeView} (hv : v.Legal)
include hv

/-- The test registers replaced by ones whose TR6 is legal. -/
theorem setTest_legalFrom {f : State → TestRegs} (hf : ∀ s, (f s).tr6 &&& 0xA8#32 = 0#32) :
    (upd fun s => { s with test := f s }).LegalFrom v :=
  .upd fun s hs => by cases hs; exact hv.withTr6 (hf s)
theorem tlbReadL1_legalFrom : tlbReadL1.LegalFrom v :=
  .get fun _ _ => .after (tlbEntryAt_keepsMode _ _) fun _ => setTest_legalFrom hv fun _ => tr6Of_reserved _ _
theorem tlbReadL2_legalFrom : tlbReadL2.LegalFrom v := by
  refine .after accessedSet_keepsMode fun _ => .get fun s hs => .after (l2HitBits_keepsMode _) fun _ =>
    .after (tlbEntryAt_keepsMode _ _) fun _ => .afterAnswer (lookedUp_keepsMode _ _)
    (lookedUp_answers (by cases hs; exact hv.tr6Reserved) _) fun found hfound => .after drawBit_keepsMode fun b =>
    setTest_legalFrom hv fun _ => ?_
  cases b with
  | false => exact tr6Of_reserved _ _
  | true => exact hfound
theorem tlbTest_legalFrom : tlbTest.LegalFrom v := by
  refine .get fun s _ => ?_
  split
  · exact .of_keepsMode hv (.upd fun _ => rfl)
  · exact .of_keepsMode hv (.bind accessedSet_keepsMode fun _ => .upd fun _ => rfl)
  · exact tlbReadL1_legalFrom hv
  · exact tlbReadL1_legalFrom hv
  · exact tlbReadL2_legalFrom hv
  · exact tlbReadL2_legalFrom hv
  · exact .refuse _
end

/-! The cache test operations and cache maintenance (R176 to R182, R432, R433). -/

@[simp] theorem State.writeBackAll_modeView (s : State) (ls : List (Nat × CacheLine)) :
    (s.writeBackAll ls).modeView = s.modeView := by
  induction ls generalizing s with
  | nil => rfl
  | cons e rest ih =>
    obtain ⟨_, _, h⟩ := s.writeBackSector_eq e.1 0 e.2
    obtain ⟨_, _, h'⟩ := (s.writeBackSector e.1 0 e.2).writeBackSector_eq e.1 1 e.2
    refine (ih _).trans ?_
    rw [State.writeBackLine, h', h]
    rfl
@[simp] theorem State.cacheFlushKeep_modeView (s : State) : s.cacheFlushKeep.modeView = s.modeView :=
  s.writeBackAll_modeView _
@[simp] theorem State.cacheInvalidate_modeView (s : State) : s.cacheInvalidate.modeView = s.modeView := rfl
@[simp] theorem State.cacheFlush_modeView (s : State) : s.cacheFlush.modeView = s.modeView := s.writeBackAll_modeView _
@[simp] theorem drawWords_keepsMode (n : Nat) : (drawWords n).KeepsMode := by
  induction n with
  | zero => exact .pure _
  | succ m ih => exact .bind drawWord_keepsMode fun _ => .bind ih fun _ => .pure _
@[simp] theorem lineOf_keepsMode (k : Nat) : (lineOf k).KeepsMode := by
  refine .get fun s => ?_
  split
  · exact .pure _
  · exact .bind (drawWords_keepsMode _) fun _ => .pure _
@[simp] theorem cacheTestWrite_keepsMode : cacheTestWrite.KeepsMode :=
  .get fun _ => .checkRefuse <| .bind (lineOf_keepsMode _) fun _ => .get fun _ => .checkRefuse <| .checkRefuse <|
    .upd fun _ => rfl
@[simp] theorem unlistedLine_keepsMode (filled dirty : Bool) : (cacheTestRead.unlistedLine filled dirty).KeepsMode :=
  ⟨fun _ => rfl⟩
@[simp] theorem cacheTestRead_keepsMode : cacheTestRead.KeepsMode := by
  refine .get fun s => .bind drawWord_keepsMode fun _ => ?_
  dsimp only
  split
  · exact .bind (.pure _) fun _ => .upd fun _ => rfl
  · exact .bind (unlistedLine_keepsMode _ _) fun _ => .upd fun _ => rfl
@[simp] theorem cacheTest_keepsMode : cacheTest.KeepsMode := by
  refine .get fun s => ?_
  split
  · exact .upd State.cacheFlushKeep_modeView
  · exact cacheTestWrite_keepsMode
  · exact cacheTestRead_keepsMode
  · exact .pure _

/-! Moves to and from control, debug and test registers (R428 to R430). -/

/-- What follows the check of R420 runs at level 0, outside V86 mode. -/
theorem requireCpl0_legalFrom {α : Type} {v : ModeView} {f : Unit → Act α} (hv : v.Legal)
    (hf : v.cpl = 0#2 → v.vm = false → (f ()).LegalFrom v) : (requireCpl0 >>= f).LegalFrom v := by
  intro s t x hs e
  obtain ⟨⟨⟩, u, h1, h2⟩ := run_bind_ok_iff.1 e
  have hu : u = s ∧ s.unprivileged = false := by
    simp only [requireCpl0, run_bind, run_get, run_ite, run_raise, run_pure] at h1
    split at h1
    · cases h1
    · rename_i h
      cases h1
      exact ⟨rfl, Bool.eq_false_iff.2 h⟩
  obtain ⟨rfl, hpriv⟩ := hu
  have hlevel : v.cpl = 0#2 ∧ v.vm = false := by
    cases hs
    rcases hv.real with hpe | h
    · have hpe : u.pe = true := hpe
      have h : u.flags.vm = false ∧ u.cpl = 0#2 := by simpa [State.unprivileged, hpe] using hpriv
      exact h.symm
    · exact h
  exact hf hlevel.1 hlevel.2 hs h2
/-- Bits that are 0 in two words are 0 in a word merged from them. -/
theorem merge_and_eq_zero {x y b m : Word} (hx : x &&& m = 0#32) (hy : y &&& m = 0#32) :
    ((x &&& ~~~b) ||| (y &&& b)) &&& m = 0#32 := by
  have hx' : m &&& x = 0#32 := BitVec.and_comm m x ▸ hx
  have hy' : m &&& y = 0#32 := BitVec.and_comm m y ▸ hy
  rw [BitVec.and_comm, BitVec.and_or_distrib_left, ← BitVec.and_assoc, ← BitVec.and_assoc, hx', hy']
  simp
theorem State.cr0Written_reserved {s : State} {w : Word} (hs : s.cr0 &&& ~~~cr0Mask = 0#32) (hw : w &&& ~~~cr0Mask = 0#32) :
    s.cr0Written w &&& ~~~cr0Mask = 0#32 := by
  unfold State.cr0Written
  split
  · exact merge_and_eq_zero hw hs
  · exact hw
/-- All bits but NW are as written (R37). -/
theorem State.cr0Written_getLsbD (s : State) (w : Word) {i : Nat} (hi : i < 32) (h : i ≠ 29) :
    (s.cr0Written w).getLsbD i = w.getLsbD i := by
  unfold State.cr0Written
  split
  · simp only [BitVec.getLsbD_or, BitVec.getLsbD_and, BitVec.getLsbD_not, getLsbD_bitAt, h, hi]
    simp
  · rfl

section
variable {v : ModeView} (hv : v.Legal) (hcpl : v.cpl = 0#2) (hvm : v.vm = false)
include hv hcpl hvm

/-- At level 0, outside V86 mode, CR0 may take any value that the checks let pass. -/
theorem writeCr0_legalFrom (w : Word) : (writeCr0 w).LegalFrom v := by
  refine .checkRefuse fun hres => .check fun hpg => .upd fun s hs => ?_
  have hres : w &&& ~~~cr0Mask = 0#32 ∧ w.getLsbD 4 = true := by simpa using hres
  have hpg : w.getLsbD 31 = true → w.getLsbD 0 = true := by simpa using hpg
  cases hs
  refine ⟨⟨.inr ⟨hcpl, hvm⟩, hv.v86, State.cr0Written_reserved hv.cr0Reserved hres.1, ?_, ?_, hv.cr4Reserved,
    hv.tr6Reserved⟩, rfl⟩
  · exact (s.cr0Written_getLsbD w (by decide) (by decide)).trans hres.2
  · intro h
    refine (s.cr0Written_getLsbD w (by decide) (by decide)).trans (hpg ?_)
    exact (s.cr0Written_getLsbD w (by decide) (by decide)).symm.trans h
omit hcpl hvm in
theorem writeCr4_legalFrom (w : Word) : (writeCr4 w).LegalFrom v := by
  refine .checkRefuse fun hres => .upd fun s hs => ?_
  have hres : w &&& ~~~cr4Mask = 0#32 := by simpa using hres
  cases hs
  exact ⟨⟨hv.real, hv.v86, hv.cr0Reserved, hv.cr0Bit4, hv.paging, hres, hv.tr6Reserved⟩, rfl⟩
theorem writeCr_legalFrom (n : Nat) (w : Word) : (writeCr n w).LegalFrom v := by
  unfold writeCr
  split
  · exact writeCr0_legalFrom hv hcpl hvm w
  · exact .of_keepsMode hv (.upd fun _ => rfl)
  · exact .of_keepsMode hv (.upd fun _ => rfl)
  · exact writeCr4_legalFrom hv w
  · exact .raise _
end

@[simp] theorem readCr_keepsMode (n : Nat) : (readCr n).KeepsMode := by
  refine .get fun s => ?_
  split
  · exact .pure _
  · exact .pure _
  · exact .pure _
  · exact .pure _
  · exact .raise _
@[simp] theorem debugMoveCheck_keepsMode (n : Bits3) : (debugMoveCheck n).KeepsMode :=
  .bind requireCpl0_keepsMode fun _ => .checkRefuse <| .get fun _ => .ite (.raise _) (.pure _)
/-- A test register takes a value: of TR6 bits 7, 5 and 3 stay 0 (R226). -/
theorem writeTr_legalFrom {v : ModeView} (hv : v.Legal) (n : Nat) (w : Word) : (writeTr n w).LegalFrom v := by
  unfold writeTr
  split
  · exact .of_keepsMode hv (.upd fun _ => rfl)
  · exact .of_keepsMode hv (.upd fun _ => rfl)
  · exact .of_keepsMode hv (.bind (.upd fun _ => rfl) fun _ => cacheTest_keepsMode)
  · refine .bind (setTest_legalFrom hv fun _ => ?_) fun _ _ hw => tlbTest_legalFrom hw.1
    rw [BitVec.and_assoc]
    exact BitVec.and_zero
  · exact .of_keepsMode hv (.upd fun _ => rfl)

/-! Counters, model specific registers and flags (R435 to R443). -/

@[simp] theorem setEdxEax_keepsMode (hi lo : Word) : (setEdxEax hi lo).KeepsMode := ⟨fun _ => rfl⟩
@[simp] theorem readMsr_keepsMode (i : Nat) : (readMsr i).KeepsMode := by
  refine .get fun s => ?_
  split
  · exact ⟨fun _ => rfl⟩
  · exact ⟨fun _ => rfl⟩
  · exact ⟨fun _ => rfl⟩
  · exact .pure _
  · exact .pure _
  · exact ⟨fun _ => rfl⟩
  · exact ⟨fun _ => rfl⟩
  · exact .raise _
theorem writeMsr_legalFrom {v : ModeView} (hv : v.Legal) (i : Nat) (hi lo : Word) : (writeMsr i hi lo).LegalFrom v := by
  unfold writeMsr
  split
  · exact writeTr_legalFrom hv _ _
  · exact writeTr_legalFrom hv _ _
  · exact writeTr_legalFrom hv _ _
  · exact .of_keepsMode hv (.upd fun _ => rfl)
  · exact .of_keepsMode hv (.upd fun _ => rfl)
  · exact .of_keepsMode hv (.upd fun _ => rfl)
  · exact .of_keepsMode hv (.upd fun _ => rfl)
  · exact .raise _
@[simp] theorem ifSensitive_keepsMode : ifSensitive.KeepsMode := .get fun _ => .check v86Sensitive_keepsMode

/-! System Management Mode (R460 to R471, R549 to R577). -/

@[simp] theorem smmInsn_keepsMode : smmInsn.KeepsMode := .get fun _ => .ite (.raise _) (.pure _)
@[simp] theorem savePack_keepsMode (m : Mem) (g : Seg) : (savePack m g).KeepsMode :=
  .bind (locateMem_keepsMode _ _ _ _) fun _ => .get fun _ => physWrite_keepsMode _ _
@[simp] theorem loadPack_keepsMode (m : Mem) : (loadPack m).KeepsMode :=
  .bind (locateMem_keepsMode _ _ _ _) fun _ => .bind (physRead_keepsMode _) fun _ => .get fun _ => .pure _
@[simp] theorem ioFields_keepsMode (r : Option IoRecord) : (ioFields r).KeepsMode := by
  refine .bind drawBit_keepsMode fun _ => .bind drawBit_keepsMode fun _ => .bind drawWord_keepsMode fun _ =>
    .bind drawWord_keepsMode fun _ => .bind drawWord_keepsMode fun _ => ?_
  split
  · exact .pure _
  · split <;> exact .pure _
@[simp] theorem headerRows_keepsMode (s : State) (smint nested halted : Bool) (curIp nextIp : Word) (io : Option IoRecord) :
    (headerRows s smint nested halted curIp nextIp io).KeepsMode :=
  .bind (ioFields_keepsMode _) fun _ => .ite
    (.bind drawBit_keepsMode fun _ => .bind drawWord_keepsMode fun _ => .bind drawWord16_keepsMode fun _ => .pure _)
    (.bind (.pure _) fun _ => .bind drawWord_keepsMode fun _ => .bind drawWord16_keepsMode fun _ => .pure _)
@[simp] theorem writeRows_keepsMode (a : Word) (rows : List Word) : (writeRows a rows).KeepsMode := by
  induction rows generalizing a with
  | nil => exact .pure _
  | cons w rest ih => exact .bind (physWriteN_keepsMode _ _ _) fun _ => ih _
@[simp] theorem readRows_keepsMode (a : Word) (n : Nat) : (readRows a n).KeepsMode := by
  induction n generalizing a with
  | zero => exact .pure _
  | succ m ih => exact .bind (physReadN_keepsMode _ _) fun _ => .bind (ih _) fun _ => .pure _
/-- The mode view of a state at level 0 of real mode with CR0 as after reset (R555, R641). -/
def ModeView.realStart (v : ModeView) (cr4 : Word) : ModeView :=
  { v with cr0 := 0x60000010#32, cr4 := cr4, cpl := 0#2, vm := false }
/-- The value is one that the rules for CR0 allow (R36, R37). -/
theorem resetCr0_legal : (0x60000010#32 : Word) &&& ~~~cr0Mask = 0#32 ∧ (0x60000010#32 : Word).getLsbD 4 = true ∧
    ((0x60000010#32 : Word).getLsbD 31 = true → (0x60000010#32 : Word).getLsbD 0 = true) := by decide
theorem ModeView.Legal.realStart {v : ModeView} (hv : v.Legal) {cr4 : Word} (h : cr4 &&& ~~~cr4Mask = 0#32) :
    v.Next (v.realStart cr4) := by
  obtain ⟨hres, h4, hpg⟩ := resetCr0_legal
  exact ⟨⟨.inr ⟨rfl, rfl⟩, (fun hvm => nomatch hvm), hres, h4, hpg, h, hv.tr6Reserved⟩, rfl⟩
/-- The service routine starts in real mode (R555). -/
theorem enterSmm_legalFrom {v : ModeView} (hv : v.Legal) (smint : Bool) (curIp nextIp : Word) (io : Option IoRecord) :
    (enterSmm smint curIp nextIp io).LegalFrom v :=
  .get fun _ _ => .after (.upd fun _ => rfl) fun _ => .after (headerRows_keepsMode _ _ _ _ _ _ _) fun _ => .get fun _ _ =>
    .after (writeRows_keepsMode _ _) fun _ => .upd fun s hs => by cases hs; exact hv.realStart hv.cr4Reserved
/-- Level and V86 flag of a header that RSM accepts agree with its CR0 image. -/
theorem Header.mode_of_ok {h : Header} (hflags : h.flagsOk = true) (hcs : h.csOk = true) :
    (h.cr0.getLsbD 0 = true ∨ h.cpl = 0#2 ∧ h.eflags.getLsbD 17 = false) ∧ (h.eflags.getLsbD 17 = true → h.cpl = 3#2) := by
  have hvm : h.eflags.getLsbD 17 = true → h.cr0.getLsbD 0 = true := by
    intro h17
    simp only [Header.flagsOk, h17, Bool.and_eq_true] at hflags
    simpa using hflags.2
  simp only [Header.csOk] at hcs
  by_cases h17 : h.eflags.getLsbD 17 = true
  · rw [if_pos h17, Bool.and_eq_true, beq_iff_eq] at hcs
    exact ⟨.inl (hvm h17), fun _ => hcs.1⟩
  rw [if_neg h17] at hcs
  refine ⟨?_, fun h => absurd h h17⟩
  by_cases hcpl : h.cpl = 0#2
  · exact .inr ⟨hcpl, Bool.eq_false_iff.2 h17⟩
  · rw [if_neg (by simpa using hcpl)] at hcs
    simp only [Bool.and_eq_true] at hcs
    exact .inl hcs.1.1.1.1.1
/-- The view that a header restores. -/
def ModeView.restored (v : ModeView) (h : Header) : ModeView :=
  { v with cr0 := h.cr0, cpl := h.cpl, vm := h.eflags.getLsbD 17 }
theorem ModeView.Legal.restored {v : ModeView} (hv : v.Legal) {h : Header} (hok : h.ok = true) : v.Next (v.restored h) := by
  simp only [Header.ok, Bool.and_eq_true] at hok
  obtain ⟨⟨hcr0, hflags⟩, hcs⟩ := hok
  obtain ⟨hreal, h86⟩ := Header.mode_of_ok hflags hcs
  simp only [Header.cr0Ok, Bool.and_eq_true, beq_iff_eq] at hcr0
  obtain ⟨⟨hres, h4⟩, hpg⟩ := hcr0
  exact ⟨⟨hreal, h86, hres, h4, (not_or_eq_true_iff _ _).1 hpg, hv.cr4Reserved, hv.tr6Reserved⟩, rfl⟩
/-- RSM restores a legal view: the header is checked (R565, D15). -/
theorem exitSmm_legalFrom {v : ModeView} (hv : v.Legal) : exitSmm.LegalFrom v :=
  .get fun _ _ => .after (readRows_keepsMode _ _) fun _ => .get fun _ _ => .checkRefuse fun hok => .upd fun s hs => by
    rw [Bool.not_eq_true', Bool.not_eq_false] at hok
    cases hs
    exact hv.restored hok

end Sys2Proof.Machine
end

section
/-! SUPPORT. Every instruction leads from a legal view to a legal view: first those whose meaning is written out in their own
definition, then all of them. -/
namespace Sys2Proof.Machine
open Sys2Proof

section
variable {v : ModeView} (hv : v.Legal) {s : State} (hs : s.modeView = v)
include hv hs

/-! Arithmetic (R295 to R300). -/

theorem execXaddEbGb_legal (d : RM8) (r : Reg8) : legalOutcome v (execXaddEbGb d r s) :=
  runInstr_legal_of_keepsMode hv hs <| .bind (locate8_keepsMode _ _) fun _ => .bind (readPlace_keepsMode _ _) fun _ =>
    .bind (getReg8_keepsMode _) fun _ => .bind (addA_keepsMode _ _) fun _ => .bind (setReg8_keepsMode _ _) fun _ =>
    writePlace_keepsMode _ _
theorem execXaddEvGv_legal (sz : OSize) (d : RMv) (r : Reg) : legalOutcome v (execXaddEvGv sz d r s) :=
  runInstr_legal_of_keepsMode hv hs <| .bind (locateV_keepsMode _ _ _) fun _ => .bind (readPlace_keepsMode _ _) fun _ =>
    .bind (getRegV_keepsMode _ _) fun _ => .bind (addA_keepsMode _ _) fun _ => .bind (setRegN_keepsMode _ _) fun _ =>
    writePlace_keepsMode _ _
theorem execCmpxchgEbGb_legal (d : RM8) (r : Reg8) : legalOutcome v (execCmpxchgEbGb d r s) :=
  runInstr_legal_of_keepsMode hv hs <| .bind (locate8_keepsMode _ _) fun _ => .bind (readPlace_keepsMode _ _) fun _ =>
    .bind (getReg8_keepsMode _) fun _ => .bind (subA_keepsMode _ _) fun _ => .ite
    (.bind (getReg8_keepsMode _) fun _ => writePlace_keepsMode _ _)
    (.bind (writePlace_keepsMode _ _) fun _ => setReg8_keepsMode _ _)
theorem execCmpxchgEvGv_legal (sz : OSize) (d : RMv) (r : Reg) : legalOutcome v (execCmpxchgEvGv sz d r s) :=
  runInstr_legal_of_keepsMode hv hs <| .bind (locateV_keepsMode _ _ _) fun _ => .bind (readPlace_keepsMode _ _) fun _ =>
    .bind (getRegV_keepsMode _ _) fun _ => .bind (subA_keepsMode _ _) fun _ => .ite
    (.bind (getRegV_keepsMode _ _) fun _ => writePlace_keepsMode _ _)
    (.bind (writePlace_keepsMode _ _) fun _ => setRegN_keepsMode _ _)
theorem execMulEb_legal (d : RM8) : legalOutcome v (execMulEb d s) :=
  runInstr_legal_of_keepsMode hv hs <| .bind (readRM8_keepsMode _) fun _ => .bind (getReg8_keepsMode _) fun _ =>
    .bind (setRegN_keepsMode _ _) fun _ => mulFlagsA_keepsMode _
theorem execMulEv_legal (sz : OSize) (d : RMv) : legalOutcome v (execMulEv sz d s) :=
  runInstr_legal_of_keepsMode hv hs <| .bind (readRMv_keepsMode _ _) fun _ => .bind (getRegV_keepsMode _ _) fun _ =>
    .bind (setProduct_keepsMode _) fun _ => mulFlagsA_keepsMode _
theorem execImulEb_legal (d : RM8) : legalOutcome v (execImulEb d s) :=
  runInstr_legal_of_keepsMode hv hs <| .bind (readRM8_keepsMode _) fun _ => .bind (getReg8_keepsMode _) fun _ =>
    .bind (setRegN_keepsMode _ _) fun _ => mulFlagsA_keepsMode _
theorem execImulEv_legal (sz : OSize) (d : RMv) : legalOutcome v (execImulEv sz d s) :=
  runInstr_legal_of_keepsMode hv hs <| .bind (readRMv_keepsMode _ _) fun _ => .bind (getRegV_keepsMode _ _) fun _ =>
    .bind (setProduct_keepsMode _) fun _ => mulFlagsA_keepsMode _
theorem execDivEb_legal (d : RM8) : legalOutcome v (execDivEb d s) :=
  runInstr_legal_of_keepsMode hv hs <| .bind (readRM8_keepsMode _) fun _ => .bind getAx_keepsMode fun _ =>
    setDiv8_keepsMode _
theorem execDivEv_legal (sz : OSize) (d : RMv) : legalOutcome v (execDivEv sz d s) :=
  runInstr_legal_of_keepsMode hv hs <| .bind (readRMv_keepsMode _ _) fun _ => .bind (getDividend_keepsMode _) fun _ =>
    setDivV_keepsMode _
theorem execIdivEb_legal (d : RM8) : legalOutcome v (execIdivEb d s) :=
  runInstr_legal_of_keepsMode hv hs <| .bind (readRM8_keepsMode _) fun _ => .bind getAx_keepsMode fun _ =>
    setDiv8_keepsMode _
theorem execIdivEv_legal (sz : OSize) (d : RMv) : legalOutcome v (execIdivEv sz d s) :=
  runInstr_legal_of_keepsMode hv hs <| .bind (readRMv_keepsMode _ _) fun _ => .bind (getDividend_keepsMode _) fun _ =>
    setDivV_keepsMode _

/-! Data transfer and the stack (R361 to R374). -/

theorem execMovEbGb_legal (d : RM8) (r : Reg8) : legalOutcome v (execMovEbGb d r s) :=
  runInstr_legal_of_keepsMode hv hs <| .bind (getReg8_keepsMode _) fun _ => writeRM8_keepsMode _ _
theorem execMovEvGv_legal (sz : OSize) (d : RMv) (r : Reg) : legalOutcome v (execMovEvGv sz d r s) :=
  runInstr_legal_of_keepsMode hv hs <| .bind (getRegV_keepsMode _ _) fun _ => writeRMv_keepsMode _ _ _
theorem execMovGbEb_legal (d : Reg8) (e : RM8) : legalOutcome v (execMovGbEb d e s) :=
  runInstr_legal_of_keepsMode hv hs <| .bind (readRM8_keepsMode _) fun _ => setReg8_keepsMode _ _
theorem execMovGvEv_legal (sz : OSize) (d : Reg) (e : RMv) : legalOutcome v (execMovGvEv sz d e s) :=
  runInstr_legal_of_keepsMode hv hs <| .bind (readRMv_keepsMode _ _) fun _ => setRegN_keepsMode _ _
theorem execMovAlOb_legal (o : Moffs) : legalOutcome v (execMovAlOb o s) :=
  runInstr_legal_of_keepsMode hv hs <| .bind (locateMoffs_keepsMode _ _ _) fun _ => .bind (readPlace_keepsMode _ _) fun _ =>
    setReg8_keepsMode _ _
theorem execMovAxOv_legal (sz : OSize) (o : Moffs) : legalOutcome v (execMovAxOv sz o s) :=
  runInstr_legal_of_keepsMode hv hs <| .bind (locateMoffs_keepsMode _ _ _) fun _ => .bind (readPlace_keepsMode _ _) fun _ =>
    setRegN_keepsMode _ _
theorem execMovObAl_legal (o : Moffs) : legalOutcome v (execMovObAl o s) :=
  runInstr_legal_of_keepsMode hv hs <| .bind (locateMoffs_keepsMode _ _ _) fun _ => .bind (getReg8_keepsMode _) fun _ =>
    writePlace_keepsMode _ _
theorem execMovOvAx_legal (sz : OSize) (o : Moffs) : legalOutcome v (execMovOvAx sz o s) :=
  runInstr_legal_of_keepsMode hv hs <| .bind (locateMoffs_keepsMode _ _ _) fun _ => .bind (getRegV_keepsMode _ _) fun _ =>
    writePlace_keepsMode _ _
theorem execMovEwSw_legal (sz : OSize) (d : RMv) (r : SegReg) : legalOutcome v (execMovEwSw sz d r s) :=
  runInstr_legal_of_keepsMode hv hs <| .get fun _ => storeSel_keepsMode _ _ _
theorem execMovSwEw_legal (d : SegReg) (e : RMv) : legalOutcome v (execMovSwEw d e s) :=
  runInstr_legal_of_keepsMode hv hs <| .bind (readRM16_keepsMode _) fun _ => .bind (loadSeg_keepsMode _ _) fun _ =>
    shadowIfSs_keepsMode _
theorem execPushR_legal (sz : OSize) (r : Reg) : legalOutcome v (execPushR sz r s) :=
  runInstr_legal_of_keepsMode hv hs <| .bind (getReg_keepsMode _) fun _ => push_keepsMode _ _
theorem execPushEv_legal (sz : OSize) (d : RMv) : legalOutcome v (execPushEv sz d s) :=
  runInstr_legal_of_keepsMode hv hs <| .get fun _ => .bind (before_keepsMode _ (readRMv_keepsMode _ _)) fun _ =>
    push_keepsMode _ _
theorem execPopR_legal (sz : OSize) (r : Reg) : legalOutcome v (execPopR sz r s) :=
  runInstr_legal_of_keepsMode hv hs <| .bind (pop_keepsMode _) fun _ => setRegN_keepsMode _ _
theorem execPopEv_legal (sz : OSize) (d : RMv) : legalOutcome v (execPopEv sz d s) :=
  runInstr_legal_of_keepsMode hv hs <| .get fun _ => .bind (before_keepsMode _ (peekStack_keepsMode _ _)) fun _ =>
    .bind (dropStack_keepsMode _ _ _) fun _ => writeRMv_keepsMode _ _ _
theorem execPusha_legal (sz : OSize) : legalOutcome v (execPusha sz s) :=
  runInstr_legal_of_keepsMode hv hs <| .get fun _ => pushMany_keepsMode _ _
theorem execPopa_legal (sz : OSize) : legalOutcome v (execPopa sz s) :=
  runInstr_legal_of_keepsMode hv hs <| .bind (peekItem_keepsMode _ _ _) fun _ => .bind (peekItem_keepsMode _ _ _) fun _ =>
    .bind (peekItem_keepsMode _ _ _) fun _ => .bind (peekItem_keepsMode _ _ _) fun _ => .bind (peekItem_keepsMode _ _ _)
    fun _ => .bind (peekItem_keepsMode _ _ _) fun _ => .bind (peekItem_keepsMode _ _ _) fun _ =>
    .bind (peekItem_keepsMode _ _ _) fun _ => .bind (dropStack_keepsMode _ _ _) fun _ => .bind (setRegN_keepsMode _ _)
    fun _ => .bind (setRegN_keepsMode _ _) fun _ => .bind (setRegN_keepsMode _ _) fun _ => .bind (setRegN_keepsMode _ _)
    fun _ => .bind (setRegN_keepsMode _ _) fun _ => .bind (setRegN_keepsMode _ _) fun _ => setRegN_keepsMode _ _
theorem execPushf_legal (sz : OSize) : legalOutcome v (execPushf sz s) :=
  runInstr_legal_of_keepsMode hv hs <| .bind v86Sensitive_keepsMode fun _ => .bind getFlags_keepsMode fun _ =>
    push_keepsMode _ _
theorem execPopf_legal (sz : OSize) : legalOutcome v (execPopf sz s) :=
  runInstr_legal_of_keepsMode hv hs <| .bind v86Sensitive_keepsMode fun _ => .bind (pop_keepsMode _) fun _ =>
    writeFlags_popf_keepsMode _ _
theorem execXchgEbGb_legal (d : RM8) (r : Reg8) : legalOutcome v (execXchgEbGb d r s) :=
  runInstr_legal_of_keepsMode hv hs <| .bind (locate8_keepsMode _ _) fun _ => .get fun _ =>
    .bind (readPlace_keepsMode _ _) fun _ => .bind (getReg8_keepsMode _) fun _ => .bind (writePlace_keepsMode _ _) fun _ =>
    setReg8_keepsMode _ _
theorem execXchgEvGv_legal (sz : OSize) (d : RMv) (r : Reg) : legalOutcome v (execXchgEvGv sz d r s) :=
  runInstr_legal_of_keepsMode hv hs <| .bind (locateV_keepsMode _ _ _) fun _ => .get fun _ =>
    .bind (readPlace_keepsMode _ _) fun _ => .bind (getRegV_keepsMode _ _) fun _ => .bind (writePlace_keepsMode _ _) fun _ =>
    setRegN_keepsMode _ _
theorem execXchgAx_legal (sz : OSize) (r : Reg) : legalOutcome v (execXchgAx sz r s) :=
  runInstr_legal_of_keepsMode hv hs <| .bind (getRegV_keepsMode _ _) fun _ => .bind (getRegV_keepsMode _ _) fun _ =>
    .bind (setRegN_keepsMode _ _) fun _ => setRegN_keepsMode _ _
theorem execXlat_legal (az : ASize) : legalOutcome v (execXlat az s) :=
  runInstr_legal_of_keepsMode hv hs <| .get fun _ => .bind (memRead_keepsMode _ _ _ _) fun _ => setReg8_keepsMode _ _

/-! Control transfer (R333 to R344). -/

theorem execJmpRel8_legal (sz : OSize) (d : Byte) : legalOutcome v (execJmpRel8 sz d s) :=
  runInstr_legal_of_keepsMode hv hs <| .bind (relTarget_keepsMode _) fun _ => jumpNear_keepsMode _ _
theorem execJmpRel_legal (d : Imm) : legalOutcome v (execJmpRel d s) :=
  runInstr_legal_of_keepsMode hv hs <| .bind (relTarget_keepsMode _) fun _ => jumpNear_keepsMode _ _
theorem execJmpEv_legal (sz : OSize) (d : RMv) : legalOutcome v (execJmpEv sz d s) :=
  runInstr_legal_of_keepsMode hv hs <| .bind (readRMv_keepsMode _ _) fun _ => jumpNear_keepsMode _ _
theorem execJmpMp_legal (sz : OSize) (m : Mem) : legalOutcome v (execJmpMp sz m s) :=
  runInstr_legal_of_keepsMode hv hs <| .bind (readFarPtr_keepsMode _ _ _) fun _ => jumpFar_keepsMode _ _
theorem execCallRel_legal (d : Imm) : legalOutcome v (execCallRel d s) :=
  runInstr_legal_of_keepsMode hv hs <| .bind (relTarget_keepsMode _) fun _ => callNear_keepsMode _ _
theorem execCallEv_legal (sz : OSize) (d : RMv) : legalOutcome v (execCallEv sz d s) :=
  runInstr_legal_of_keepsMode hv hs <| .get fun _ => .bind (before_keepsMode _ (readRMv_keepsMode _ _)) fun _ =>
    callNear_keepsMode _ _
theorem execCallMp_legal (sz : OSize) (m : Mem) : legalOutcome v (execCallMp sz m s) :=
  runInstr_legal_of_keepsMode hv hs <| .get fun _ => .bind (readFarPtr_keepsMode _ _ _) fun _ => callFar_keepsMode _ _ _
theorem execIntN_legal (n : Byte) : legalOutcome v (execIntN n s) :=
  runInstr_legal hv hs <| .after v86Sensitive_keepsMode fun _ => softInt_legalFrom hv n
theorem execInto_legal : legalOutcome v (execInto s) :=
  runInstr_legal hv hs <| .after getFlags_keepsMode fun _ => .ite (fun _ => softInt_legalFrom hv _)
    fun _ => .of_keepsMode hv (.pure _)
theorem execBound_legal (sz : OSize) (r : Reg) (m : Mem) : legalOutcome v (execBound sz r m s) :=
  runInstr_legal_of_keepsMode hv hs <| .get fun _ => .bind (before_keepsMode _ (memRead_keepsMode _ _ _ _)) fun _ =>
    .bind (memRead_keepsMode _ _ _ _) fun _ => .bind (getRegV_keepsMode _ _) fun _ => .ite (.raise _) (.pure _)

/-! Floating point and MMX (R401, R413 to R415). -/

theorem execEsc_legal (op ext : Bits3) (rm : RMmm) : legalOutcome v (execEsc op ext rm s) :=
  runInstr_legal_of_keepsMode hv hs <| .bind escAvailable_keepsMode fun _ => .ite
    (.bind pendingError_keepsMode fun _ => .refuse _) (.refuse _)
theorem execEmms_legal : legalOutcome v (execEmms s) :=
  runInstr_legal_of_keepsMode hv hs <| .bind mmxAvailable_keepsMode fun _ => mmxDone_keepsMode _
theorem execMovdPE_legal (d : MmReg) (e : RMv) : legalOutcome v (execMovdPE d e s) :=
  runInstr_legal_of_keepsMode hv hs <| .bind mmxAvailable_keepsMode fun _ => .bind (readRM32_keepsMode _) fun _ =>
    .bind (setMm_keepsMode _ _) fun _ => mmxDone_keepsMode _
theorem execMovdEP_legal (d : RMv) (r : MmReg) : legalOutcome v (execMovdEP d r s) :=
  runInstr_legal_of_keepsMode hv hs <| .bind mmxAvailable_keepsMode fun _ => .bind (locateN_keepsMode _ _ _) fun _ =>
    .bind (getMm_keepsMode _) fun _ => .bind (writePlace_keepsMode _ _) fun _ => mmxDone_keepsMode _
theorem execMovqPQ_legal (d : MmReg) (e : RMmm) : legalOutcome v (execMovqPQ d e s) :=
  runInstr_legal_of_keepsMode hv hs <| .bind mmxAvailable_keepsMode fun _ => .bind (readMm64_keepsMode _) fun _ =>
    .bind (setMm_keepsMode _ _) fun _ => mmxDone_keepsMode _
theorem execMovqQP_legal (d : RMmm) (r : MmReg) : legalOutcome v (execMovqQP d r s) :=
  runInstr_legal_of_keepsMode hv hs <| .bind mmxAvailable_keepsMode fun _ => .bind (getMm_keepsMode _) fun _ =>
    .bind (writeMm64_keepsMode _ _) fun _ => mmxDone_keepsMode _

/-! Input and output (R381, R382). -/

theorem execInAlIb_legal (p : Byte) : legalOutcome v (execInAlIb p s) :=
  runInstr_legal_of_keepsMode hv hs <| .bind (inPort_keepsMode _ _) fun _ => setReg8_keepsMode _ _
theorem execInAxIb_legal (sz : OSize) (p : Byte) : legalOutcome v (execInAxIb sz p s) :=
  runInstr_legal_of_keepsMode hv hs <| .bind (inPort_keepsMode _ _) fun _ => setRegN_keepsMode _ _
theorem execOutIbAl_legal (p : Byte) : legalOutcome v (execOutIbAl p s) :=
  runInstr_legal_of_keepsMode hv hs <| .bind (getReg8_keepsMode _) fun _ => outPort_keepsMode _ _ _
theorem execOutIbAx_legal (sz : OSize) (p : Byte) : legalOutcome v (execOutIbAx sz p s) :=
  runInstr_legal_of_keepsMode hv hs <| .bind (getReg_keepsMode _) fun _ => outPort_keepsMode _ _ _
theorem execInAlDx_legal : legalOutcome v (execInAlDx s) :=
  runInstr_legal_of_keepsMode hv hs <| .bind portDx_keepsMode fun _ => .bind (inPort_keepsMode _ _) fun _ =>
    setReg8_keepsMode _ _
theorem execInAxDx_legal (sz : OSize) : legalOutcome v (execInAxDx sz s) :=
  runInstr_legal_of_keepsMode hv hs <| .bind portDx_keepsMode fun _ => .bind (inPort_keepsMode _ _) fun _ =>
    setRegN_keepsMode _ _
theorem execOutDxAl_legal : legalOutcome v (execOutDxAl s) :=
  runInstr_legal_of_keepsMode hv hs <| .bind portDx_keepsMode fun _ => .bind (getReg8_keepsMode _) fun _ =>
    outPort_keepsMode _ _ _
theorem execOutDxAx_legal (sz : OSize) : legalOutcome v (execOutDxAx sz s) :=
  runInstr_legal_of_keepsMode hv hs <| .bind portDx_keepsMode fun _ => .bind (getReg_keepsMode _) fun _ =>
    outPort_keepsMode _ _ _

/-! System instructions (R421 to R443). -/

theorem execLgdt_legal (sz : OSize) (m : Mem) : legalOutcome v (execLgdt sz m s) :=
  runInstr_legal_of_keepsMode hv hs <| .bind requireCpl0_keepsMode fun _ => .bind (readTableReg_keepsMode _ _) fun _ =>
    .upd fun _ => rfl
theorem execLidt_legal (sz : OSize) (m : Mem) : legalOutcome v (execLidt sz m s) :=
  runInstr_legal_of_keepsMode hv hs <| .bind requireCpl0_keepsMode fun _ => .bind (readTableReg_keepsMode _ _) fun _ =>
    .upd fun _ => rfl
theorem execSgdt_legal (sz : OSize) (m : Mem) : legalOutcome v (execSgdt sz m s) :=
  runInstr_legal_of_keepsMode hv hs <| .get fun _ => storeTableReg_keepsMode _ _ _
theorem execSidt_legal (sz : OSize) (m : Mem) : legalOutcome v (execSidt sz m s) :=
  runInstr_legal_of_keepsMode hv hs <| .get fun _ => storeTableReg_keepsMode _ _ _
theorem execLldt_legal (e : RMv) : legalOutcome v (execLldt e s) :=
  runInstr_legal_of_keepsMode hv hs <| .bind protectedOnly_keepsMode fun _ => .bind requireCpl0_keepsMode fun _ =>
    .bind (readRM16_keepsMode _) fun _ => .ite (.upd fun _ => rfl) <| .bind (systemDesc_keepsMode _ _) fun ⟨_, _⟩ =>
    .upd fun _ => rfl
theorem execSldt_legal (sz : OSize) (d : RMv) : legalOutcome v (execSldt sz d s) :=
  runInstr_legal_of_keepsMode hv hs <| .bind protectedOnly_keepsMode fun _ => .get fun _ => storeSel_keepsMode _ _ _
theorem execLtr_legal (e : RMv) : legalOutcome v (execLtr e s) :=
  runInstr_legal_of_keepsMode hv hs <| .bind protectedOnly_keepsMode fun _ => .bind requireCpl0_keepsMode fun _ =>
    .bind (readRM16_keepsMode _) fun _ => .check <| .bind (systemDesc_keepsMode _ _) fun ⟨_, _⟩ =>
    .bind (linWrite_keepsMode _ _ _) fun _ => .upd fun _ => rfl
theorem execStr_legal (sz : OSize) (d : RMv) : legalOutcome v (execStr sz d s) :=
  runInstr_legal_of_keepsMode hv hs <| .bind protectedOnly_keepsMode fun _ => .get fun _ => storeSel_keepsMode _ _ _
theorem execInvlpg_legal (m : Mem) : legalOutcome v (execInvlpg m s) :=
  runInstr_legal_of_keepsMode hv hs <| .bind requireCpl0_keepsMode fun _ => .upd fun _ => rfl
theorem execInvd_legal : legalOutcome v (execInvd s) :=
  runInstr_legal_of_keepsMode hv hs <| .bind requireCpl0_keepsMode fun _ => .get fun _ => .checkRefuse <|
    .upd State.cacheInvalidate_modeView
theorem execWbinvd_legal : legalOutcome v (execWbinvd s) :=
  runInstr_legal_of_keepsMode hv hs <| .bind requireCpl0_keepsMode fun _ => .upd State.cacheFlush_modeView
theorem execMovRCr_legal (r : Reg) (n : Bits3) : legalOutcome v (execMovRCr r n s) :=
  runInstr_legal_of_keepsMode hv hs <| .bind requireCpl0_keepsMode fun _ => .bind (readCr_keepsMode _) fun _ =>
    .bind (setReg_keepsMode _ _) fun _ => freeFlagsA_keepsMode
theorem execMovCrR_legal (n : Bits3) (r : Reg) : legalOutcome v (execMovCrR n r s) :=
  runInstr_legal hv hs <| requireCpl0_legalFrom hv fun hcpl hvm => .after (getReg_keepsMode _) fun _ =>
    .andThen (writeCr_legalFrom hv hcpl hvm _ _) fun _ => freeFlagsA_keepsMode
theorem execMovRDr_legal (r : Reg) (n : Bits3) : legalOutcome v (execMovRDr r n s) :=
  runInstr_legal_of_keepsMode hv hs <| .bind (debugMoveCheck_keepsMode _) fun _ => .get fun _ =>
    .bind (setReg_keepsMode _ _) fun _ => freeFlagsA_keepsMode
theorem execMovDrR_legal (n : Bits3) (r : Reg) : legalOutcome v (execMovDrR n r s) :=
  runInstr_legal_of_keepsMode hv hs <| .bind (debugMoveCheck_keepsMode _) fun _ => .bind (getReg_keepsMode _) fun _ =>
    .bind (.upd fun _ => rfl) fun _ => freeFlagsA_keepsMode
theorem execMovRTr_legal (r : Reg) (n : Bits3) : legalOutcome v (execMovRTr r n s) :=
  runInstr_legal_of_keepsMode hv hs <| .bind requireCpl0_keepsMode fun _ => .check <| .get fun _ =>
    .bind (setReg_keepsMode _ _) fun _ => freeFlagsA_keepsMode
theorem execMovTrR_legal (n : Bits3) (r : Reg) : legalOutcome v (execMovTrR n r s) :=
  runInstr_legal hv hs <| .after requireCpl0_keepsMode fun _ => .check fun _ => .after (getReg_keepsMode _) fun _ =>
    .andThen (writeTr_legalFrom hv _ _) fun _ => freeFlagsA_keepsMode
theorem execRdtsc_legal : legalOutcome v (execRdtsc s) :=
  runInstr_legal_of_keepsMode hv hs <| .get fun _ => .check <| setEdxEax_keepsMode _ _
theorem execRdpmc_legal : legalOutcome v (execRdpmc s) :=
  runInstr_legal_of_keepsMode hv hs <| .get fun _ => .check <| .ite (setEdxEax_keepsMode _ _) <|
    .ite (setEdxEax_keepsMode _ _) (.raise _)
theorem execRdmsr_legal : legalOutcome v (execRdmsr s) :=
  runInstr_legal_of_keepsMode hv hs <| .bind requireCpl0_keepsMode fun _ => .bind (getReg_keepsMode _) fun _ =>
    .bind (readMsr_keepsMode _) fun _ => setEdxEax_keepsMode _ _
theorem execWrmsr_legal : legalOutcome v (execWrmsr s) :=
  runInstr_legal hv hs <| .after requireCpl0_keepsMode fun _ => .get fun _ _ => writeMsr_legalFrom hv _ _ _
theorem execHlt_legal : legalOutcome v (execHlt s) :=
  runInstr_legal_of_keepsMode hv hs <| .bind requireCpl0_keepsMode fun _ => .upd fun _ => rfl
theorem execCli_legal : legalOutcome v (execCli s) :=
  runInstr_legal_of_keepsMode hv hs <| .bind ifSensitive_keepsMode fun _ => .upd fun _ => rfl
theorem execSti_legal : legalOutcome v (execSti s) :=
  runInstr_legal_of_keepsMode hv hs <| .bind ifSensitive_keepsMode fun _ => .upd fun _ => rfl
theorem execCpuid_legal : legalOutcome v (execCpuid s) :=
  runInstr_legal_of_keepsMode hv hs <| .get fun _ => .check <| .bind (setReg_keepsMode _ _) fun _ =>
    .bind (setReg_keepsMode _ _) fun _ => .bind (setReg_keepsMode _ _) fun _ => setReg_keepsMode _ _

/-! System Management Mode (R461 to R470). -/

theorem execSvdc_legal (m : Mem) (r : SegReg) : legalOutcome v (execSvdc m r s) :=
  runInstr_legal_of_keepsMode hv hs <| .bind smmInsn_keepsMode fun _ => .checkRefuse <| .get fun _ => savePack_keepsMode _ _
theorem execRsdc_legal (r : SegReg) (m : Mem) : legalOutcome v (execRsdc r m s) :=
  runInstr_legal_of_keepsMode hv hs <| .bind smmInsn_keepsMode fun _ => .check <| .bind (loadPack_keepsMode _) fun _ =>
    setSeg_keepsMode _ _
theorem execSvldt_legal (m : Mem) : legalOutcome v (execSvldt m s) :=
  runInstr_legal_of_keepsMode hv hs <| .bind smmInsn_keepsMode fun _ => .get fun _ => savePack_keepsMode _ _
theorem execRsldt_legal (m : Mem) : legalOutcome v (execRsldt m s) :=
  runInstr_legal_of_keepsMode hv hs <| .bind smmInsn_keepsMode fun _ => .bind (loadPack_keepsMode _) fun _ => .upd fun _ => rfl
theorem execSvts_legal (m : Mem) : legalOutcome v (execSvts m s) :=
  runInstr_legal_of_keepsMode hv hs <| .bind smmInsn_keepsMode fun _ => .get fun _ => savePack_keepsMode _ _
theorem execRsts_legal (m : Mem) : legalOutcome v (execRsts m s) :=
  runInstr_legal_of_keepsMode hv hs <| .bind smmInsn_keepsMode fun _ => .bind (loadPack_keepsMode _) fun _ => .upd fun _ => rfl
theorem execSmint_legal : legalOutcome v (execSmint s) :=
  runInstr_legal hv hs <| .get fun _ _ => .check fun _ => .checkRefuse fun _ => enterSmm_legalFrom hv _ _ _ _
theorem execRsm_legal : legalOutcome v (execRsm s) :=
  runInstr_legal hv hs <| .after smmInsn_keepsMode fun _ => .get fun _ _ => .checkRefuse fun _ => exitSmm_legalFrom hv
theorem execRdshr_legal (d : RMv) : legalOutcome v (execRdshr d s) :=
  runInstr_legal_of_keepsMode hv hs <| .bind smmInsn_keepsMode fun _ => .bind (locateN_keepsMode _ _ _) fun _ => .get fun _ =>
    writePlace_keepsMode _ _
theorem execWrshr_legal (e : RMv) : legalOutcome v (execWrshr e s) :=
  runInstr_legal_of_keepsMode hv hs <| .bind smmInsn_keepsMode fun _ => .bind (readRM32_keepsMode _) fun _ => .upd fun _ => rfl

/-! All instructions. -/

theorem exec_legal (i : Instr) : legalOutcome v (exec i s) := by
  have keeps {a : Act Unit} (ha : a.KeepsMode) : legalOutcome v (runInstr a s) := runInstr_legal_of_keepsMode hv hs ha
  have legal {a : Act Unit} (ha : a.LegalFrom v) : legalOutcome v (runInstr a s) := runInstr_legal hv hs ha
  cases i with
  -- Prefixes.
  | segEs | segCs | segSs | segDs | segFs | segGs | opsize | adsize | lock | repne | rep =>
    dsimp only [exec]
    exact keeps (readPfx_keepsMode _)
  -- Arithmetic, logic, bits and shifts.
  | addEbGb d r | orEbGb d r | adcEbGb d r | sbbEbGb d r | andEbGb d r | subEbGb d r | xorEbGb d r =>
    exact keeps (aluEbGb_keepsMode (by simp) d r)
  | addEvGv sz d r | orEvGv sz d r | adcEvGv sz d r | sbbEvGv sz d r | andEvGv sz d r | subEvGv sz d r
    | xorEvGv sz d r =>
    exact keeps (aluEvGv_keepsMode (by simp) d r)
  | addGbEb r d | orGbEb r d | adcGbEb r d | sbbGbEb r d | andGbEb r d | subGbEb r d | xorGbEb r d =>
    exact keeps (aluGbEb_keepsMode (by simp) r d)
  | addGvEv sz r d | orGvEv sz r d | adcGvEv sz r d | sbbGvEv sz r d | andGvEv sz r d | subGvEv sz r d
    | xorGvEv sz r d =>
    exact keeps (aluGvEv_keepsMode (by simp) r d)
  | addAlIb k | orAlIb k | adcAlIb k | sbbAlIb k | andAlIb k | subAlIb k | xorAlIb k =>
    dsimp only [exec]
    exact keeps (aluAlIb_keepsMode (by simp) k)
  | addAxIv k | orAxIv k | adcAxIv k | sbbAxIv k | andAxIv k | subAxIv k | xorAxIv k =>
    dsimp only [exec]
    exact keeps (aluAxIv_keepsMode (i := k) (by simp))
  | addEbIb d k | orEbIb d k | adcEbIb d k | sbbEbIb d k | andEbIb d k | subEbIb d k | xorEbIb d k =>
    exact keeps (aluEbIb_keepsMode (by simp) d k)
  | addEvIv d k | orEvIv d k | adcEvIv d k | sbbEvIv d k | andEvIv d k | subEvIv d k | xorEvIv d k =>
    dsimp only [exec]
    exact keeps (aluEvIv_keepsMode (by simp) d)
  | addEvIbs sz d k | orEvIbs sz d k | adcEvIbs sz d k | sbbEvIbs sz d k | andEvIbs sz d k | subEvIbs sz d k
    | xorEvIbs sz d k =>
    exact keeps (aluEvIbs_keepsMode (by simp) d k)
  | incR sz r | decR sz r =>
    dsimp only [exec]
    exact keeps (rmwV_keepsMode (by simp) (.reg r))
  | incEb d | decEb d | negEb d | notEb d => exact keeps (rmw8_keepsMode (by simp) d)
  | incEv sz d | decEv sz d | negEv sz d | notEv sz d => exact keeps (rmwV_keepsMode (by simp) d)
  | btsEvGv sz d r | btrEvGv sz d r | btcEvGv sz d r => exact keeps (bitReg_keepsMode _ sz d r)
  | btsEvIb sz d k | btrEvIb sz d k | btcEvIb sz d k => exact keeps (bitImm_keepsMode _ sz d k)
  | rolEbCl d | rorEbCl d | rclEbCl d | rcrEbCl d | shlEbCl d | shrEbCl d | sarEbCl d =>
    exact legal (shiftEb_legalFrom hv _ d)
  | rolEvCl sz d | rorEvCl sz d | rclEvCl sz d | rcrEvCl sz d | shlEvCl sz d | shrEvCl sz d | sarEvCl sz d =>
    exact legal (shiftEv_legalFrom hv _ sz d)
  | xaddEbGb d r => exact execXaddEbGb_legal hv hs d r
  | xaddEvGv sz d r => exact execXaddEvGv_legal hv hs sz d r
  | cmpxchgEbGb d r => exact execCmpxchgEbGb_legal hv hs d r
  | cmpxchgEvGv sz d r => exact execCmpxchgEvGv_legal hv hs sz d r
  | mulEb d => exact execMulEb_legal hv hs d
  | mulEv sz d => exact execMulEv_legal hv hs sz d
  | imulEb d => exact execImulEb_legal hv hs d
  | imulEv sz d => exact execImulEv_legal hv hs sz d
  | divEb d => exact execDivEb_legal hv hs d
  | divEv sz d => exact execDivEv_legal hv hs sz d
  | idivEb d => exact execIdivEb_legal hv hs d
  | idivEv sz d => exact execIdivEv_legal hv hs sz d
  -- Data transfer and the stack.
  | pushEs sz | pushCs sz | pushSs sz | pushDs sz | pushFs sz | pushGs sz => exact keeps (pushSeg_keepsMode sz _)
  | popEs sz | popSs sz | popDs sz | popFs sz | popGs sz => exact keeps (popSeg_keepsMode sz _)
  | pushIv k => exact keeps (push_keepsMode _ _)
  | pushIbs sz k => exact keeps (push_keepsMode _ _)
  | movRIb r k => exact keeps (setReg8_keepsMode r k)
  | movRIv r k => exact keeps (setRegN_keepsMode r _)
  | movEbIb d k => exact keeps (writeRM8_keepsMode d k)
  | movEvIv d k => exact keeps (writeRMv_keepsMode _ d _)
  | nop =>
    dsimp only [exec]
    exact keeps (.pure _)
  | movEbGb d r => exact execMovEbGb_legal hv hs d r
  | movEvGv sz d r => exact execMovEvGv_legal hv hs sz d r
  | movGbEb d r => exact execMovGbEb_legal hv hs d r
  | movGvEv sz d r => exact execMovGvEv_legal hv hs sz d r
  | movAlOb o => exact execMovAlOb_legal hv hs o
  | movAxOv sz o => exact execMovAxOv_legal hv hs sz o
  | movObAl o => exact execMovObAl_legal hv hs o
  | movOvAx sz o => exact execMovOvAx_legal hv hs sz o
  | movEwSw sz d r => exact execMovEwSw_legal hv hs sz d r
  | movSwEw d r => exact execMovSwEw_legal hv hs d r
  | pushR sz r => exact execPushR_legal hv hs sz r
  | pushEv sz d => exact execPushEv_legal hv hs sz d
  | popR sz r => exact execPopR_legal hv hs sz r
  | popEv sz d => exact execPopEv_legal hv hs sz d
  | pusha sz => exact execPusha_legal hv hs sz
  | popa sz => exact execPopa_legal hv hs sz
  | pushf sz => exact execPushf_legal hv hs sz
  | popf sz => exact execPopf_legal hv hs sz
  | xchgEbGb d r => exact execXchgEbGb_legal hv hs d r
  | xchgEvGv sz d r => exact execXchgEvGv_legal hv hs sz d r
  | xchgAx sz r => exact execXchgAx_legal hv hs sz r
  | xlat az => exact execXlat_legal hv hs az
  -- Control transfer.
  | jmpPtr p => exact keeps (jumpFar_keepsMode _ _)
  | callPtr p => exact keeps (callFar_keepsMode _ _ _)
  | ret sz => exact keeps (retNear_keepsMode sz _)
  | retIw sz n => exact keeps (retNear_keepsMode sz n)
  | retf sz => exact legal (retFar_legalFrom hv sz _)
  | retfIw sz n => exact legal (retFar_legalFrom hv sz n)
  | iret sz => exact legal (interruptReturn_legalFrom hv sz)
  | int3 => exact legal (softInt_legalFrom hv 3#8)
  | loop sz az k | loope sz az k | loopne sz az k => exact keeps (loopIf_keepsMode sz az k _)
  | jmpRel8 sz k => exact execJmpRel8_legal hv hs sz k
  | jmpRel k => exact execJmpRel_legal hv hs k
  | jmpEv sz d => exact execJmpEv_legal hv hs sz d
  | jmpMp sz m => exact execJmpMp_legal hv hs sz m
  | callRel k => exact execCallRel_legal hv hs k
  | callEv sz d => exact execCallEv_legal hv hs sz d
  | callMp sz m => exact execCallMp_legal hv hs sz m
  | intN n => exact execIntN_legal hv hs n
  | into => exact execInto_legal hv hs
  | bound sz r m => exact execBound_legal hv hs sz r m
  -- Floating point and MMX.
  | wait => exact keeps waitCheck_keepsMode
  | fnsave sz m => exact keeps (fnsave_keepsMode sz m)
  | fnstenv sz m => exact keeps (fnstenv_keepsMode sz m)
  | frstor sz m => exact keeps (frstor_keepsMode sz m)
  | fsave sz m => exact waitThen_legal hv hs (fnsave_keepsMode sz m)
  | fstenv sz m => exact waitThen_legal hv hs (fnstenv_keepsMode sz m)
  | esc op ext rm => exact execEsc_legal hv hs op ext rm
  | emms => exact execEmms_legal hv hs
  | movdPE d r => exact execMovdPE_legal hv hs d r
  | movdEP d r => exact execMovdEP_legal hv hs d r
  | movqPQ d r => exact execMovqPQ_legal hv hs d r
  | movqQP d r => exact execMovqQP_legal hv hs d r
  -- Input, output and strings.
  | insb az => exact keeps (repeatedIo_keepsMode (insItem_keepsMode az _) _ az)
  | insv sz az => exact keeps (repeatedIo_keepsMode (insItem_keepsMode az _) _ az)
  | outsb az => exact keeps (repeatedIo_keepsMode (outsItem_keepsMode az _) _ az)
  | outsv sz az => exact keeps (repeatedIo_keepsMode (outsItem_keepsMode az _) _ az)
  | movsb az => exact keeps (repeated_keepsMode (movsItem_keepsMode az _) az)
  | movsv sz az => exact keeps (repeated_keepsMode (movsItem_keepsMode az _) az)
  | stosb az => exact keeps (repeated_keepsMode (stosItem_keepsMode az _) az)
  | stosv sz az => exact keeps (repeated_keepsMode (stosItem_keepsMode az _) az)
  | inAlIb p => exact execInAlIb_legal hv hs p
  | inAxIb sz p => exact execInAxIb_legal hv hs sz p
  | outIbAl p => exact execOutIbAl_legal hv hs p
  | outIbAx sz p => exact execOutIbAx_legal hv hs sz p
  | inAlDx => exact execInAlDx_legal hv hs
  | inAxDx sz => exact execInAxDx_legal hv hs sz
  | outDxAl => exact execOutDxAl_legal hv hs
  | outDxAx sz => exact execOutDxAx_legal hv hs sz
  -- The system and System Management Mode.
  | lgdt sz m => exact execLgdt_legal hv hs sz m
  | lidt sz m => exact execLidt_legal hv hs sz m
  | sgdt sz m => exact execSgdt_legal hv hs sz m
  | sidt sz m => exact execSidt_legal hv hs sz m
  | lldt r => exact execLldt_legal hv hs r
  | sldt sz d => exact execSldt_legal hv hs sz d
  | ltr r => exact execLtr_legal hv hs r
  | str sz d => exact execStr_legal hv hs sz d
  | invlpg m => exact execInvlpg_legal hv hs m
  | invd => exact execInvd_legal hv hs
  | wbinvd => exact execWbinvd_legal hv hs
  | movRCr r n => exact execMovRCr_legal hv hs r n
  | movCrR n r => exact execMovCrR_legal hv hs n r
  | movRDr r n => exact execMovRDr_legal hv hs r n
  | movDrR n r => exact execMovDrR_legal hv hs n r
  | movRTr r n => exact execMovRTr_legal hv hs r n
  | movTrR n r => exact execMovTrR_legal hv hs n r
  | rdtsc => exact execRdtsc_legal hv hs
  | rdpmc => exact execRdpmc_legal hv hs
  | rdmsr => exact execRdmsr_legal hv hs
  | wrmsr => exact execWrmsr_legal hv hs
  | hlt => exact execHlt_legal hv hs
  | cli => exact execCli_legal hv hs
  | sti => exact execSti_legal hv hs
  | cpuid => exact execCpuid_legal hv hs
  | svdc m r => exact execSvdc_legal hv hs m r
  | rsdc d m => exact execRsdc_legal hv hs d m
  | svldt m => exact execSvldt_legal hv hs m
  | rsldt m => exact execRsldt_legal hv hs m
  | svts m => exact execSvts_legal hv hs m
  | rsts m => exact execRsts_legal hv hs m
  | smint => exact execSmint_legal hv hs
  | rsm => exact execRsm_legal hv hs
  | rdshr d => exact execRdshr_legal hv hs d
  | wrshr r => exact execWrshr_legal hv hs r
end

end Sys2Proof.Machine
end

section
/-! SUPPORT, and O55. Fetching and running an instruction, the events of the boundary, and the end of a step. -/
namespace Sys2Proof.Machine
open Sys2Proof

/-! Fetch and decode (R261): the mode view stays. -/

@[simp] theorem fetchPlace_keepsMode (off : Word) : (fetchPlace off).KeepsMode :=
  .bind (segCheck_keepsMode _ _ _ _) fun _ => .get fun _ => .bind (linAccess_keepsMode _ _ _ _ _) fun _ => .pure _
@[simp] theorem fetchPhys_keepsMode (pa : Word) : (fetchPhys pa).KeepsMode := by
  refine .bind (physReadByte_keepsMode _) fun _ => .get fun s => ?_
  split
  · exact .pure _
  · exact .bind (drawChoice_keepsMode _) fun _ => .pure _
@[simp] theorem fetchByte_keepsMode (k : Nat) : (fetchByte k).KeepsMode :=
  .get fun _ => .checkRefuse <| .bind (fetchPlace_keepsMode _) fun _ => .bind (busPoint_keepsMode _) fun _ =>
    fetchPhys_keepsMode _
/-- What was looked at beyond a WAIT is dropped with the state or kept with it. -/
theorem lookBeyond_keepsMode {a : Act Fetched} (h : a.KeepsMode) : (lookBeyond a).KeepsMode := by
  refine ⟨fun s => ?_⟩
  unfold lookBeyond
  cases ha : a s with
  | ok f t =>
    dsimp only
    by_cases hw : f.instr = .wait
    · rw [if_pos hw]
      exact SameMode.refl s
    · rw [if_neg hw]
      exact h.view ha
  | error e t => exact SameMode.refl s
@[simp] theorem checkPrefixes_keepsMode (n : Nat) (lockOk repOk branch : Bool) :
    (checkPrefixes n lockOk repOk branch).KeepsMode :=
  .get fun _ => .check <| .check <| .checkRefuse <| .ite (.refuse _) (.pure _)
@[simp] theorem lateStop_keepsMode (w : LateStop) (n : Nat) : (lateStop w n).KeepsMode := by
  refine .bind (checkPrefixes_keepsMode _ _ _ _) fun _ => ?_
  cases w with
  | invalidOperand => exact .raise _
  | reservedRegField => exact .get fun _ => .ite (.refuse _) (.raise _)
@[simp] theorem fetchDecode_keepsMode (c : Ctx) (got : List Byte) (room : Nat) : (fetchDecode c got room).KeepsMode := by
  induction room generalizing got with
  | zero =>
    unfold fetchDecode
    split
    · exact .pure _
    · exact .raise _
    · exact .pure _
    · exact .raise _
    · exact .refuse _
    · exact lateStop_keepsMode _ _
  | succ k ih =>
    unfold fetchDecode
    split
    · exact .pure _
    · exact .bind (fetchByte_keepsMode _) fun _ => ih _
    · exact lookBeyond_keepsMode <| .bind (fetchByte_keepsMode _) fun _ => ih _
    · exact .raise _
    · exact .refuse _
    · exact lateStop_keepsMode _ _
@[simp] theorem fetchInstr_keepsMode : fetchInstr.KeepsMode := .get fun _ => fetchDecode_keepsMode _ _ _

/-! Running one instruction (R261, R594). -/

@[simp] theorem State.advance_modeView (s : State) (n : Nat) : (s.advance n).modeView = s.modeView := rfl
@[simp] theorem State.completed_modeView (s : State) (i : Instr) (tf : Bool) : (s.completed i tf).modeView = s.modeView := rfl
@[simp] theorem State.startInstr_modeView (s : State) : s.startInstr.modeView = s.modeView := rfl

section
variable {v : ModeView}

theorem afterExec_legal {o : Host.Outcome State Fault Refusal} (ho : legalOutcome v o) (i : Instr) (start : Word) (n : Nat)
    (tf : Bool) : legalOutcome v (afterExec i start n tf o) := by
  cases o with
  | next s =>
    have hs : v.Next s.modeView := ho rfl
    dsimp only [afterExec]
    by_cases hentered : s.cur.entered = true
    · rw [if_pos hentered]
      exact legalOutcome_next hs
    · rw [if_neg hentered]
      split
      · exact legalOutcome_refused _
      · exact legalOutcome_next (by rw [s.completed_modeView]; exact hs)
  | fault x => exact legalOutcome_fault x
  | refused r => exact legalOutcome_refused r
theorem runDecoded_legal (hv : v.Legal) (i : Instr) (n : Nat) {s : State} (hs : s.modeView = v) :
    legalOutcome v (runDecoded i n s) := by
  unfold runDecoded
  split
  · exact afterExec_legal (exec_legal hv ((s.advance_modeView n).trans hs) i) _ _ _ _
  · exact legalOutcome_refused _
  · exact deliverFault_legal hv _ hs
/-- Reading prefixes keeps the mode view: what follows starts from the same one. -/
theorem exec_pfx_modeView {i : Instr} (hi : isPrefix i = true) {s t : State} (h : exec i s = .next t) :
    t.modeView = s.modeView := by
  cases i
  case segEs | segCs | segSs | segDs | segFs | segGs | opsize | adsize | lock | repne | rep => cases h; rfl
  all_goals cases hi
theorem runFetched_legal (hv : v.Legal) (fuel : Nat) {s : State} (hs : s.modeView = v) : legalOutcome v (runFetched fuel s) := by
  induction fuel generalizing s with
  | zero =>
    unfold runFetched
    split
    · exact legalOutcome_refused _
    · exact deliverFault_legal hv _ hs
    · rename_i f t hfetch
      split
      · exact deliverFault_legal hv _ hs
      · exact runDecoded_legal hv _ _ ((fetchInstr_keepsMode.view hfetch).trans hs)
  | succ k ih =>
    unfold runFetched
    split
    · exact legalOutcome_refused _
    · exact deliverFault_legal hv _ hs
    · rename_i f t hfetch
      have ht : t.modeView = v := (fetchInstr_keepsMode.view hfetch).trans hs
      split
      · rename_i hpfx
        dsimp only
        split
        · exact legalOutcome_refused _
        · split
          · rename_i u hu
            exact ih ((exec_pfx_modeView hpfx hu).trans ht)
          · exact legalOutcome_fault _
          · exact legalOutcome_refused _
      · exact runDecoded_legal hv _ _ ht
/-- The instruction at CS:EIP, with its prefixes and its exceptions. -/
theorem runInstruction_legal (hv : v.Legal) {s : State} (hs : s.modeView = v) : legalOutcome v (runInstruction s) :=
  runFetched_legal hv _ (s.startInstr_modeView.trans hs)
end

/-! The instruction boundary (R498). -/

@[simp] theorem currentIp_keepsMode : currentIp.KeepsMode := by
  refine .get fun s => ?_
  split
  · exact .pure _
  · exact drawWord_keepsMode
theorem smiEntry_legalFrom {v : ModeView} (hv : v.Legal) : smiEntry.LegalFrom v :=
  .get fun _ _ => .after currentIp_keepsMode fun _ => .andThen (enterSmm_legalFrom hv _ _ _ _) fun _ => .upd fun _ => rfl
@[simp] theorem shutdownFrame_keepsMode : shutdownFrame.KeepsMode := ⟨fun _ => rfl⟩

@[simp] theorem State.awake_modeView (s : State) : s.awake.modeView = s.modeView := rfl
@[simp] theorem State.started_modeView (s : State) : s.started.modeView = s.modeView := rfl
@[simp] theorem State.sampled_modeView (s : State) (p : Pins) : (s.sampled p).modeView = s.modeView := by simp [State.modeView]
@[simp] theorem State.tick_modeView (s : State) (executed : Bool) : (s.tick executed).modeView = s.modeView := by
  simp [State.modeView]
@[simp] theorem State.flushPin_modeView (s : State) (p : Pins) : (s.flushPin p).modeView = s.modeView := by
  unfold State.flushPin
  split
  · exact s.cacheFlush_modeView
  · rfl
/-- RESET in an instruction abandons it: the parameters stay (R640). -/
@[simp] theorem State.abandoned_part (s : State) : s.abandoned.part = s.part := by
  have hrest : s.busRest.part = s.part := by obtain ⟨_, _, _, _, h⟩ := s.busRest_eq; rw [h]
  unfold State.abandoned
  dsimp only
  split
  · exact hrest
  · split
    · exact hrest
    · exact hrest

section
variable {v : ModeView} (hv : v.Legal) {s : State} (hs : s.modeView = v)
include hv hs

theorem takeNmi_legal (e : Word) : legalOutcome v (takeNmi e s) :=
  (deliverAll_legal hv _ _ _ _ _ _ (by exact hs)).mapNext State.enteredHandler_modeView
theorem takeNmiShutdown_legal : legalOutcome v (takeNmiShutdown s) := by
  unfold takeNmiShutdown
  split
  · rename_i h
    exact takeNmi_legal hv ((shutdownFrame_keepsMode.view h).trans hs) _
  · exact legalOutcome_next (hs ▸ hv.next)
theorem takeIntr_legal (n : Byte) : legalOutcome v (takeIntr n s) :=
  (deliverAll_legal hv _ _ _ _ _ _ (s.awake_modeView.trans hs)).mapNext State.enteredHandler_modeView
theorem takeSmi_legal : legalOutcome v (takeSmi s) := by
  unfold takeSmi
  split
  · rename_i h
    have hnext := smiEntry_legalFrom hv hs h
    exact legalOutcome_next hnext
  · exact legalOutcome_refused _
  · exact deliverFault_legal hv _ hs
end

/-- WM_RST and RESET lead to real mode (R641, R642). -/
theorem State.warmReset_legal {v : ModeView} (hv : v.Legal) {s : State} (hs : s.modeView = v) : v.Next s.warmReset.modeView := by
  have hcr4 : State.reset.cr4 &&& ~~~cr4Mask = 0#32 := by decide
  cases hs
  exact hv.realStart hcr4
theorem State.resetPin_legal (s : State) : s.resetPin.modeView.Legal := by
  obtain ⟨hres, h4, hpg⟩ := resetCr0_legal
  exact ⟨.inr ⟨rfl, rfl⟩, (fun hvm => nomatch hvm), hres, h4, hpg, BitVec.zero_and, BitVec.zero_and⟩

/-! The end of a step: EIP in 16-bit code (R25). -/

/-- In 16-bit code EIP has 16 bits, unless it is past the limit, where the next fetch faults (R25, log 43). -/
def State.eipFits (s : State) : Prop :=
  s.realLike = true ∨ s.segs.cs.attr.d = false → s.eip.toNat < 0x10000 ∨ s.segs.cs.limit < s.eip

theorem State.codeD_eq_false_iff (s : State) : s.codeD = false ↔ s.realLike = true ∨ s.segs.cs.attr.d = false := by
  cases hreal : s.realLike <;> simp [State.codeD, hreal]
/-- In 16-bit code an offset within the limit is cut to 16 bits. -/
theorem State.offAfter_fits {s : State} (h : s.codeD = false) (x : Word) :
    (s.offAfter x 0).toNat < 0x10000 ∨ s.segs.cs.limit < s.offAfter x 0 := by
  unfold State.offAfter
  rw [BitVec.add_zero]
  by_cases hlimit : s.segs.cs.limit < x
  · right
    simp [hlimit]
  · left
    have hmask : (x &&& 0xFFFF#32).toNat ≤ 0xFFFF := by
      rw [BitVec.toNat_and]
      exact Nat.and_le_right
    simpa [h, hlimit] using Nat.lt_succ_of_le hmask
theorem State.tick_eipFits (s : State) (executed : Bool) : (s.tick executed).eipFits := by
  intro h
  rw [← State.codeD_eq_false_iff] at h
  have hcode : (s.tick executed).codeD = s.codeD := by simp [State.codeD, State.realLike, State.pe]
  rw [State.tick_segs, State.tick_eip]
  exact s.offAfter_fits (hcode ▸ h) _
theorem State.resetPin_eipFits (s : State) : s.resetPin.eipFits := fun _ => .inl (show (0xFFF0#32 : Word).toNat < 0x10000 by decide)

/-- Outcome `o` of a step, where it is a next state, is one that may follow view `v`, and EIP fits in it. -/
def stepOutcome (v : ModeView) (o : Host.Outcome State Fault Refusal) : Prop :=
  ∀ ⦃t⦄, o = .next t → v.Next t.modeView ∧ t.eipFits

section
variable {v : ModeView}
theorem stepOutcome_tick {s : State} (h : v.Next s.modeView) (executed : Bool) : stepOutcome v (.next (s.tick executed)) := by
  intro t e
  cases e
  exact ⟨s.tick_modeView executed ▸ h, s.tick_eipFits executed⟩
theorem legalOutcome.ticked {o : Host.Outcome State Fault Refusal} (h : legalOutcome v o) (executed : Bool) :
    stepOutcome v (Machine.mapNext (State.tick executed) o) := by
  cases o with
  | next s => exact stepOutcome_tick (h rfl) executed
  | fault x => exact fun _ e => nomatch e
  | refused r => exact fun _ e => nomatch e

/-! The boundary in its order (R498). -/

theorem boundaryIntr_ok (hv : v.Legal) (p : Pins) {s : State} (hs : s.modeView = v) : stepOutcome v (boundaryIntr p s) := by
  unfold boundaryIntr
  split
  · exact (takeNmi_legal hv hs _).ticked _
  split
  · exact (takeNmiShutdown_legal hv hs).ticked _
  split
  · exact (takeIntr_legal hv hs _).ticked _
  split
  · exact stepOutcome_tick (hs ▸ hv.next) _
  · exact (runInstruction_legal hv hs).ticked _
theorem boundaryEvents_ok (hv : v.Legal) (p : Pins) {s : State} (hs : s.modeView = v) :
    stepOutcome v (boundaryEvents p s) := by
  have hflush : (s.flushPin p).modeView = v := (s.flushPin_modeView p).trans hs
  unfold boundaryEvents
  split
  · exact (debugException_legal hv _ _ _ _ (by exact hs)).ticked _
  dsimp only
  split
  · exact (takeSmi_legal hv hflush).ticked _
  · exact boundaryIntr_ok hv p hflush
theorem boundaryReset_ok (hv : v.Legal) (p : Pins) {s : State} (hs : s.modeView = v) : stepOutcome v (boundaryReset p s) := by
  unfold boundaryReset
  split
  · exact stepOutcome_tick (hs ▸ hv.next) _
  split
  · exact stepOutcome_tick (State.warmReset_legal hv hs) _
  split
  · exact stepOutcome_tick (by cases hs; exact hv.next) _
  · exact boundaryEvents_ok hv p (by exact hs)
theorem boundary_ok (hv : v.Legal) (p : Pins) {s : State} (hs : s.modeView = v) : stepOutcome v (boundary p s) := by
  unfold boundary
  split
  · intro t e
    cases e
    cases hs
    exact ⟨⟨State.resetPin_legal _, s.abandoned_part⟩, State.resetPin_eipFits _⟩
  split
  · exact fun _ e => nomatch e
  · exact boundaryReset_ok hv p (s.started_modeView.trans hs)
/-- One step from a legal view: a state that may follow it, in which EIP fits. -/
theorem step_ok (hv : v.Legal) {s : State} (hs : s.modeView = v) : stepOutcome v (step s) :=
  boundary_ok hv _ ((s.sampled_modeView _).trans hs)
end

/-- Settles O55: legality of the mode view is kept by every action of the model, and `State.tick` cuts EIP at the end of every
step but RESET. -/
theorem stepKeepsModes : Obligations.StepKeepsModes := by
  intro s t hmode hcontrol hstep
  have hv : s.modeView.Legal := (State.modeView_legal_iff s).2 ⟨hmode, hcontrol⟩
  obtain ⟨⟨hlegal, hpart⟩, heip⟩ := step_ok hv rfl hstep
  obtain ⟨hmode', hcontrol'⟩ := (State.modeView_legal_iff t).1 hlegal
  exact ⟨hmode', hcontrol', hpart, heip⟩

end Sys2Proof.Machine
end

section
/-! SUPPORT, and O53. The state after RESET meets the invariants, whatever the parameters. -/
namespace Sys2Proof.Machine
open Sys2Proof

/-- Nothing has been written to either memory (log 5). -/
theorem State.resetFor_memoryOk (p : Part) : (State.resetFor p).memoryOk = true := rfl
/-- No cache line is listed. -/
theorem State.resetFor_cacheOk (p : Part) : (State.resetFor p).cacheOk = true := rfl
/-- Real mode at level 0, CR0, CR4 and TR6 with their values of R642. -/
theorem State.resetFor_legal (p : Part) : (State.resetFor p).modeView.Legal :=
  State.resetPin_legal (State.resetFor p)

/-- Settles O53: the parameters at their defaults. -/
theorem resetOk : Obligations.ResetOk :=
  ⟨State.resetFor_memoryOk _, State.resetFor_cacheOk _, (State.modeView_legal_iff _).1 (State.resetFor_legal _)⟩

end Sys2Proof.Machine
end

section
/-! SUPPORT, and O58. Fetching, checking and running an instruction: what each stage answers, case by case. -/
namespace Sys2Proof.Machine
open Sys2Proof

/-! A check in a sequence of checks: it stops the action, or the action goes on. -/

/-- An action that stops, whatever would follow. -/
theorem run_bind_error {α β : Type} {a : Act α} {s t : State} {x : Stop} (f : α → Act β) (h : a s = .error x t) :
    (a >>= f) s = .error x t := by rw [run_bind, h]
section
variable {α β : Type} {c : Prop} [Decidable c] {f : α → Act β} {b : Act β} {s : State}
theorem run_check_pass {a : Act α} (h : ¬ c) : (if c then a >>= f else b) s = b s := by rw [if_neg h]
theorem run_check_raise {e : Exc} (h : c) : (if c then raise e >>= f else b) s = .error (.exc e) s := by rw [if_pos h]; rfl
theorem run_check_refuse {r : Refusal} (h : c) : (if c then refuse r >>= f else b) s = .error (.refuse r) s := by
  rw [if_pos h]; rfl
end

/-! The checks that precede execution, in their order (R261): the first that fails answers. -/

section
variable {n : Nat} {lockOk repOk branch : Bool} {s : State}

theorem checkPrefixes_tooLong (h : 15 < s.cur.pfx.count + n) :
    checkPrefixes n lockOk repOk branch s = .error (.exc (.gp 0#16)) s := run_check_raise h

variable (hn : ¬ 15 < s.cur.pfx.count + n)
include hn

theorem checkPrefixes_lock (h : s.cur.pfx.lock = true) (hl : lockOk = false) :
    checkPrefixes n lockOk repOk branch s = .error (.exc .ud) s :=
  (run_check_pass hn).trans (run_check_raise (by simp [h, hl]))

variable (hl : s.cur.pfx.lock = true → lockOk = true)
include hl

theorem checkPrefixes_rep (h : s.cur.pfx.repne = true ∨ s.cur.pfx.rep = true ∧ repOk = false) :
    checkPrefixes n lockOk repOk branch s = .error (.refuse .repMisuse) s :=
  (run_check_pass hn).trans <| (run_check_pass (by simpa using hl)).trans (run_check_refuse (by simpa using h))

variable (hne : s.cur.pfx.repne = false) (hr : s.cur.pfx.rep = true → repOk = true)
include hne hr

theorem checkPrefixes_branch (h : s.branchDue = true) (hb : branch = false) :
    checkPrefixes n lockOk repOk branch s = .error (.refuse .pgChangeWithoutBranch) s :=
  (run_check_pass hn).trans <| (run_check_pass (by simpa using hl)).trans <|
    (run_check_pass (by simpa [hne] using hr)).trans (congrFun (if_pos (by simp [h, hb])) s)
theorem checkPrefixes_ok (hb : s.branchDue = true → branch = true) :
    checkPrefixes n lockOk repOk branch s = .ok () s :=
  (run_check_pass hn).trans <| (run_check_pass (by simpa using hl)).trans <|
    (run_check_pass (by simpa [hne] using hr)).trans (congrFun (if_neg (by simpa using hb)) s)
end

/-! A decoded instruction (R261): the checks pass and it runs, or the first that fails says what happens. -/

theorem runDecoded_ok {i : Instr} {n : Nat} {s t : State} (h : checkStart i n s = .ok () t) :
    runDecoded i n s = afterExec i s.eip n s.flags.tf (exec i (s.advance n)) := by
  rw [runDecoded, show (checkStart i n).run s = .ok () t from h]
theorem runDecoded_exc {i : Instr} {n : Nat} {s t : State} {x : Exc} (h : checkStart i n s = .error (.exc x) t) :
    runDecoded i n s = deliverFault x s := by
  rw [runDecoded, show (checkStart i n).run s = .error (.exc x) t from h]
theorem runDecoded_refuse {i : Instr} {n : Nat} {s t : State} {r : Refusal}
    (h : checkStart i n s = .error (.refuse r) t) : runDecoded i n s = .refused r := by
  rw [runDecoded, show (checkStart i n).run s = .error (.refuse r) t from h]

/-! What was fetched: an instruction runs; after a prefix the fetch goes on. -/

section
variable {i : Instr} {n : Nat} {s t : State} (hf : fetchInstr s = .ok { instr := i, len := n } t)
include hf

theorem runFetched_instr (hi : isPrefix i = false) (k : Nat) : runFetched k s = runDecoded i n t := by
  rw [runFetched, show fetchInstr.run s = _ from hf]
  simp only [hi, Bool.false_eq_true, if_false]
theorem runFetched_prefix (hi : isPrefix i = true) (h : pastTop t.eip n = false) {u : State}
    (hu : exec i (t.advance n) = .next u) (k : Nat) : runFetched (k + 1) s = runFetched k u := by
  rw [runFetched, show fetchInstr.run s = _ from hf]
  simp only [hi, if_true, h, Bool.false_eq_true, if_false, hu]
theorem runFetched_prefix_pastTop (hi : isPrefix i = true) (h : pastTop t.eip n = true) (k : Nat) :
    runFetched (k + 1) s = .refused .eipWrap := by
  rw [runFetched, show fetchInstr.run s = _ from hf]
  simp only [hi, if_true, h]
end

/-! EIP past an instruction (R25, log 43). -/

theorem and_FFFF_toNat (x : Word) : (x &&& 0xFFFF#32).toNat = x.toNat % 65536 := by
  rw [BitVec.toNat_and, show (0xFFFF#32).toNat = 2 ^ 16 - 1 from rfl, Nat.and_two_pow_sub_one_eq_mod]
/-- In 32-bit code, past the limit, and within 64 KByte nothing is cut. -/
theorem State.offAfter_add {s : State} {x : Word} {k : Nat}
    (h : s.codeD = true ∨ s.segs.cs.limit < x + BitVec.ofNat 32 k ∨ x.toNat + k < 65536) :
    s.offAfter x k = x + BitVec.ofNat 32 k := by
  unfold State.offAfter
  dsimp only
  split
  · rfl
  · rename_i hcut
    simp only [Bool.or_eq_true, decide_eq_true_eq, not_or] at hcut
    have hlow : x.toNat + k < 65536 := (h.resolve_left hcut.1).resolve_left hcut.2
    apply BitVec.eq_of_toNat_eq
    rw [and_FFFF_toNat, BitVec.toNat_add, BitVec.toNat_ofNat]
    omega
/-- In 16-bit code IP wraps where the limit lets it. -/
theorem State.offAfter_wrap {s : State} {x : Word} {k : Nat} (hd : s.codeD = false)
    (h : x + BitVec.ofNat 32 k ≤ s.segs.cs.limit) :
    s.offAfter x k = BitVec.ofNat 32 ((x.toNat + k) % 65536) := by
  have hle : ¬ s.segs.cs.limit < x + BitVec.ofNat 32 k := BitVec.not_lt.2 h
  simp only [State.offAfter, hd, hle, decide_false, Bool.or_self, Bool.false_eq_true, if_false]
  apply BitVec.eq_of_toNat_eq
  rw [and_FFFF_toNat, BitVec.toNat_add, BitVec.toNat_ofNat, BitVec.toNat_ofNat]
  omega

/-! Operands that an instruction's own rule rejects (R261, R460). -/

theorem fetchDecode_late {c : Ctx} {bs rest : List Byte} {w : LateStop} (h : decode c bs = .late w rest) (k : Nat) :
    fetchDecode c bs k = lateStop w (bs.length - rest.length) := by
  cases k with
  | zero => rw [fetchDecode, h]
  | succ k => rw [fetchDecode, h]
/-- A check that fails comes before the operand. -/
theorem lateStop_error {w : LateStop} {n : Nat} {s t : State} {x : Stop}
    (h : checkPrefixes n false false false s = .error x t) : lateStop w n s = .error x t := by
  rw [lateStop.eq_def, run_bind_error _ h]
theorem lateStop_ok {w : LateStop} {n : Nat} {s : State} (h : checkPrefixes n false false false s = .ok () s) :
    lateStop w n s =
      .error (if w = .reservedRegField ∧ s.smmInsnAllowed = true then .refuse .reservedRegField else .exc .ud) s := by
  rw [lateStop.eq_def, run_bind_ok _ h]
  cases w with
  | invalidOperand => rfl
  | reservedRegField => cases hsmm : s.smmInsnAllowed <;> simp [run_bind, hsmm]

/-! Fetching from plain memory in real mode (R152, R166, R261). -/

theorem fetchPhys_ok {s : State} (hr : s.readOk = true) (hs : s.stale = []) (pa : Word) :
    fetchPhys pa s = .ok (s.physByte pa) s := by
  have hb : s.cfg.anyRegionBad = false := by
    simp only [State.readOk, Bool.and_eq_true, Bool.not_eq_true'] at hr
    exact hr.1
  have h1 : physReadByte pa s = .ok (s.physByte pa) s := by simp [physReadByte, hb]
  rw [fetchPhys, run_bind_ok _ h1, run_bind_ok _ (run_get s), hs]
  rfl
/-- A code byte within the limit, with paging off: its address is the linear one. -/
theorem fetchPlace_real {s : State} (hreal : s.realLike = true) (hpg : s.pg = false) {off : Word}
    (hw : s.segs.cs.within off 1 = true) : fetchPlace off s = .ok (s.segs.cs.base + off) s := by
  have hal : s.misaligned (s.segs.cs.base + off) 1 = false := by simp [State.misaligned, Nat.mod_one]
  exact (run_bind_ok _ (segCheck_real (r := .cs) hreal hw .exec)).trans <| (run_bind_ok _ (run_get s)).trans
    (run_bind_ok _ (linAccess_off hpg _ (by omega) .exec _ 1 hal))

section
variable {s : State} (hpe : s.pe = false) (hpg : s.pg = false) (hr : s.readOk = true) (hs : s.stale = [])
  (hup : s.segs.cs.attr.expandDown = false)
include hpe hpg hr hs hup

/-- Byte k of what starts at EIP, within the limit and 64 KByte. -/
theorem fetchByte_real {k : Nat} (hlim : s.eip.toNat + k ≤ s.segs.cs.limit.toNat) (htop : s.eip.toNat + k < 65536) :
    fetchByte k s = .ok (s.physByte (s.segs.cs.base + (s.eip + BitVec.ofNat 32 k))) s := by
  have hpast : ¬ pastTop s.eip k = true := by simp [pastTop]; omega
  have hoff : s.offAfter s.eip k = s.eip + BitVec.ofNat 32 k := State.offAfter_add (.inr (.inr htop))
  have hto : (s.eip + BitVec.ofNat 32 k).toNat = s.eip.toNat + k := by
    rw [BitVec.toNat_add, BitVec.toNat_ofNat]; omega
  have hw : s.segs.cs.within (s.eip + BitVec.ofNat 32 k) 1 = true := by
    simp only [Seg.within, hup, Bool.false_eq_true, if_false, hto, decide_eq_true_eq]
    omega
  have hidle : s.busIdle = true := by
    simp only [State.readOk, Bool.and_eq_true] at hr
    exact hr.2
  have hreal : s.realLike = true := by simp [State.realLike, hpe]
  rw [fetchByte, run_bind_ok _ (run_get s), hoff]
  exact (run_check_pass hpast).trans <| (run_bind_ok _ (fetchPlace_real hreal hpg hw)).trans <|
    (run_bind_ok _ (busPoint_idle hidle true)).trans (fetchPhys_ok hr hs _)

/-- The bytes `rest` stand after those got, and the decoder asks for more until it has them all. -/
theorem fetchDecode_real {i : Instr} {bs : List Byte} (hi : decode s.ctx bs = .ok i [])
    (hmore : ∀ k, k < bs.length → decode s.ctx (bs.take k) = .more)
    (hlim : s.eip.toNat + bs.length ≤ s.segs.cs.limit.toNat + 1) (htop : s.eip.toNat + bs.length ≤ 65536)
    (rest got : List Byte) (room : Nat) (hbs : bs = got ++ rest) (hroom : rest.length ≤ room)
    (hmem : s.bytesAt (paRange (s.segs.cs.base + (s.eip + BitVec.ofNat 32 got.length)) rest.length) = rest) :
    fetchDecode s.ctx got room s = .ok { instr := i, len := bs.length } s := by
  induction rest generalizing got room with
  | nil =>
    obtain rfl : bs = got := by simpa using hbs
    cases room with
    | zero => rw [fetchDecode, hi]; rfl
    | succ k => rw [fetchDecode, hi]; rfl
  | cons b rest ih =>
    obtain ⟨k, rfl⟩ : ∃ k, room = k + 1 := ⟨room - 1, by simp only [List.length_cons] at hroom; omega⟩
    have hlen : bs.length = got.length + (rest.length + 1) := by simp [hbs]
    have hask : decode s.ctx got = .more := by
      have h := hmore got.length (by omega)
      rwa [hbs, List.take_left] at h
    obtain ⟨hb, hrest⟩ : s.physByte (s.segs.cs.base + (s.eip + BitVec.ofNat 32 got.length)) = b ∧
        s.bytesAt (paRange (s.segs.cs.base + (s.eip + BitVec.ofNat 32 got.length) + 1#32) rest.length) = rest := by
      simpa [State.bytesAt, paRange] using hmem
    have hbyte : fetchByte got.length s = .ok b s :=
      hb ▸ fetchByte_real hpe hpg hr hs hup (by omega) (by omega)
    rw [fetchDecode, hask]
    simp only []
    rw [run_bind_ok _ hbyte]
    refine ih (got ++ [b]) k (by simp [hbs]) (by simp only [List.length_cons] at hroom; omega) ?_
    rw [List.length_append, List.length_singleton, BitVec.ofNat_add, ← BitVec.add_assoc, ← BitVec.add_assoc]
    rwa [← BitVec.add_assoc] at hrest
end

/-! A step in which nothing comes between (R498). -/

/-- The schedule empty: the pins are idle and no other agent acts. -/
theorem State.sampled_idle {s : State} (henv : s.env = []) :
    s.sampled Pins.idle = { s with ken := true, bus := [], nmiLevel := false, smiLevel := false } := by
  cases s
  simp only at henv
  subst henv
  simp [State.sampled, Pins.idle, State.busDo, State.latchSmi]
theorem boundaryEvents_idle {s : State} (hdebug : s.debugDue = none) (hsmi : s.smiRecognised Pins.idle = false)
    (hnmi : s.nmiReady = false) (hhalt : s.halted = false) (hshut : s.shutdown = false) :
    boundaryEvents Pins.idle s = mapNext (State.tick true) (runInstruction s) := by
  have hintr : s.intrDue Pins.idle = none := by
    unfold State.intrDue
    split <;> rfl
  have hflush : s.flushPin Pins.idle = s := rfl
  unfold boundaryEvents
  simp only [hdebug, hflush, hsmi, Bool.false_eq_true, if_false, boundaryIntr, hnmi, Bool.false_and, hintr, hhalt, hshut,
    Bool.or_self]
/-- From a state in which no event waits a step runs the instruction at CS:EIP. -/
theorem step_idle {s : State} (henv : s.env = []) (hsusp : s.suspended = false) (hdebug : s.debugDue = none)
    (hsmi : s.smiRecognised Pins.idle = false) (hnmi : s.nmiReady = false) (hhalt : s.halted = false)
    (hshut : s.shutdown = false) :
    step s = mapNext (State.tick true)
      (runInstruction ({ s with ken := true, bus := [], nmiLevel := false, smiLevel := false } : State).started) := by
  have hpins : s.pins = Pins.idle := by simp [State.pins, henv]
  have hsuspPin (t : State) : t.suspPin Pins.idle = false := rfl
  rw [step, stepBoundary, hpins, State.sampled_idle henv]
  generalize hu : ({ s with ken := true, bus := [], nmiLevel := false, smiLevel := false } : State).started = u
  have hb : boundary Pins.idle { s with ken := true, bus := [], nmiLevel := false, smiLevel := false } =
      boundaryReset Pins.idle u := hu ▸ rfl
  have hsame : ({ u with suspended := u.halted && u.suspended && u.cfg.ccr2.getLsbD 3 } : State) = u := by
    subst hu
    simp [State.started, hsusp]
  rw [hb, boundaryReset, hsuspPin, Bool.and_false, Bool.false_and]
  simp only [Bool.false_eq_true, if_false, show Pins.idle.wmRst = false from rfl, hsame]
  subst hu
  exact boundaryEvents_idle hdebug hsmi hnmi hhalt hshut

/-- Settles O58. -/
theorem stepRunsInstruction : Obligations.StepRunsInstruction := by
  refine ⟨?step, ?run, ?advance, ?late, ?fetch⟩
  case step =>
    intro s henv hsusp hdebug hsmi hnmi hhalt hshut
    exact step_idle henv hsusp hdebug hsmi hnmi hhalt hshut
  case run =>
    intro k i n s t hf
    refine ⟨fun hi => ?_, fun hi => ⟨fun htop u hu => ?_, fun htop => ?_⟩⟩
    · have hrun := runFetched_instr hf hi k
      refine ⟨fun hlong => ?_, fun hn hlock hno => ?_, fun hn hlock => ⟨fun hrep => ?_, fun hne hrep => ⟨fun hdue hb => ?_,
        fun hb => ?_⟩⟩⟩
      · exact hrun.trans (runDecoded_exc (checkPrefixes_tooLong hlong))
      · exact hrun.trans (runDecoded_exc (checkPrefixes_lock hn hlock hno))
      · exact hrun.trans (runDecoded_refuse (checkPrefixes_rep hn hlock hrep))
      · exact hrun.trans (runDecoded_refuse (checkPrefixes_branch hn hlock hne hrep hdue hb))
      · exact hrun.trans (runDecoded_ok (checkPrefixes_ok hn hlock hne hrep hb))
    · exact runFetched_prefix hf hi (by simp [pastTop]; omega) hu k
    · exact runFetched_prefix_pastTop hf hi (by simp [pastTop]; omega) k
  case advance =>
    intro s n
    refine ⟨fun h => ?_, fun hd hlim => ?_⟩
    · have hoff : s.offAfter s.eip n = s.eip + BitVec.ofNat 32 n := by
        refine State.offAfter_add (h.imp_left ?_)
        rintro ⟨hreal, hd⟩
        simp [State.codeD, hreal, hd]
      rw [State.advance, hoff]
    · rw [State.advance, State.offAfter_wrap ((State.codeD_eq_false_iff s).2 hd) hlim]
  case late =>
    intro s c bs k w rest hw
    dsimp only
    rw [fetchDecode_late hw]
    refine ⟨fun hlong => ?_, fun hn hlock => ?_, fun hn hlock => ⟨fun hrep => ?_, fun hne hrep => ⟨fun hdue => ?_,
      fun hdue => ?_⟩⟩⟩
    · exact lateStop_error (checkPrefixes_tooLong hlong)
    · exact lateStop_error (checkPrefixes_lock (by omega) hlock rfl)
    · exact lateStop_error (checkPrefixes_rep (by omega) (by simp [hlock]) (by simpa using hrep))
    · exact lateStop_error (checkPrefixes_branch (by omega) (by simp [hlock]) hne (by simp [hrep]) hdue rfl)
    · exact lateStop_ok (checkPrefixes_ok (by omega) (by simp [hlock]) hne (by simp [hrep]) (by simp [hdue]))
  case fetch =>
    intro i bs s hpe hpg hr hs hi hmore hlen hlim htop hup hmem
    rw [fetchInstr, run_bind_ok _ (run_get s)]
    exact fetchDecode_real hpe hpg hr hs hup hi hmore hlim htop bs [] 16 rfl hlen (by simpa using hmem)

end Sys2Proof.Machine
end

section
/-! SUPPORT, and O49. Page translation: the walk by what the two table entries hold, and what a matching TLB entry answers. -/
namespace Sys2Proof.Machine
open Sys2Proof

/-- The table entry at a physical address (R216). -/
def State.tableEntry (s : State) (a : Word) : Word := BitVec.ofNat 32 (leNat (s.bytesAt (paRange a 4)))
/-- The address of the directory entry for a linear address. -/
def State.dteAddr (s : State) (la : Word) : Word := s.cr3.extractLsb' 12 20 ++ la.extractLsb' 22 10 ++ 0#2
/-- The directory entry for a linear address. -/
def State.dte (s : State) (la : Word) : Word := s.tableEntry (s.dteAddr la)
/-- The address of the page table entry that it leads to. -/
def State.pteAddr (s : State) (la : Word) : Word := (s.dte la).extractLsb' 12 20 ++ la.extractLsb' 12 10 ++ 0#2
/-- The page table entry for a linear address. -/
def State.pte (s : State) (la : Word) : Word := s.tableEntry (s.pteAddr la)
/-- What the two entries permit (R218). -/
def State.walkPermits (s : State) (la : Word) (kind : Acc) (user : Bool) : Bool :=
  pagePermits s.wp ((s.dte la).getLsbD 2 && (s.pte la).getLsbD 2) ((s.dte la).getLsbD 1 && (s.pte la).getLsbD 1) kind user

/-- Reading the bytes of a number answers it, where no other agent acts. -/
theorem physReadN_ok {s : State} (h : s.readOk = true) (pa : Word) (n : Nat) :
    physReadN pa n s = .ok (leNat (s.bytesAt (paRange pa n))) s := by
  rw [physReadN, run_bind_ok _ (physRead_ok h _), addrs_plain]
  rfl
theorem codeBit_eq (i : Nat) (b : Bool) : codeBit i b = if b then 1#16 <<< i else 0#16 := by
  cases b
  · exact BitVec.zero_shiftLeft i
  · rfl
/-- A page fault records the address and says in its code what was wrong (R39, R511). -/
theorem pageFault_error {α : Type} (la : Word) (kind : Acc) (user present : Bool) (s : State) :
    (pageFault la kind user present : Act α) s =
      .error (.exc (.pf (pfCode s.part.pfLayout present kind user))) { s with cr2 := la } := rfl
/-- Permission as R218 says it. -/
theorem pagePermits_iff (wp u w : Bool) (kind : Acc) (user : Bool) :
    pagePermits wp u w kind user = true ↔
      (user = false ∨ u = true) ∧ (kind ≠ .write ∨ w = true ∨ user = false ∧ wp = false) := by
  simp [pagePermits, or_assoc]
theorem State.walkPermits_iff (s : State) (la : Word) (kind : Acc) (user : Bool) :
    s.walkPermits la kind user = true ↔
      (user = false ∨ (s.dte la).getLsbD 2 = true ∧ (s.pte la).getLsbD 2 = true) ∧
      (kind ≠ .write ∨ (s.dte la).getLsbD 1 = true ∧ (s.pte la).getLsbD 1 = true ∨ user = false ∧ s.wp = false) := by
  rw [State.walkPermits, pagePermits_iff, Bool.and_eq_true, Bool.and_eq_true]

section
variable {s : State} (hr : s.readOk = true) {la : Word} {kind : Acc} {user : Bool}
include hr

/-- The walk, where no other agent acts, is a case split on the two entries. -/
theorem pageWalk_eq : pageWalk la kind user s =
    (if !(s.dte la).getLsbD 0 then pageFault la kind user false
      else if !(s.pte la).getLsbD 0 then pageFault la kind user false
      else if !s.walkPermits la kind user then pageFault la kind user true
      else pure { frame := (s.pte la).extractLsb' 12 20, pcd := (s.pte la).getLsbD 4, pwt := (s.pte la).getLsbD 3
                  walk := some (s.dteAddr la, s.dte la, s.pteAddr la, s.pte la) } : Act Xlat) s := by
  refine (run_bind_ok _ (run_get s)).trans <| (run_bind_ok _ (physReadN_ok hr _ 4)).trans ?_
  rw [run_ite, run_ite]
  refine if_congr Iff.rfl rfl ?_
  exact run_bind_ok _ (physReadN_ok hr _ 4)
theorem pageWalk_dte_absent (hd : (s.dte la).getLsbD 0 = false) :
    pageWalk la kind user s = pageFault la kind user false s := by
  rw [pageWalk_eq hr, hd]
  rfl
theorem pageWalk_pte_absent (hd : (s.dte la).getLsbD 0 = true) (hp : (s.pte la).getLsbD 0 = false) :
    pageWalk la kind user s = pageFault la kind user false s := by
  rw [pageWalk_eq hr, hd, hp]
  rfl
theorem pageWalk_denied (hd : (s.dte la).getLsbD 0 = true) (hp : (s.pte la).getLsbD 0 = true)
    (hno : s.walkPermits la kind user = false) : pageWalk la kind user s = pageFault la kind user true s := by
  rw [pageWalk_eq hr, hd, hp, hno]
  rfl
theorem pageWalk_ok (hd : (s.dte la).getLsbD 0 = true) (hp : (s.pte la).getLsbD 0 = true)
    (hok : s.walkPermits la kind user = true) : pageWalk la kind user s =
      .ok { frame := (s.pte la).extractLsb' 12 20, pcd := (s.pte la).getLsbD 4, pwt := (s.pte la).getLsbD 3
            walk := some (s.dteAddr la, s.dte la, s.pteAddr la, s.pte la) } s := by
  rw [pageWalk_eq hr, hd, hp, hok]
  rfl
end

/-! Where entries of the TLB match (R216, R220, R221). -/

theorem translate_walk {s : State} {la : Word} {kind : Acc} {user : Bool} (hpg : s.pg = true)
    (h : s.tlbMatches la kind user = []) : translate la kind user s = pageWalk la kind user s := by
  refine (run_bind_ok _ (run_get s)).trans ?_
  rw [if_neg (by simp [hpg]), h]
/-- One of them answers, or the walk. -/
theorem translate_tlb {s : State} {la : Word} {kind : Acc} {user : Bool} (hpg : s.pg = true)
    (h : s.tlbMatches la kind user ≠ []) :
    translate la kind user s = pageWalk la kind user { s with freeCtr := s.freeCtr + 1 } ∨
    ∃ e ∈ s.tlbMatches la kind user, translate la kind user s =
      .ok { frame := e.phys, pcd := e.pcd, pwt := e.pwt, walk := none } { s with freeCtr := s.freeCtr + 1 } := by
  obtain ⟨e, es, hes⟩ := List.exists_cons_of_ne_nil h
  have hrun : translate la kind user s =
      (match (e :: es)[Config.freeChoice s.freeCtr % (es.length + 1 + 1)]? with
        | some x => pure { frame := x.phys, pcd := x.pcd, pwt := x.pwt, walk := none }
        | none => pageWalk la kind user : Act Xlat) { s with freeCtr := s.freeCtr + 1 } := by
    refine (run_bind_ok _ (run_get s)).trans ?_
    rw [if_neg (by simp [hpg]), hes]
    rfl
  rw [hrun, hes]
  cases hk : (e :: es)[Config.freeChoice s.freeCtr % (es.length + 1 + 1)]? with
  | none => exact .inl rfl
  | some x => exact .inr ⟨x, List.mem_of_getElem? hk, rfl⟩
theorem State.mem_tlbMatches (s : State) (la : Word) (kind : Acc) (user : Bool) (e : TlbEntry) :
    e ∈ s.tlbMatches la kind user ↔
      ((∃ k, (k, e) ∈ s.tlb.l1 ∨ (k, e) ∈ s.tlb.l2) ∨ e ∈ s.tlb.cached) ∧ e.v = true ∧ e.lin = la.extractLsb' 12 20 ∧
      pagePermits s.wp e.u e.w kind user = true ∧ (kind = .write → e.d = true) := by
  simp only [State.tlbMatches, List.mem_filter, List.mem_append, List.mem_map, Prod.exists, exists_eq_right, exists_or,
    Bool.and_eq_true, beq_iff_eq, Bool.or_eq_true, bne_iff_ne, ne_eq, ← imp_iff_not_or, and_assoc]

/-- Settles O49. -/
theorem pageTranslation : Obligations.PageTranslation := by
  intro s la kind user
  refine ⟨fun hpg => translate_off hpg la kind user, fun hpg hno hr => ?walk, fun hpg hno => translate_walk hpg hno,
    fun hpg h => translate_tlb hpg h, fun e => ?entry⟩
  case walk =>
    have hfault (present : Bool) (h : pageWalk la kind user s = pageFault la kind user present s) :
        pageWalk la kind user s = .error (.exc (.pf
          ((if present then 1#16 <<< s.part.pfLayout.p else 0#16) |||
            (if kind == .write then 1#16 <<< s.part.pfLayout.w else 0#16) |||
            (if user then 1#16 <<< s.part.pfLayout.u else 0#16)))) { s with cr2 := la } := by
      rw [h, pageFault_error]
      simp only [pfCode, codeBit_eq]
    rw [translate_walk hpg hno]
    refine ⟨fun hd => ?_, fun hd hp => ?_, fun hd hp hno => ?_, fun hd hp hok => ?_⟩
    · exact hfault false (pageWalk_dte_absent hr hd)
    · exact hfault false (pageWalk_pte_absent hr hd hp)
    · exact hfault true (pageWalk_denied hr hd hp (Bool.eq_false_iff.2 fun h => hno ((s.walkPermits_iff _ _ _).1 h)))
    · exact pageWalk_ok hr hd hp ((s.walkPermits_iff _ _ _).2 hok)
  case entry =>
    rw [State.mem_tlbMatches, pagePermits_iff]
    have huser : (user = false ∨ e.u = true) ↔ (user = true → e.u = true) := by cases user <;> simp
    simp only [huser, ne_eq, ← imp_iff_not_or, imp_and, State.wp, and_left_comm, and_comm]

end Sys2Proof.Machine
end

section
/-! SUPPORT, and O35. The MMX instructions: what each action answers once MMX is available. -/
namespace Sys2Proof.Machine
open Sys2Proof

/-! The checks of every MMX instruction (R412). -/

theorem mmxAvailable_ud {s : State} (h : s.em = true) : mmxAvailable s = .error (.exc .ud) s := run_check_raise h
theorem mmxAvailable_nm {s : State} (hem : s.em = false) (hts : s.ts = true) : mmxAvailable s = .error (.exc .nm) s :=
  (run_check_pass (by simp [hem])).trans (run_check_raise hts)
theorem mmxAvailable_ok {s : State} (hem : s.em = false) (hts : s.ts = false) (hes : s.fpu.es = false) :
    mmxAvailable s = .ok () s :=
  (run_check_pass (by simp [hem])).trans <| (run_check_pass (by simp [hts])).trans <|
    congrFun (if_neg (by simp [hes])) s

/-! Operands and results (R412 to R415). -/

/-- The state with an MMX register written: bits 79:64 ones (R412). -/
def State.putMm (s : State) (r : MmReg) (v : BitVec 64) : State :=
  { s with fpu := s.fpu.setPhys (mmNum r) (0xFFFF#16 ++ v) }

@[simp] theorem run_getMm (r : MmReg) (s : State) : getMm r s = .ok (s.fpu.mm r) s := rfl
@[simp] theorem run_setMm (r : MmReg) (v : BitVec 64) (s : State) : setMm r v s = .ok () (s.putMm r v) := rfl
@[simp] theorem run_mmxDone (tag : Word16) (s : State) : mmxDone tag s = .ok () (s.mmxAfter tag) := rfl
theorem readMm64_mem {m : Mem} {s s1 : State} {pas : List PA} (hl : locateMem m 8 8 .read s = .ok pas s1)
    (hr : s1.readOk = true) : readMm64 (.mem m) s = .ok (s1.placeValue 64 (.mem pas)) s1 :=
  (run_bind_ok _ hl).trans (run_bind_ok _ (physRead_ok hr pas))
theorem writeMm64_mem {m : Mem} {s s1 : State} {pas : List PA} (v : BitVec 64)
    (hl : locateMem m 8 8 .write s = .ok pas s1) (hw : s1.writeOk pas = true) :
    writeMm64 (.mem m) v s = .ok () (s1.putPlace (.mem pas) v) :=
  (run_bind_ok _ hl).trans (physWrite_ok hw _)

/-! Each instruction. -/

section
variable {s : State} (h : mmxAvailable s = .ok () s)
include h

theorem exec_emms : exec .emms s = .next (s.mmxAfter 0xFFFF#16) := runInstr_ok (run_bind_ok _ h)
theorem exec_movdPE {e : RMv} {s1 : State} {v : Word} (hv : readRM32 e s = .ok v s1) (d : MmReg) :
    exec (.movdPE d e) s = .next ((s1.putMm d (0#32 ++ v)).mmxAfter 0#16) := by
  have hzero : v.setWidth 64 = 0#32 ++ v := BitVec.setWidth_eq_append (by omega)
  rw [← hzero]
  exact runInstr_ok ((run_bind_ok _ h).trans (run_bind_ok _ hv))
theorem exec_movdEP {e : RMv} {s1 : State} {p : Place} (hl : locateN 4 e .write s = .ok p s1)
    (hw : s1.placeWritable p = true) (r : MmReg) :
    exec (.movdEP e r) s = .next ((s1.putPlace p ((s1.fpu.mm r).extractLsb' 0 32)).mmxAfter 0#16) :=
  runInstr_ok <| (run_bind_ok _ h).trans <| (run_bind_ok _ hl).trans (run_bind_ok _ (writePlace_ok hw _))
theorem exec_movqPQ {x : RMmm} {s1 : State} {v : BitVec 64} (hv : readMm64 x s = .ok v s1) (d : MmReg) :
    exec (.movqPQ d x) s = .next ((s1.putMm d v).mmxAfter 0#16) :=
  runInstr_ok <| (run_bind_ok _ h).trans (run_bind_ok _ hv)
theorem exec_movqQP {x : RMmm} {s1 : State} {r : MmReg} (hw : writeMm64 x (s.fpu.mm r) s = .ok () s1) :
    exec (.movqQP x r) s = .next (s1.mmxAfter 0#16) :=
  runInstr_ok <| (run_bind_ok _ h).trans (run_bind_ok _ hw)
end

/-- Every MMX instruction begins with the checks, so that what they raise it raises. -/
theorem exec_mmx_unavailable {s : State} {x : Exc} (h : mmxAvailable s = .error (.exc x) s) {i : Instr} {d : MmReg} {e : RMv}
    {q : RMmm} (hi : i ∈ [Instr.emms, .movdPE d e, .movdEP e d, .movqPQ d q, .movqQP q d]) :
    exec i s = deliverFault x (rollback s s) := by
  have hrun (f : Unit → Act Unit) : runInstr (mmxAvailable >>= f) s = deliverFault x (rollback s s) :=
    runInstr_exc (run_bind_error _ h)
  simp only [List.mem_cons, List.not_mem_nil, or_false] at hi
  rcases hi with rfl | rfl | rfl | rfl | rfl <;> exact hrun _

/-- Settles O35. -/
theorem mmxMoves : Obligations.MmxMoves := by
  refine ⟨fun s hem hts hes => ?_, fun s i d e x hi => ⟨fun hem => ?_, fun hem hts => ?_⟩⟩
  · have h := mmxAvailable_ok hem hts hes
    exact ⟨exec_emms h, fun d e s1 v hv => exec_movdPE h hv d, fun e r s1 p hl hw => exec_movdEP h hl hw r,
      fun d r => ⟨exec_movqPQ (x := .reg r) h (run_getMm r s) d, exec_movqQP (x := .reg d) h (run_setMm d _ s)⟩,
      fun d m s1 pas hl hr => exec_movqPQ h (readMm64_mem hl hr) d,
      fun r m s1 pas hl hw => exec_movqQP h (writeMm64_mem _ hl hw)⟩
  · exact exec_mmx_unavailable (mmxAvailable_ud hem) hi
  · exact exec_mmx_unavailable (mmxAvailable_nm hem hts) hi

end Sys2Proof.Machine
end

section
/-! SUPPORT, and O38. The control registers at privilege level 0. -/
namespace Sys2Proof.Machine
open Sys2Proof

/-- At level 0, and in real mode, the check of R420 passes. -/
theorem requireCpl0_ok {s : State} (h : s.unprivileged = false) : requireCpl0 s = .ok () s :=
  congrFun (if_neg (by simp [h])) s

/-! A move from and to a control register (R428): the register is read or written, then the flags are undefined. -/

section
variable {s : State} (h : s.unprivileged = false) {n : Bits3} (r : Reg)
include h

theorem exec_movRCr_ok {x : Word} (hx : readCr n.toNat s = .ok x s) :
    exec (.movRCr r n) s = .next (({ s with regs := s.regs.set r x } : State).withFreeFlags) :=
  runInstr_ok <| (run_bind_ok _ (requireCpl0_ok h)).trans (run_bind_ok _ hx)
theorem exec_movRCr_exc {x : Exc} (hx : readCr n.toNat s = .error (.exc x) s) :
    exec (.movRCr r n) s = deliverFault x (rollback s s) :=
  runInstr_exc <| (run_bind_ok _ (requireCpl0_ok h)).trans (run_bind_error _ hx)
theorem exec_movCrR_ok {t : State} (hw : writeCr n.toNat (s.regs.get r) s = .ok () t) :
    exec (.movCrR n r) s = .next t.withFreeFlags :=
  runInstr_ok <| (run_bind_ok _ (requireCpl0_ok h)).trans <| (run_bind_ok _ (run_getReg r s)).trans (run_bind_ok _ hw)
theorem exec_movCrR_exc {x : Exc} (hw : writeCr n.toNat (s.regs.get r) s = .error (.exc x) s) :
    exec (.movCrR n r) s = deliverFault x (rollback s s) :=
  runInstr_exc <| (run_bind_ok _ (requireCpl0_ok h)).trans <| (run_bind_ok _ (run_getReg r s)).trans (run_bind_error _ hw)
theorem exec_movCrR_refuse {x : Refusal} (hw : writeCr n.toNat (s.regs.get r) s = .error (.refuse x) s) :
    exec (.movCrR n r) s = .refused x :=
  runInstr_refuse <| (run_bind_ok _ (requireCpl0_ok h)).trans <| (run_bind_ok _ (run_getReg r s)).trans
    (run_bind_error _ hw)
end

/-! Writing CR0 (R37, R112, R428). -/

section
variable {v : Word} {s : State}

theorem writeCr0_reserved (h : v &&& ~~~cr0Mask ≠ 0#32 ∨ v.getLsbD 4 = false) :
    writeCr0 v s = .error (.refuse .reservedControlBits) s :=
  run_check_refuse (by simpa only [Bool.or_eq_true, bne_iff_ne, Bool.not_eq_true'] using h)
variable (hres : v &&& ~~~cr0Mask = 0#32) (h4 : v.getLsbD 4 = true)
include hres h4
theorem writeCr0_gp (hpg : v.getLsbD 31 = true) (hpe : v.getLsbD 0 = false) :
    writeCr0 v s = .error (.exc (.gp 0#16)) s :=
  (run_check_pass (by rw [hres, h4]; decide)).trans (run_check_raise (by rw [hpg, hpe]; rfl))
theorem writeCr0_ok (hpg : v.getLsbD 31 = true → v.getLsbD 0 = true) :
    writeCr0 v s = .ok () (s.setCr0 (s.cr0Written v)) := by
  refine (run_check_pass (by rw [hres, h4]; decide)).trans (run_check_pass ?_)
  rw [Bool.and_eq_true, Bool.not_eq_true']
  exact fun ⟨h31, h0⟩ => by rw [hpg h31] at h0; cases h0
end

/-- CR0.NW keeps its value while CCR2.LOCK_NW = 1; all other bits, and so PG and PE, are as written. -/
theorem State.setCr0_cr0Written (s : State) (v : Word) : s.setCr0 (s.cr0Written v) =
    { s with
      cr0 := if s.cfg.ccr2.getLsbD 2 then (v &&& 0xDFFFFFFF#32) ||| (s.cr0 &&& 0x20000000#32) else v
      tlb := if v.getLsbD 31 = s.pg ∧ v.getLsbD 0 = s.pe then s.tlb else s.tlb.flushAll
      branchDue := v.getLsbD 31 != s.pg } := by
  have h31 : (s.cr0Written v).getLsbD 31 = v.getLsbD 31 := s.cr0Written_getLsbD v (by decide) (by decide)
  have h0 : (s.cr0Written v).getLsbD 0 = v.getLsbD 0 := s.cr0Written_getLsbD v (by decide) (by decide)
  have htlb : (if (v.getLsbD 31 != s.pg || v.getLsbD 0 != s.pe) = true then s.tlb.flushAll else s.tlb) =
      if v.getLsbD 31 = s.pg ∧ v.getLsbD 0 = s.pe then s.tlb else s.tlb.flushAll := by
    by_cases hsame : v.getLsbD 31 = s.pg ∧ v.getLsbD 0 = s.pe
    · rw [if_pos hsame, hsame.1, hsame.2, if_neg (by simp)]
    · rw [if_neg hsame, if_pos]
      simpa only [Bool.or_eq_true, bne_iff_ne, ne_eq, not_and_or] using hsame
  rw [← htlb]
  unfold State.setCr0
  rw [h31, h0]
  rfl

/-! Writing CR4 (R41, R428). -/

theorem writeCr4_reserved {v : Word} {s : State} (h : v &&& ~~~cr4Mask ≠ 0#32) :
    writeCr4 v s = .error (.refuse .reservedControlBits) s :=
  run_check_refuse (bne_iff_ne.2 h)
theorem writeCr4_ok {v : Word} {s : State} (h : v &&& ~~~cr4Mask = 0#32) :
    writeCr4 v s = .ok () { s with
      cr4 := v, tlb := if v.getLsbD 7 = s.cr4.getLsbD 7 then s.tlb else s.tlb.flushAll } := by
  refine (run_check_pass (by rw [h]; decide)).trans ?_
  simp only [run_upd, bne_iff_ne, ne_eq, ite_not]

/-- A control register that does not exist (R428). -/
theorem crAccess_absent {n : Bits3} (hn : n ∈ [1#3, 5#3, 6#3, 7#3]) (v : Word) (s : State) :
    readCr n.toNat s = .error (.exc .ud) s ∧ writeCr n.toNat v s = .error (.exc .ud) s := by
  simp only [List.mem_cons, List.not_mem_nil, or_false] at hn
  rcases hn with rfl | rfl | rfl | rfl <;> exact ⟨rfl, rfl⟩

/-- Settles O38. -/
theorem controlRegisters : Obligations.ControlRegisters := by
  intro s r h
  refine ⟨exec_movRCr_ok h r rfl, exec_movRCr_ok h r rfl, exec_movRCr_ok h r rfl, exec_movRCr_ok h r rfl,
    exec_movCrR_ok h r rfl, exec_movCrR_ok h r rfl, fun hres => ?cr4, fun hres => ?cr4Reserved, fun hres h4 => ⟨fun hpg hpe => ?gp,
    fun hpg => ?cr0⟩, fun hres => ?cr0Reserved, fun n hn => ?absent⟩
  case cr4 => exact exec_movCrR_ok h r (writeCr4_ok hres)
  case cr4Reserved => exact exec_movCrR_refuse h r (writeCr4_reserved hres)
  case gp => exact exec_movCrR_exc h r (writeCr0_gp hres h4 hpg hpe)
  case cr0 => exact exec_movCrR_ok h r ((writeCr0_ok hres h4 hpg).trans (by rw [State.setCr0_cr0Written]))
  case cr0Reserved => exact exec_movCrR_refuse h r (writeCr0_reserved hres)
  case absent =>
    obtain ⟨hread, hwrite⟩ := crAccess_absent hn (s.regs.get r) s
    exact ⟨exec_movRCr_exc h r hread, exec_movCrR_exc h r hwrite⟩

end Sys2Proof.Machine
end

section
/-! SUPPORT, and O25. IRET in protected mode: the checks of its selectors, one lemma per outcome, and the three returns. -/
namespace Sys2Proof.Machine
open Sys2Proof

/-! The code segment that a return names (R338): the checks in their order. -/

/-- A code segment to which a return at requested level `lvl` may go: conforming with a level not above it, else of that level. -/
def Attr.returnable (a : Attr) (lvl : BitVec 2) : Prop :=
  a.code = true ∧ (a.conforming = true ∧ a.dpl ≤ lvl ∨ a.conforming = false ∧ a.dpl = lvl)

section
variable {sel : Word16} {off : Word} {s : State}

theorem checkReturnSel_null (h : nullSel sel = true) : checkReturnSel sel off s = .error (.exc (.gp 0#16)) s :=
  run_check_raise h

variable (hn : nullSel sel = false)
include hn

theorem checkReturnSel_inner (h : rpl sel < s.cpl) :
    checkReturnSel sel off s = .error (.exc (.gp (selCode sel))) s :=
  (run_check_pass (by simp [hn])).trans (run_check_raise (by simpa using h))

variable (hl : s.cpl ≤ rpl sel)
include hl

/-- Once the level is right the descriptor is read and its rights are checked. -/
theorem checkReturnSel_noDesc {x : Exc} {s1 : State}
    (h : readDesc sel (.gp (selCode sel)) s = .error (.exc x) s1) : checkReturnSel sel off s = .error (.exc x) s1 :=
  (run_check_pass (by simp [hn])).trans <| (run_check_pass (by simpa using hl)).trans (run_bind_error _ h)

variable {a : Word} {d : BitVec 64} {s1 : State} (hd : readDesc sel (.gp (selCode sel)) s = .ok (a, d) s1)
include hd

theorem checkReturnSel_notReturnable (h : ¬ (descAttr d).returnable (rpl sel)) :
    checkReturnSel sel off s = .error (.exc (.gp (selCode sel))) s1 := by
  refine (run_check_pass (by simp [hn])).trans <| (run_check_pass (by simpa using hl)).trans <| (run_bind_ok _ hd).trans ?_
  by_cases hcode : (descAttr d).code = true
  · refine (run_check_pass (by simp [hcode])).trans ?_
    by_cases hconf : (descAttr d).conforming = true
    · exact run_check_raise (by simpa [Attr.returnable, hcode, hconf] using h)
    · exact (run_check_pass (by simp [hconf])).trans (run_check_raise (by simpa [Attr.returnable, hcode, hconf] using h))
  · exact run_check_raise (by simpa using hcode)

variable (hok : (descAttr d).returnable (rpl sel))
include hok

/-- A segment to which the return may go: that it is present and takes in the offset is left to check. -/
theorem checkReturnSel_returnable : checkReturnSel sel off s =
    (do
      if !(descAttr d).p then raise (.np (selCode sel))
      if decide (descLimit d < off) then raise (.gp 0#16)
      return (a, d) : Act (Word × BitVec 64)) s1 := by
  obtain ⟨hcode, hlevel⟩ := hok
  refine (run_check_pass (by simp [hn])).trans <| (run_check_pass (by simpa using hl)).trans <| (run_bind_ok _ hd).trans <|
    (run_check_pass (by simp [hcode])).trans <| (run_check_pass ?_).trans (run_check_pass ?_)
  · rcases hlevel with ⟨-, h⟩ | ⟨h, -⟩
    · simpa using fun _ => h
    · simp [h]
  · rcases hlevel with ⟨h, -⟩ | ⟨-, h⟩
    · simp [h]
    · simp [h]
theorem checkReturnSel_notPresent (hp : (descAttr d).p = false) :
    checkReturnSel sel off s = .error (.exc (.np (selCode sel))) s1 :=
  (checkReturnSel_returnable hn hl hd hok).trans (run_check_raise (by simp [hp]))
variable (hp : (descAttr d).p = true)
include hp
theorem checkReturnSel_pastLimit (hlim : descLimit d < off) : checkReturnSel sel off s = .error (.exc (.gp 0#16)) s1 :=
  (checkReturnSel_returnable hn hl hd hok).trans <| (run_check_pass (by simp [hp])).trans
    (run_check_raise (by simpa using hlim))
theorem checkReturnSel_ok (hlim : off ≤ descLimit d) : checkReturnSel sel off s = .ok (a, d) s1 :=
  (checkReturnSel_returnable hn hl hd hok).trans <| (run_check_pass (by simp [hp])).trans
    (run_check_pass (by simpa using hlim))
end

/-- A return to the same level, its code segment checked (R338). -/
def sameLevelReturn (sz : OSize) (sel : Word16) (off fl a : Word) (d : BitVec 64) : Act Unit := do
  markAccessed a d
  dropStack sz 3 0
  upd fun s => { s with segs := { s.segs with cs := Seg.ofDesc sel d }, eip := off }
  writeFlags fl sz true

/-! IRET in protected mode once its three items are read (R340). -/

section
variable {sz : OSize} {s s1 s2 s3 : State} {off sel32 fl : Word} (hnt : s.flags.nt = false)
  (h0 : peekStack sz 0 s = .ok off s1) (h1 : peekStack sz 1 s1 = .ok sel32 s2) (h2 : peekStack sz 2 s2 = .ok fl s3)
include hnt h0 h1 h2

/-- To V86 mode: from level 0, with VM = 1 in a 32-bit image. -/
theorem protReturn_v86 (hsz : sz = .w32) (hvm : fl.getLsbD 17 = true) (hcpl : s3.cpl = 0#2) :
    protReturn sz s = returnToV86 off (sel32.setWidth 16) fl s3 :=
  (run_check_pass (by simp [hnt])).trans <| (run_bind_ok _ (peekItem_ok h0)).trans <|
    (run_bind_ok _ (peekItem_ok h1)).trans <| (run_bind_ok _ (peekItem_ok h2)).trans <|
    congrFun (if_pos (by rw [hsz, hvm, hcpl]; rfl)) s3
/-- Else the code segment is checked first, and its level says which return it is. -/
theorem protReturn_prot (hno : ¬ (sz = .w32 ∧ fl.getLsbD 17 = true ∧ s3.cpl = 0#2)) : protReturn sz s =
    (do
      let (a, d) ← checkReturnSel (sel32.setWidth 16) off
      if rpl (sel32.setWidth 16) == s3.cpl then sameLevelReturn sz (sel32.setWidth 16) off fl a d
      else outerReturn sz (sel32.setWidth 16) off a d 3 0 (some fl) : Act Unit) s3 :=
  (run_check_pass (by simp [hnt])).trans <| (run_bind_ok _ (peekItem_ok h0)).trans <|
    (run_bind_ok _ (peekItem_ok h1)).trans <| (run_bind_ok _ (peekItem_ok h2)).trans <|
    congrFun (if_neg (by simpa [and_assoc] using hno)) s3
end

theorem sameLevelReturn_ok {sz : OSize} {sel : Word16} {off a fl : Word} {d : BitVec 64} {s s1 : State}
    (hm : markAccessed a d s = .ok () s1) : sameLevelReturn sz sel off fl a d s =
      .ok () { s1.popped sz 3 0 with
        segs := { s1.segs with cs := Seg.ofDesc sel d }, eip := off, flags := s1.writtenFlags fl sz true } :=
  run_bind_ok _ hm

/-- The stack segment that a return to an outer level checks (R338). -/
def checkOuterStack (sel ss : Word16) : Act (Word × BitVec 64) :=
  checkStackSel ss (rpl sel) (.gp 0#16) (.gp (selCode ss)) (.ss (selCode ss))
section
variable {sz : OSize} {sel : Word16} {off a fl : Word} {d : BitVec 64} {s s1 s2 : State} {sp ss : Nat}
  (h3 : memRead .ss (wrapSp s.segs.ss (s.stackPtr + BitVec.ofNat 32 (3 * osBytes sz))) (osBytes sz) (osBytes sz) s = .ok sp s1)
  (h4 : memRead .ss (wrapSp s.segs.ss (s.stackPtr + BitVec.ofNat 32 (4 * osBytes sz))) (osBytes sz) (osBytes sz) s1 = .ok ss s2)
include h3 h4

theorem outerReturn_error {x : Stop} {s3 : State} (hc : checkOuterStack sel (BitVec.ofNat 16 ss) s2 = .error x s3) :
    outerReturn sz sel off a d 3 0 (some fl) s = .error x s3 :=
  (run_bind_ok _ (before_ok _ h3)).trans <| (run_bind_ok _ h4).trans (run_bind_error _ hc)
theorem outerReturn_ok {sa : Word} {sd : BitVec 64} {s3 s4 s5 : State}
    (hc : checkOuterStack sel (BitVec.ofNat 16 ss) s2 = .ok (sa, sd) s3) (hm : markAccessed a d s3 = .ok () s4)
    (hms : markAccessed sa sd s4 = .ok () s5) :
    outerReturn sz sel off a d 3 0 (some fl) s = .ok () { s5 with
      flags := s5.writtenFlags fl sz true
      segs := ({ s5.segs with cs := Seg.ofDesc sel d, ss := Seg.ofDesc (BitVec.ofNat 16 ss) sd } : Segs).afterReturn (rpl sel)
      cpl := rpl sel, eip := off, regs := { s5.regs with esp := BitVec.ofNat 32 sp } } :=
  (run_bind_ok _ (before_ok _ h3)).trans <| (run_bind_ok _ h4).trans <| (run_bind_ok _ hc).trans <|
    (run_bind_ok _ hm).trans (run_bind_ok _ hms)
end

/-- A return to V86 mode loads six more doublewords (R340). -/
theorem returnToV86_ok {t : Nat → State} {v : Nat → Word} (sel : Word16)
    (h : ∀ k, k < 9 → peekStack .w32 k (t k) = .ok (v k) (t (k + 1))) :
    returnToV86 (v 0) sel (v 2) (t 3) = .ok () { t 9 with
      flags := { Flags.ofWord (v 2) with
        vm := true, id := pick ((t 9).cfg.ccr4.getLsbD 7) (Flags.ofWord (v 2)).id (t 9).flags.id }
      cpl := 3#2
      segs := { cs := Seg.v86Load sel, ss := Seg.v86Load ((v 4).setWidth 16), es := Seg.v86Load ((v 5).setWidth 16)
                ds := Seg.v86Load ((v 6).setWidth 16), fs := Seg.v86Load ((v 7).setWidth 16)
                gs := Seg.v86Load ((v 8).setWidth 16) }
      eip := v 0 &&& 0xFFFF#32, regs := { (t 9).regs with esp := v 3 } } :=
  have item (k : Nat) (hk : k < 9) : peekItem .w32 9 k (t k) = .ok (v k) (t (k + 1)) := peekItem_ok (h k hk)
  (run_bind_ok _ (item 3 (by decide))).trans <| (run_bind_ok _ (item 4 (by decide))).trans <|
    (run_bind_ok _ (item 5 (by decide))).trans <| (run_bind_ok _ (item 6 (by decide))).trans <|
    (run_bind_ok _ (item 7 (by decide))).trans (run_bind_ok _ (item 8 (by decide)))

/-! The instruction in protected mode. -/

section
variable {sz : OSize} {s : State} (hs : s.realLike = false)
include hs

theorem interruptReturn_prot : interruptReturn sz s =
    (do
      protReturn sz
      transferred
      upd fun s => { s with nmiBlocked := false } : Act Unit) s := by
  have hv86 : ¬ (s.v86 && s.flags.iopl != 3#2) = true := by
    have h : s.pe = true ∧ s.flags.vm = false := by simpa [State.realLike] using hs
    simp [State.v86, h.2]
  exact (run_bind_ok _ (run_get s)).trans <| (run_check_pass hv86).trans <| congrFun (if_neg (by simp [hs])) s
theorem exec_iret_prot_ok {t : State} (h : protReturn sz s = .ok () t) :
    exec (.iret sz) s = .next { t with stale := [], nmiBlocked := false } :=
  runInstr_ok <| (interruptReturn_prot hs).trans (run_bind_ok _ h)
theorem exec_iret_prot_exc {t : State} {x : Exc} (h : protReturn sz s = .error (.exc x) t) :
    exec (.iret sz) s = deliverFault x (rollback s t) :=
  runInstr_exc <| (interruptReturn_prot hs).trans (run_bind_error _ h)
theorem exec_iret_prot_refuse {t : State} {x : Refusal} (h : protReturn sz s = .error (.refuse x) t) :
    exec (.iret sz) s = .refused x :=
  runInstr_refuse <| (interruptReturn_prot hs).trans (run_bind_error _ h)
end

/-! Segment registers that a return loads or checks. -/

theorem Seg.v86Load_base (sel : Word16) : (Seg.v86Load sel).base = BitVec.ofNat 32 (16 * sel.toNat) := by
  apply BitVec.eq_of_toNat_eq
  have h : (Seg.v86Load sel).base = sel.setWidth 32 <<< 4 := rfl
  rw [h, BitVec.toNat_shiftLeft, BitVec.toNat_setWidth, BitVec.toNat_ofNat, Nat.shiftLeft_eq]
  omega
theorem Seg.afterReturn_eq (g : Seg) (lvl : BitVec 2) : g.afterReturn lvl =
    if g.attr.p ∧ (g.attr.data ∨ g.attr.code ∧ g.attr.conforming = false) ∧ g.attr.dpl < lvl then
      { g with sel := 0#16, attr := { g.attr with p := false } }
    else g := by
  refine if_congr ?_ rfl rfl
  simp only [Bool.and_eq_true, Bool.or_eq_true, Bool.not_eq_true', decide_eq_true_eq, and_assoc]

/-- Settles O25. -/
theorem protectedIret : Obligations.ProtectedIret := by
  refine ⟨?prot, ?v86, ?nt, ?load, Seg.afterReturn_eq, ?early, ?desc⟩
  case prot =>
    intro sz s s1 s2 s3 off sel32 fl hs hnt h0 h1 h2 hno
    have hret := protReturn_prot hnt h0 h1 h2 hno
    refine ⟨fun x s4 hc => ?_, fun a d s4 hc => ⟨fun hlvl s5 hm => ?_, fun hlvl s5 s6 sp ss h3 h4 => ?_⟩⟩
    · exact exec_iret_prot_exc hs (hret.trans (run_bind_error _ hc))
    · exact exec_iret_prot_ok hs <| hret.trans <| (run_bind_ok _ hc).trans <|
        (congrFun (if_pos (by simpa using hlvl)) s4).trans (sameLevelReturn_ok hm)
    · have houter {r} (h : outerReturn sz (sel32.setWidth 16) off a d 3 0 (some fl) s4 = r) : protReturn sz s = r :=
        hret.trans <| (run_bind_ok _ hc).trans <| (congrFun (if_neg (by simpa using hlvl)) s4).trans h
      exact ⟨fun x s7 hx => exec_iret_prot_exc hs (houter (outerReturn_error h3 h4 hx)),
        fun sa sd s7 s8 s9 hok hm hms => exec_iret_prot_ok hs (houter (outerReturn_ok h3 h4 hok hm hms))⟩
  case v86 =>
    intro t v hs hnt h hvm hcpl
    have hret := protReturn_v86 hnt (h 0 (by decide)) (h 1 (by decide)) (h 2 (by decide)) rfl hvm hcpl
    exact exec_iret_prot_ok hs (hret.trans (returnToV86_ok _ h))
  case nt =>
    intro sz s hs hnt
    exact exec_iret_prot_refuse hs (run_check_refuse hnt)
  case load =>
    intro sel
    have hwritable : ({ Attr.realMode with dpl := 3#2 } : Attr).writable = true := by decide
    exact ⟨rfl, Seg.v86Load_base sel, rfl, rfl, hwritable⟩
  case early =>
    intro sel off s
    exact ⟨checkReturnSel_null, checkReturnSel_inner, fun hn hl x s1 h => checkReturnSel_noDesc hn hl h⟩
  case desc =>
    intro sel off a d s s1 hn hl hd
    exact ⟨checkReturnSel_notReturnable hn hl hd, checkReturnSel_notPresent hn hl hd, checkReturnSel_pastLimit hn hl hd,
      checkReturnSel_ok hn hl hd⟩

end Sys2Proof.Machine
end

section
/-! SUPPORT. Cache lines: the bytes and MESI codes of a line, the line that answers an access, and what keeps the lines well
formed. -/
namespace Sys2Proof.Machine
open Sys2Proof

/-! The place of an address in a line (R170, R171). -/

theorem tag_toNat (a : Word) : (a.extractLsb' 14 18).toNat = a.toNat / 16384 := by
  have := a.isLt
  simp only [BitVec.extractLsb'_toNat, Nat.shiftRight_eq_div_pow]
  omega
theorem lineIndex_toNat (a : Word) : (a.extractLsb' 5 9).toNat = a.toNat / 32 % 512 := by
  simp only [BitVec.extractLsb'_toNat, Nat.shiftRight_eq_div_pow]
theorem dwordIndex_toNat (a : Word) : (a.extractLsb' 2 3).toNat = a.toNat / 4 % 8 := by
  simp only [BitVec.extractLsb'_toNat, Nat.shiftRight_eq_div_pow]
theorem byteIndex_toNat (a : Word) : (a.extractLsb' 0 2).toNat = a.toNat % 4 := by
  simp only [BitVec.extractLsb'_toNat, Nat.shiftRight_eq_div_pow]
  omega
theorem upperSector_iff (a : Word) : a.getLsbD 4 = true ↔ a.toNat / 16 % 2 = 1 := by
  rw [← BitVec.testBit_toNat, Nat.testBit_eq_decide_div_mod_eq, decide_eq_true_eq]

/-- Two addresses with the same tag and line that differ are different bytes of the line. -/
theorem byte_ne_of_line_eq {a b : Word} (htag : b.extractLsb' 14 18 = a.extractLsb' 14 18)
    (hline : b.extractLsb' 5 9 = a.extractLsb' 5 9) (hne : b ≠ a) :
    (b.extractLsb' 2 3).toNat ≠ (a.extractLsb' 2 3).toNat ∨ (b.extractLsb' 0 2).toNat ≠ (a.extractLsb' 0 2).toNat := by
  have htag := congrArg BitVec.toNat htag
  have hline := congrArg BitVec.toNat hline
  have hne : b.toNat ≠ a.toNat := fun h => hne (BitVec.eq_of_toNat_eq h)
  rw [tag_toNat, tag_toNat] at htag
  rw [lineIndex_toNat, lineIndex_toNat] at hline
  rw [dwordIndex_toNat, dwordIndex_toNat, byteIndex_toNat, byteIndex_toNat]
  omega

/-! The bytes of a line. -/

theorem getLsbD_0xFF (i : Nat) : (0xFF#32).getLsbD i = decide (i < 8) := by
  rw [show (0xFF#32 : Word) = BitVec.ofNat 32 (2 ^ 8 - 1) from rfl, BitVec.getLsbD_ofNat, Nat.testBit_two_pow_sub_one]
  by_cases h : i < 8 <;> simp [h]; omega
/-- Bit by bit: those of byte k are the new ones. -/
theorem getLsbD_setByteOf (w : Word) (k : Nat) (v : Byte) {i : Nat} (hi : i < 32) :
    (setByteOf w k v).getLsbD i = if 8 * k ≤ i ∧ i < 8 * k + 8 then v.getLsbD (i - 8 * k) else w.getLsbD i := by
  simp only [setByteOf, BitVec.getLsbD_or, BitVec.getLsbD_and, BitVec.getLsbD_not,
    BitVec.getLsbD_shiftLeft, BitVec.getLsbD_setWidth, getLsbD_0xFF, hi, decide_true, Bool.true_and]
  by_cases hlo : i < 8 * k
  · have h1 : ¬ 8 * k ≤ i := by omega
    simp [hlo, h1]
  · by_cases hup : i - 8 * k < 8
    · have h1 : 8 * k ≤ i ∧ i < 8 * k + 8 := by omega
      have h2 : i - 8 * k < 32 := by omega
      simp [hlo, h1, h2, hup]
    · have h1 : ¬ i < 8 * k + 8 := by omega
      have h2 : v.getLsbD (i - 8 * k) = false := BitVec.getLsbD_of_ge v _ (by omega)
      simp [hlo, h1, hup, h2]
theorem setByteOf_same (w : Word) {k : Nat} (hk : k < 4) (v : Byte) : (setByteOf w k v).extractLsb' (8 * k) 8 = v := by
  apply BitVec.eq_of_getLsbD_eq
  intro i hi
  rw [BitVec.getLsbD_extractLsb', getLsbD_setByteOf _ _ _ (by omega), if_pos (by omega), Nat.add_sub_cancel_left]
  simp [hi]
theorem setByteOf_other (w : Word) {k j : Nat} (hj : j < 4) (h : j ≠ k) (v : Byte) :
    (setByteOf w k v).extractLsb' (8 * j) 8 = w.extractLsb' (8 * j) 8 := by
  apply BitVec.eq_of_getLsbD_eq
  intro i hi
  rw [BitVec.getLsbD_extractLsb', getLsbD_setByteOf _ _ _ (by omega), if_neg (by omega), BitVec.getLsbD_extractLsb']

theorem CacheLine.byte_setByte_same {l : CacheLine} (hl : l.data.length = 8) (a : Word) (v : Byte) :
    (l.setByte a v).byte a = v := by
  have hi : (a.extractLsb' 2 3).toNat < l.data.length := hl ▸ (a.extractLsb' 2 3).isLt
  have hk : (a.extractLsb' 0 2).toNat < 4 := (a.extractLsb' 0 2).isLt
  unfold CacheLine.byte CacheLine.setByte
  rw [List.getD_eq_getElem?_getD, List.getElem?_set_self hi]
  exact setByteOf_same _ hk v
theorem CacheLine.byte_setByte_other {l : CacheLine} (hl : l.data.length = 8) {a b : Word} (v : Byte)
    (h : (b.extractLsb' 2 3).toNat ≠ (a.extractLsb' 2 3).toNat ∨ (b.extractLsb' 0 2).toNat ≠ (a.extractLsb' 0 2).toNat) :
    (l.setByte a v).byte b = l.byte b := by
  have hk : (b.extractLsb' 0 2).toNat < 4 := (b.extractLsb' 0 2).isLt
  unfold CacheLine.byte CacheLine.setByte
  by_cases hi : (b.extractLsb' 2 3).toNat = (a.extractLsb' 2 3).toNat
  · have hlen : (a.extractLsb' 2 3).toNat < l.data.length := hl ▸ (a.extractLsb' 2 3).isLt
    rw [hi, List.getD_eq_getElem?_getD, List.getElem?_set_self hlen]
    exact setByteOf_other _ hk (h.resolve_left (by simpa using hi)) v
  · rw [List.getD_eq_getElem?_getD, List.getElem?_set_ne (Ne.symm hi), List.getD_eq_getElem?_getD]

/-! The fields of a changed line. -/

section
variable (l : CacheLine) (a b : Word) (v : Byte) (m : BitVec 4)
@[simp] theorem CacheLine.setByte_tag : (l.setByte a v).tag = l.tag := rfl
@[simp] theorem CacheLine.setByte_smi : (l.setByte a v).smi = l.smi := rfl
@[simp] theorem CacheLine.setByte_mesi0 : (l.setByte a v).mesi0 = l.mesi0 := rfl
@[simp] theorem CacheLine.setByte_mesi1 : (l.setByte a v).mesi1 = l.mesi1 := rfl
@[simp] theorem CacheLine.setByte_mesi : (l.setByte a v).mesi b = l.mesi b := rfl
@[simp] theorem CacheLine.setByte_length : (l.setByte a v).data.length = l.data.length := List.length_set
@[simp] theorem CacheLine.setMesi_tag : (l.setMesi a m).tag = l.tag := by unfold CacheLine.setMesi; split <;> rfl
@[simp] theorem CacheLine.setMesi_smi : (l.setMesi a m).smi = l.smi := by unfold CacheLine.setMesi; split <;> rfl
@[simp] theorem CacheLine.setMesi_data : (l.setMesi a m).data = l.data := by unfold CacheLine.setMesi; split <;> rfl
@[simp] theorem CacheLine.setMesi_byte : (l.setMesi a m).byte b = l.byte b := by
  rw [CacheLine.byte, CacheLine.setMesi_data, CacheLine.byte]
/-- The code of the sector that holds `a` is the new one, that of the other sector stays. -/
theorem CacheLine.mesi_setMesi : (l.setMesi a m).mesi b = if b.getLsbD 4 = a.getLsbD 4 then m else l.mesi b := by
  unfold CacheLine.setMesi CacheLine.mesi
  cases a.getLsbD 4 <;> cases b.getLsbD 4 <;> rfl
end
theorem CacheLine.mesi_congr (l : CacheLine) {a b : Word} (h : a.getLsbD 4 = b.getLsbD 4) : l.mesi a = l.mesi b := by
  rw [CacheLine.mesi, CacheLine.mesi, h]

/-! The line that answers an access (R157, R170, R171). -/

/-- The entry answers for an address of main or SMM memory; where only a locked one may, it is locked. -/
def lineAnswers (smm locked : Bool) (pa : Word) (e : Nat × CacheLine) : Bool :=
  mesiValid (e.2.mesi pa) && (!locked || mesiLocked (e.2.mesi pa)) && e.2.smi == smm && e.2.tag == pa.extractLsb' 14 18 &&
    e.1 % 512 == (pa.extractLsb' 5 9).toNat
theorem Cache.hit_eq_find (c : Cache) (smm locked : Bool) (pa : Word) :
    c.hit smm locked pa = c.lines.find? (lineAnswers smm locked pa) := rfl
theorem lineAnswers_iff {smm locked : Bool} {pa : Word} {e : Nat × CacheLine} : lineAnswers smm locked pa e = true ↔
    mesiValid (e.2.mesi pa) = true ∧ (locked = true → mesiLocked (e.2.mesi pa) = true) ∧ e.2.smi = smm ∧
    e.2.tag = pa.extractLsb' 14 18 ∧ e.1 % 512 = (pa.extractLsb' 5 9).toNat := by
  simp only [lineAnswers, Bool.and_eq_true, beq_iff_eq, and_assoc, not_or_eq_true_iff]
/-- A line with the same tag and memory and codes that mean the same answers the same. -/
theorem lineAnswers_congr {smm locked : Bool} {pa : Word} {k : Nat} {l l' : CacheLine} (htag : l'.tag = l.tag)
    (hsmi : l'.smi = l.smi) (hvalid : mesiValid (l'.mesi pa) = mesiValid (l.mesi pa))
    (hlocked : mesiLocked (l'.mesi pa) = mesiLocked (l.mesi pa)) :
    lineAnswers smm locked pa (k, l') = lineAnswers smm locked pa (k, l) := by
  simp only [lineAnswers, htag, hsmi, hvalid, hlocked]

/-! Well formed lines (R170, R176). -/

/-- The two entries hold the same address, valid. -/
def synonymous (e f : Nat × CacheLine) : Bool :=
  e.1 != f.1 && e.1 % 512 == f.1 % 512 && e.2.tag == f.2.tag && e.2.smi == f.2.smi &&
    ((mesiValid e.2.mesi0 && mesiValid f.2.mesi0) || (mesiValid e.2.mesi1 && mesiValid f.2.mesi1))
theorem Cache.synonym_eq_any (c : Cache) (k : Nat) (l : CacheLine) :
    c.synonym k l = c.lines.any (fun e => synonymous e (k, l)) := rfl
/-- What `State.cacheOk` says of the listed lines. -/
structure LinesOk (ls : List (Nat × CacheLine)) : Prop where
  nodup : (ls.map Prod.fst).Nodup
  length : ∀ e ∈ ls, e.2.data.length = 8
  noSynonym : ∀ e ∈ ls, ∀ f ∈ ls, synonymous f e = false
theorem State.cacheOk_iff (s : State) : s.cacheOk = true ↔ LinesOk s.cache.lines := by
  simp only [State.cacheOk, Cache.synonym_eq_any, Bool.and_eq_true, decide_eq_true_eq, List.all_eq_true, beq_iff_eq,
    Bool.not_eq_true', List.any_eq_false, Bool.not_eq_true]
  exact ⟨fun ⟨h, h'⟩ => ⟨h, fun e he => (h' e he).1, fun e he => (h' e he).2⟩,
    fun ⟨h, h1, h2⟩ => ⟨h, fun e he => ⟨h1 e he, h2 e he⟩⟩⟩
theorem LinesOk.eq_of_key {ls : List (Nat × CacheLine)} (h : LinesOk ls) {e f : Nat × CacheLine} (he : e ∈ ls) (hf : f ∈ ls)
    (hk : e.1 = f.1) : e = f := List.inj_on_of_nodup_map h.nodup he hf hk
/-- Two entries that hold one address, both with a valid code there, are one. -/
theorem LinesOk.unique {ls : List (Nat × CacheLine)} (h : LinesOk ls) {e f : Nat × CacheLine} (he : e ∈ ls) (hf : f ∈ ls)
    {smm lock lock' : Bool} {pa : Word} (hae : lineAnswers smm lock pa e = true) (haf : lineAnswers smm lock' pa f = true) :
    e = f := by
  obtain ⟨hve, -, hse, hte, hke⟩ := lineAnswers_iff.1 hae
  obtain ⟨hvf, -, hsf, htf, hkf⟩ := lineAnswers_iff.1 haf
  by_contra hne
  have hkey : f.1 ≠ e.1 := fun hk => hne (h.eq_of_key he hf hk.symm)
  have hboth : mesiValid f.2.mesi0 && mesiValid e.2.mesi0 || mesiValid f.2.mesi1 && mesiValid e.2.mesi1 := by
    unfold CacheLine.mesi at hve hvf
    cases hi : pa.getLsbD 4 <;> simp_all
  have hsyn := h.noSynonym e he f hf
  simp [synonymous, hkey, hke, hkf, hte, htf, hse, hsf, hboth] at hsyn
/-- The line that answers is the one that holds the address. -/
theorem LinesOk.find_eq_some_iff {ls : List (Nat × CacheLine)} (h : LinesOk ls) {smm locked : Bool} {pa : Word}
    {e : Nat × CacheLine} : ls.find? (lineAnswers smm locked pa) = some e ↔ e ∈ ls ∧ lineAnswers smm locked pa e = true := by
  refine ⟨fun hf => ⟨List.mem_of_find?_eq_some hf, List.find?_some hf⟩, fun ⟨he, ha⟩ => ?_⟩
  cases hf : ls.find? (lineAnswers smm locked pa) with
  | none => exact absurd ha (List.find?_eq_none.1 hf e he)
  | some f => rw [h.unique (List.mem_of_find?_eq_some hf) he (List.find?_some hf) ha]

/-! One line replaced. -/

theorem mem_putKey {α : Type} {l : List (Nat × α)} {k : Nat} {v : α} {e : Nat × α} :
    e ∈ putKey l k v ↔ e = (k, v) ∨ e ∈ l ∧ e.1 ≠ k := by simp [putKey]
theorem putKey_keys_nodup {α : Type} {l : List (Nat × α)} (h : (l.map Prod.fst).Nodup) (k : Nat) (v : α) :
    ((putKey l k v).map Prod.fst).Nodup := by
  rw [putKey, List.map_cons, List.nodup_cons]
  refine ⟨?_, h.sublist (List.filter_sublist.map _)⟩
  simp
/-- A line of the same tag and memory, valid at most where the old one was, takes its place. -/
structure CacheLine.Narrows (l' l : CacheLine) : Prop where
  tag : l'.tag = l.tag
  smi : l'.smi = l.smi
  lower : mesiValid l'.mesi0 = true → mesiValid l.mesi0 = true
  upper : mesiValid l'.mesi1 = true → mesiValid l.mesi1 = true
theorem CacheLine.Narrows.refl (l : CacheLine) : l.Narrows l := ⟨rfl, rfl, id, id⟩
theorem synonymous_of_narrows {k j : Nat} {l l' m m' : CacheLine} (h : l'.Narrows l) (hm : m'.Narrows m)
    (hs : synonymous (k, l') (j, m') = true) : synonymous (k, l) (j, m) = true := by
  simp only [synonymous, Bool.and_eq_true, Bool.or_eq_true, h.tag, h.smi, hm.tag, hm.smi] at hs ⊢
  exact ⟨hs.1, hs.2.imp (fun hv => ⟨h.lower hv.1, hm.lower hv.2⟩) (fun hv => ⟨h.upper hv.1, hm.upper hv.2⟩)⟩
theorem LinesOk.putKey {ls : List (Nat × CacheLine)} (h : LinesOk ls) {k : Nat} {l l' : CacheLine} (hl : (k, l) ∈ ls)
    (hn : l'.Narrows l) (hlen : l'.data.length = 8) : LinesOk (putKey ls k l') := by
  have old : ∀ e ∈ Machine.putKey ls k l', ∃ m, (e.1, m) ∈ ls ∧ e.2.Narrows m := by
    intro e he
    rcases mem_putKey.1 he with rfl | ⟨he, -⟩
    · exact ⟨l, hl, hn⟩
    · exact ⟨e.2, he, .refl _⟩
  refine ⟨putKey_keys_nodup h.nodup k l', fun e he => ?_, fun e he f hf => ?_⟩
  · rcases mem_putKey.1 he with rfl | ⟨he, -⟩
    · exact hlen
    · exact h.length e he
  · obtain ⟨m, hm, hem⟩ := old e he
    obtain ⟨n, hn, hfn⟩ := old f hf
    exact Bool.eq_false_iff.2 fun hs =>
      Bool.eq_false_iff.1 (h.noSynonym _ hm _ hn) (synonymous_of_narrows hfn hem hs)
/-- Where the new line answers as the old one did, each access finds the line it found before, or the new one for the old. -/
theorem LinesOk.find_putKey {ls : List (Nat × CacheLine)} (h : LinesOk ls) {k : Nat} {l l' : CacheLine} (hl : (k, l) ∈ ls)
    (hn : l'.Narrows l) (hlen : l'.data.length = 8) {smm locked : Bool} {pa : Word}
    (hans : lineAnswers smm locked pa (k, l') = lineAnswers smm locked pa (k, l)) :
    (Machine.putKey ls k l').find? (lineAnswers smm locked pa) =
      (ls.find? (lineAnswers smm locked pa)).map fun e => if e.1 = k then (k, l') else e := by
  cases hf : ls.find? (lineAnswers smm locked pa) with
  | none =>
    rw [List.find?_eq_none] at hf
    refine List.find?_eq_none.2 fun e he => ?_
    rcases mem_putKey.1 he with rfl | ⟨he, -⟩
    · exact hans ▸ hf _ hl
    · exact hf e he
  | some e =>
    obtain ⟨he, ha⟩ := h.find_eq_some_iff.1 hf
    rw [Option.map_some, (h.putKey hl hn hlen).find_eq_some_iff]
    by_cases hk : e.1 = k
    · obtain rfl : e = (k, l) := h.eq_of_key he hl hk
      rw [if_pos rfl]
      exact ⟨mem_putKey.2 (.inl rfl), hans ▸ ha⟩
    · rw [if_neg hk]
      exact ⟨mem_putKey.2 (.inr ⟨he, hk⟩), ha⟩

end Sys2Proof.Machine
end

section
/-! SUPPORT. A stored byte (R157, R166, R171): what each physical address reads as afterwards. -/
namespace Sys2Proof.Machine
open Sys2Proof

/-! Memory behind the cache (R552, PHYS_MEM). -/

theorem State.setMemByte_smm {s : State} {a : Word} (h : s.smmSelected a = true) (v : Byte) :
    s.setMemByte a v = { s with smm := s.smm.write a.toNat v } := by rw [State.setMemByte, if_pos h]
theorem State.setMemByte_main {s : State} {a : Word} (h : s.smmSelected a = false) (v : Byte) :
    s.setMemByte a v = s.setMainByte a v := by rw [State.setMemByte, if_neg (by simp [h])]
theorem State.setMainByte_ram {s : State} {a : Word} (h : s.part.ram a = true) (v : Byte) :
    s.setMainByte a v = { s with mem := s.mem.write a.toNat v } := by rw [State.setMainByte, if_pos h]
theorem State.setMainByte_rom {s : State} {a : Word} (h : s.part.ram a = false) (v : Byte) :
    s.setMainByte a v = s := by rw [State.setMainByte, if_neg (by simp [h])]
theorem Part.nothing_of_ram {p : Part} {a : Word} (h : p.ram a = true) : p.nothing a = false := by
  simp only [Part.ram, Bool.and_eq_true, Bool.not_eq_true'] at h
  exact h.2
theorem toNat_ne {a b : Word} (h : b ≠ a) : b.toNat ≠ a.toNat := fun he => h (BitVec.eq_of_toNat_eq he)
/-- What memory behind the cache holds, by the two memories. -/
theorem State.memByte_eq (s : State) (m m' : Memory) (b : Word) : ({ s with mem := m, smm := m' } : State).memByte b =
    if s.smmSelected b then m'.read b.toNat
    else if s.part.nothing b then Config.absentByte s.freeCtr b else m.read b.toNat := rfl
/-- A byte stored behind the cache leaves every other byte alone. -/
theorem State.memByte_setMemByte_other (s : State) {a b : Word} (h : b ≠ a) (v : Byte) :
    (s.setMemByte a v).memByte b = s.memByte b := by
  have hread (m : Memory) : (m.write a.toNat v).read b.toNat = m.read b.toNat :=
    Memory.read_write_other m v (toNat_ne h)
  cases ha : s.smmSelected a with
  | true =>
    rw [State.setMemByte_smm ha]
    exact (s.memByte_eq s.mem _ b).trans (by rw [hread]; rfl)
  | false =>
    rw [State.setMemByte_main ha]
    cases hram : s.part.ram a with
    | false => rw [State.setMainByte_rom hram]
    | true =>
      rw [State.setMainByte_ram hram]
      exact (s.memByte_eq _ s.smm b).trans (by rw [hread]; rfl)
/-- It is read back where memory keeps it. -/
theorem State.memByte_setMemByte_same {s : State} (hm : s.memoryOk = true) (a : Word) (v : Byte) :
    (s.setMemByte a v).memByte a = if s.smmSelected a || s.part.ram a then v else s.memByte a := by
  simp only [State.memoryOk, Bool.and_eq_true] at hm
  obtain ⟨hmem, hsmm⟩ := hm
  cases ha : s.smmSelected a with
  | true =>
    rw [State.setMemByte_smm ha]
    exact (s.memByte_eq s.mem _ a).trans (by rw [ha, Memory.read_write_same hsmm]; rfl)
  | false =>
    rw [State.setMemByte_main ha]
    cases hram : s.part.ram a with
    | false => rw [State.setMainByte_rom hram]; rfl
    | true =>
      rw [State.setMainByte_ram hram]
      exact (s.memByte_eq _ s.smm a).trans (by rw [ha, Part.nothing_of_ram hram, Memory.read_write_same hmem]; rfl)

/-! A byte stored through the cache. -/

/-- The state as a store of a byte finds it: the old byte noted for fetch, the mark of a modified line set (R166, R432). -/
def State.noted (s : State) (p : PA) : State :=
  { s with
    stale := { smm := s.smmSelected p.addr, addr := p.addr.toNat, byte := s.physByte p.addr } :: s.stale
    cache := { s.cache with
      dirty := s.cache.dirty || (s.writeBack p && (s.cache.used || s.cacheable p)) } }
/-- The line as a store of a byte leaves it: an exclusive sector under write-back policy becomes modified (R161). -/
def State.storedLine (s : State) (l : CacheLine) (p : PA) (v : Byte) : CacheLine :=
  if l.mesi p.addr == 0xA#4 && s.writeBack p then (l.setByte p.addr v).setMesi p.addr 0x8#4 else l.setByte p.addr v
theorem State.storeByte_miss {s : State} {p : PA} (h : s.lineAt p.addr = none) (v : Byte) :
    s.storeByte p v = (s.noted p).setMemByte p.addr v := by
  have h' : (s.noted p).lineAt p.addr = none := h
  unfold State.noted at h' ⊢
  simp only [State.storeByte, h']
/-- A store that hits a line writes the line; memory too, or not. -/
theorem State.storeByte_hit {s : State} {p : PA} {k : Nat} {l : CacheLine} (h : s.lineAt p.addr = some (k, l)) (v : Byte) :
    ∃ u, (u = s.noted p ∨ u = (s.noted p).setMemByte p.addr v) ∧
      s.storeByte p v = { u with cache := { u.cache with lines := putKey s.cache.lines k (s.storedLine l p v) } } := by
  have h' : (s.noted p).lineAt p.addr = some (k, l) := h
  have hstore : s.storeByte p v = (s.noted p).writeLine k l p v := by
    unfold State.noted at h' ⊢
    simp only [State.storeByte, h']
  have hlines : ((s.noted p).setMemByte p.addr v).cache.lines = s.cache.lines := by
    obtain ⟨m, m', hm⟩ := (s.noted p).setMemByte_eq p.addr v
    rw [hm]
    rfl
  rw [hstore]
  unfold State.writeLine
  dsimp only
  split
  · exact ⟨_, .inl rfl, rfl⟩
  · exact ⟨_, .inr rfl, by rw [hlines]; rfl⟩

/-! The line that a store leaves: same tag, memory and address, the same kind of code. -/

section
variable (s : State) (l : CacheLine) (p : PA) (v : Byte)

theorem State.storedLine_tag : (s.storedLine l p v).tag = l.tag := by unfold State.storedLine; split <;> simp
theorem State.storedLine_smi : (s.storedLine l p v).smi = l.smi := by unfold State.storedLine; split <;> simp
theorem State.storedLine_byte (b : Word) : (s.storedLine l p v).byte b = (l.setByte p.addr v).byte b := by
  unfold State.storedLine; split <;> simp
theorem State.storedLine_length : (s.storedLine l p v).data.length = l.data.length := by
  unfold State.storedLine; split <;> simp
/-- The code of a sector stays, or a valid one that does not lock becomes another. -/
theorem State.storedLine_mesi (b : Word) : mesiValid ((s.storedLine l p v).mesi b) = mesiValid (l.mesi b) ∧
    mesiLocked ((s.storedLine l p v).mesi b) = mesiLocked (l.mesi b) := by
  unfold State.storedLine
  split
  · rename_i h
    have hexcl : l.mesi p.addr = 0xA#4 := by
      rw [Bool.and_eq_true, beq_iff_eq] at h
      exact h.1
    rw [CacheLine.mesi_setMesi]
    by_cases hb : b.getLsbD 4 = p.addr.getLsbD 4
    · rw [if_pos hb, l.mesi_congr hb, hexcl]
      decide
    · rw [if_neg hb]
      exact ⟨rfl, rfl⟩
  · exact ⟨rfl, rfl⟩
theorem State.storedLine_narrows : (s.storedLine l p v).Narrows l :=
  ⟨s.storedLine_tag l p v, s.storedLine_smi l p v,
    fun h => (s.storedLine_mesi l p v 0#32).1.symm.trans h, fun h => (s.storedLine_mesi l p v 0x10#32).1.symm.trans h⟩
theorem State.storedLine_answers (smm locked : Bool) (b : Word) (k : Nat) :
    lineAnswers smm locked b (k, s.storedLine l p v) = lineAnswers smm locked b (k, l) :=
  lineAnswers_congr (s.storedLine_tag l p v) (s.storedLine_smi l p v) (s.storedLine_mesi l p v b).1
    (s.storedLine_mesi l p v b).2
end

/-! What each address reads as after a store (R157). -/

theorem State.lineAt_eq_find (s : State) (b : Word) :
    s.lineAt b = s.cache.lines.find? (lineAnswers (s.smmSelected b) (s.slSmm b) b) := rfl
theorem State.physByte_hit {s : State} {b : Word} {e : Nat × CacheLine} (h : s.lineAt b = some e) :
    s.physByte b = e.2.byte b := by rw [State.physByte, h]
theorem State.physByte_miss {s : State} {b : Word} (h : s.lineAt b = none) : s.physByte b = s.memByte b := by
  rw [State.physByte, h]
section
variable (s : State) (p : PA) (v : Byte) (b : Word)
@[simp] theorem State.storeByte_smmSelected : (s.storeByte p v).smmSelected b = s.smmSelected b := by
  obtain ⟨_, _, _, h⟩ := s.storeByte_eq p v; rw [h]; rfl
@[simp] theorem State.storeByte_slSmm : (s.storeByte p v).slSmm b = s.slSmm b := by
  obtain ⟨_, _, _, h⟩ := s.storeByte_eq p v; rw [h]; rfl
@[simp] theorem State.storeByte_part : (s.storeByte p v).part = s.part := by
  obtain ⟨_, _, _, h⟩ := s.storeByte_eq p v; rw [h]
end
section
variable {s : State} {p : PA} {k : Nat} {l : CacheLine} (v : Byte)

theorem State.storeByte_lines_miss (h : s.lineAt p.addr = none) : (s.storeByte p v).cache.lines = s.cache.lines := by
  obtain ⟨m, m', hm⟩ := (s.noted p).setMemByte_eq p.addr v
  rw [State.storeByte_miss h, hm]
  rfl
theorem State.storeByte_lines_hit (h : s.lineAt p.addr = some (k, l)) :
    (s.storeByte p v).cache.lines = putKey s.cache.lines k (s.storedLine l p v) := by
  obtain ⟨u, -, hu⟩ := State.storeByte_hit h v
  rw [hu]
theorem State.storeByte_lineAt_miss (h : s.lineAt p.addr = none) (b : Word) : (s.storeByte p v).lineAt b = s.lineAt b := by
  rw [State.lineAt_eq_find, storeByte_lines_miss v h, storeByte_smmSelected, storeByte_slSmm, State.lineAt_eq_find]
/-- Each access finds the line it found before, as it is or as the store leaves it. -/
theorem State.storeByte_lineAt_hit (hc : s.cacheOk = true) (h : s.lineAt p.addr = some (k, l)) (b : Word) :
    (s.storeByte p v).lineAt b = (s.lineAt b).map fun e => if e.1 = k then (k, s.storedLine l p v) else e := by
  have hls := (State.cacheOk_iff s).1 hc
  have hmem := (hls.find_eq_some_iff.1 h).1
  rw [State.lineAt_eq_find, storeByte_lines_hit v h, storeByte_smmSelected, storeByte_slSmm]
  exact hls.find_putKey hmem (s.storedLine_narrows l p v) ((s.storedLine_length l p v).trans (hls.length _ hmem))
    (s.storedLine_answers l p v _ _ b k)
theorem State.storeByte_cacheOk (hc : s.cacheOk = true) (p : PA) : (s.storeByte p v).cacheOk = true := by
  have hls := (State.cacheOk_iff s).1 hc
  rw [State.cacheOk_iff]
  cases h : s.lineAt p.addr with
  | none => rwa [storeByte_lines_miss v h]
  | some e =>
    have hmem := (hls.find_eq_some_iff.1 h).1
    rw [storeByte_lines_hit v h]
    exact hls.putKey hmem (s.storedLine_narrows _ p v) ((s.storedLine_length _ p v).trans (hls.length _ hmem))
theorem State.storeByte_lineAt_isSome (hc : s.cacheOk = true) (p : PA) (b : Word) :
    ((s.storeByte p v).lineAt b).isSome = (s.lineAt b).isSome := by
  cases h : s.lineAt p.addr with
  | none => rw [storeByte_lineAt_miss v h]
  | some e => rw [storeByte_lineAt_hit v hc h, Option.isSome_map]
/-- Where a store is kept does not change. -/
theorem State.storeByte_keepsWrite (hc : s.cacheOk = true) (p : PA) (b : Word) :
    (s.storeByte p v).keepsWrite b = s.keepsWrite b := by
  rw [State.keepsWrite, storeByte_lineAt_isSome v hc, storeByte_smmSelected, storeByte_part, State.keepsWrite]
/-- Memory behind the cache: what the store has to do with it. -/
theorem State.storeByte_memByte_other (s : State) (p : PA) {b : Word} (hb : b ≠ p.addr) :
    (s.storeByte p v).memByte b = s.memByte b := by
  have hset : ((s.noted p).setMemByte p.addr v).memByte b = s.memByte b := (s.noted p).memByte_setMemByte_other hb v
  cases h : s.lineAt p.addr with
  | none => rw [State.storeByte_miss h, hset]
  | some e =>
    obtain ⟨u, hu, hstore⟩ := State.storeByte_hit (k := e.1) (l := e.2) h v
    have hub : u.memByte b = s.memByte b := by
      rcases hu with rfl | rfl
      · rfl
      · exact hset
    rw [hstore]
    exact hub
/-- A store changes no other byte. -/
theorem State.storeByte_physByte_other (hc : s.cacheOk = true) (p : PA) {b : Word} (hb : b ≠ p.addr) :
    (s.storeByte p v).physByte b = s.physByte b := by
  have hmem := s.storeByte_memByte_other v p hb
  cases h : s.lineAt p.addr with
  | none =>
    have hline := storeByte_lineAt_miss v h b
    rw [State.physByte, hline, hmem, State.physByte]
  | some e =>
    have hline := storeByte_lineAt_hit (k := e.1) (l := e.2) v hc h b
    cases hf : s.lineAt b with
    | none =>
      rw [hf] at hline
      rw [State.physByte_miss hline, State.physByte_miss hf, hmem]
    | some f =>
      rw [hf, Option.map_some] at hline
      rw [State.physByte_hit hline, State.physByte_hit hf]
      by_cases hk : f.1 = e.1
      · have hls := (State.cacheOk_iff s).1 hc
        obtain ⟨he, hae⟩ := hls.find_eq_some_iff.1 h
        obtain ⟨hf, haf⟩ := hls.find_eq_some_iff.1 hf
        obtain rfl : f = e := hls.eq_of_key hf he hk
        obtain ⟨-, -, -, htag, hkey⟩ := lineAnswers_iff.1 hae
        obtain ⟨-, -, -, htag', hkey'⟩ := lineAnswers_iff.1 haf
        have hdiff := byte_ne_of_line_eq (htag'.symm.trans htag)
          (BitVec.eq_of_toNat_eq (hkey'.symm.trans hkey)) hb
        rw [if_pos rfl]
        exact (s.storedLine_byte _ p v b).trans (CacheLine.byte_setByte_other (hls.length _ he) v hdiff)
      · rw [if_neg hk]
/-- A store is read back where it is kept; where it is not, nothing changes. -/
theorem State.storeByte_physByte_same (hm : s.memoryOk = true) (hc : s.cacheOk = true) (p : PA) :
    (s.storeByte p v).physByte p.addr = if s.keepsWrite p.addr then v else s.physByte p.addr := by
  cases h : s.lineAt p.addr with
  | none =>
    have hkeep : s.keepsWrite p.addr = (s.smmSelected p.addr || s.part.ram p.addr) := by
      rw [State.keepsWrite, h]
      rfl
    rw [State.physByte_miss ((storeByte_lineAt_miss v h _).trans h), State.physByte_miss h, State.storeByte_miss h, hkeep]
    exact State.memByte_setMemByte_same (s := s.noted p) hm p.addr v
  | some e =>
    have hls := (State.cacheOk_iff s).1 hc
    have he := (hls.find_eq_some_iff.1 h).1
    have hline := storeByte_lineAt_hit (k := e.1) (l := e.2) v hc h p.addr
    rw [h, Option.map_some, if_pos rfl] at hline
    have hkeep : s.keepsWrite p.addr = true := by simp [State.keepsWrite, h]
    rw [State.physByte_hit hline, hkeep, if_pos rfl]
    exact (s.storedLine_byte _ p v _).trans (CacheLine.byte_setByte_same (hls.length _ he) _ v)
end

end Sys2Proof.Machine
end

section
/-! SUPPORT. Operands in memory and registers: what a place holds after it is written. -/
namespace Sys2Proof.Machine
open Sys2Proof

/-! Several bytes, one after the other. -/

@[simp] theorem bytesOf_length (n w : Nat) : (bytesOf n w).length = n := by
  induction n generalizing w with
  | zero => rfl
  | succ k ih => rw [bytesOf, List.length_cons, ih]
/-- The bytes of a number spell it (R144). -/
theorem leNat_bytesOf (n w : Nat) : leNat (bytesOf n w) = w % 256 ^ n := by
  induction n generalizing w with
  | zero => rw [Nat.pow_zero, Nat.mod_one]; rfl
  | succ k ih =>
    rw [Nat.pow_succ', Nat.mod_mul, bytesOf, leNat, ih]
    rfl
theorem State.storeBytes_eq (s : State) (pas : List PA) (bs : List Byte) :
    ∃ m m' c st, s.storeBytes pas bs = { s with mem := m, smm := m', cache := c, stale := st } := by
  induction pas generalizing s bs with
  | nil => exact ⟨s.mem, s.smm, s.cache, s.stale, by cases bs <;> rfl⟩
  | cons p rest ih =>
    cases bs with
    | nil => exact ⟨s.mem, s.smm, s.cache, s.stale, rfl⟩
    | cons b bs =>
      obtain ⟨m, m', c, h⟩ := s.storeByte_eq p b
      obtain ⟨_, _, _, _, h'⟩ := ih (s.storeByte p b) bs
      exact ⟨_, _, _, _, by rw [State.storeBytes, h', h]⟩
/-- Bytes at other addresses stay. -/
theorem State.storeBytes_physByte_other {s : State} (hc : s.cacheOk = true) (pas : List PA) (bs : List Byte) {a : Word}
    (ha : a ∉ addrs pas) : (s.storeBytes pas bs).physByte a = s.physByte a := by
  induction pas generalizing s bs with
  | nil => cases bs <;> rfl
  | cons p rest ih =>
    cases bs with
    | nil => rfl
    | cons b bs =>
      obtain ⟨hp, hrest⟩ : a ≠ p.addr ∧ a ∉ addrs rest := by simpa [addrs] using ha
      rw [State.storeBytes, ih (State.storeByte_cacheOk b hc p) bs hrest, State.storeByte_physByte_other b hc p hp]
/-- A byte that is not kept stays as it is. -/
theorem State.storeBytes_physByte_dropped {s : State} (hm : s.memoryOk = true) (hc : s.cacheOk = true) (pas : List PA)
    (bs : List Byte) {a : Word} (ha : s.keepsWrite a = false) : (s.storeBytes pas bs).physByte a = s.physByte a := by
  induction pas generalizing s bs with
  | nil => cases bs <;> rfl
  | cons p rest ih =>
    cases bs with
    | nil => rfl
    | cons b bs =>
      rw [State.storeBytes, ih (State.storeByte_memoryOk hm p b) (State.storeByte_cacheOk b hc p) bs
        ((State.storeByte_keepsWrite b hc p a).trans ha)]
      by_cases hp : a = p.addr
      · rw [hp, State.storeByte_physByte_same b hm hc p, ← hp, ha]
        rfl
      · exact State.storeByte_physByte_other b hc p hp
/-- Bytes stored at different addresses, each where it is kept, are read back. -/
theorem State.storeBytes_bytesAt {s : State} (hm : s.memoryOk = true) (hc : s.cacheOk = true) {pas : List PA} {bs : List Byte}
    (hlen : pas.length = bs.length) (hdiff : (addrs pas).Nodup) (hkeep : ∀ a ∈ addrs pas, s.keepsWrite a = true) :
    (s.storeBytes pas bs).bytesAt (addrs pas) = bs := by
  induction pas generalizing s bs with
  | nil =>
    obtain rfl : bs = [] := by simpa using hlen.symm
    rfl
  | cons p rest ih =>
    obtain ⟨b, bs, rfl⟩ : ∃ b bs', bs = b :: bs' := List.exists_cons_of_length_eq_add_one hlen.symm
    obtain ⟨hp, hrest⟩ : p.addr ∉ addrs rest ∧ (addrs rest).Nodup := List.nodup_cons.1 hdiff
    have hc' := State.storeByte_cacheOk b hc p
    have hhead : (s.storeBytes (p :: rest) (b :: bs)).physByte p.addr = b := by
      rw [State.storeBytes, State.storeBytes_physByte_other hc' rest bs hp, State.storeByte_physByte_same b hm hc p,
        if_pos (hkeep _ (List.mem_cons_self ..))]
    have htail : ((s.storeByte p b).storeBytes rest bs).bytesAt (addrs rest) = bs :=
      ih (State.storeByte_memoryOk hm p b) hc' (by simpa using hlen) hrest fun a ha =>
        (State.storeByte_keepsWrite b hc p a).trans (hkeep a (List.mem_cons_of_mem _ ha))
    exact congrArg₂ List.cons hhead htail

/-- An operand in memory holds what was written to it, where memory keeps all its bytes (R282). -/
theorem State.placeValue_putPlace_mem {n : Nat} (hn : n = 8 ∨ n = 16 ∨ n = 32 ∨ n = 64) {s : State} (hm : s.memoryOk = true)
    (hc : s.cacheOk = true) {pas : List PA} (hlen : pas.length = n / 8) (hdiff : (addrs pas).Nodup)
    (hkeep : ∀ a ∈ addrs pas, s.keepsWrite a = true) (v : BitVec n) :
    (s.putPlace (.mem pas) v).placeValue n (.mem pas) = v := by
  have hbytes : (s.putPlace (.mem pas) v).bytesAt (addrs pas) = bytesOf (n / 8) v.toNat :=
    State.storeBytes_bytesAt hm hc (by rw [hlen, bytesOf_length]) hdiff hkeep
  have hpow : 256 ^ (n / 8) = 2 ^ n := by rcases hn with rfl | rfl | rfl | rfl <;> rfl
  rw [State.placeValue, hbytes, leNat_bytesOf, hpow, Nat.mod_eq_of_lt v.isLt, BitVec.ofNat_toNat, BitVec.setWidth_eq]

/-! Registers (R21): the low bits, or one of the two low bytes, replaced. -/

theorem toNat_append_add {m n : Nat} (x : BitVec m) (y : BitVec n) : (x ++ y).toNat = x.toNat * 2 ^ n + y.toNat := by
  rw [BitVec.toNat_append, ← Nat.shiftLeft_add_eq_or_of_lt y.isLt, Nat.shiftLeft_eq]
section
variable {n : Nat} (hn : n = 8 ∨ n = 16 ∨ n = 32) (old : Word) (v : BitVec n)
include hn

theorem mergeLow_toNat : (mergeLow old v).toNat = old.toNat / 2 ^ n * 2 ^ n + v.toNat := by
  have hold := old.isLt
  rcases hn with rfl | rfl | rfl
  · have h : mergeLow old v = old.extractLsb' 8 24 ++ v := by simp [mergeLow]
    rw [h, toNat_append_add, BitVec.extractLsb'_toNat, Nat.shiftRight_eq_div_pow]
    omega
  · have h : mergeLow old v = old.extractLsb' 16 16 ++ v := by simp [mergeLow]
    rw [h, toNat_append_add, BitVec.extractLsb'_toNat, Nat.shiftRight_eq_div_pow]
    omega
  · rw [mergeLow_32]
    omega
theorem setWidth_mergeLow : (mergeLow old v).setWidth n = v := by
  apply BitVec.eq_of_toNat_eq
  rw [BitVec.toNat_setWidth, mergeLow_toNat hn, Nat.mul_add_mod_self_right, Nat.mod_eq_of_lt v.isLt]
theorem mergeLow_high : (mergeLow old v).toNat / 2 ^ n = old.toNat / 2 ^ n := by
  rw [mergeLow_toNat hn, Nat.add_comm, Nat.add_mul_div_right _ _ (Nat.two_pow_pos n), Nat.div_eq_of_lt v.isLt, Nat.zero_add]
end

/-- A doubleword with its lowest byte, or the one above it, replaced. -/
def mergeByte (old : Word) (high : Bool) (v : Byte) : Word :=
  if high then old.extractLsb' 16 16 ++ v ++ old.extractLsb' 0 8 else old.extractLsb' 8 24 ++ v
theorem mergeByte_toNat (old : Word) (high : Bool) (v : Byte) : (mergeByte old high v).toNat =
    if high then old.toNat / 65536 * 65536 + v.toNat * 256 + old.toNat % 256 else old.toNat / 256 * 256 + v.toNat := by
  have hold := old.isLt
  cases high
  · have h : mergeByte old false v = old.extractLsb' 8 24 ++ v := rfl
    rw [h, toNat_append_add, BitVec.extractLsb'_toNat, Nat.shiftRight_eq_div_pow]
    simp only [Bool.false_eq_true, if_false]
    omega
  · have h : mergeByte old true v = old.extractLsb' 16 16 ++ v ++ old.extractLsb' 0 8 := rfl
    rw [h, toNat_append_add, toNat_append_add, BitVec.extractLsb'_toNat, BitVec.extractLsb'_toNat,
      Nat.shiftRight_eq_div_pow, Nat.shiftRight_eq_div_pow]
    simp only [if_true]
    omega
theorem Regs.set8_eq (g : Regs) (r : Reg8) (v : Byte) :
    g.set8 r v = g.set (reg8Host r).1 (mergeByte (g.get (reg8Host r).1) (reg8Host r).2 v) := rfl
theorem byteAt_toNat (w : Word) (high : Bool) :
    (w.extractLsb' (if high then 8 else 0) 8).toNat = if high then w.toNat / 256 % 256 else w.toNat % 256 := by
  cases high <;> simp [BitVec.extractLsb'_toNat, Nat.shiftRight_eq_div_pow]
theorem byteAt_mergeByte (old : Word) (high high' : Bool) (v : Byte) :
    (mergeByte old high v).extractLsb' (if high' then 8 else 0) 8 =
      if high' = high then v else old.extractLsb' (if high' then 8 else 0) 8 := by
  have hv := v.isLt
  apply BitVec.eq_of_toNat_eq
  rw [byteAt_toNat, mergeByte_toNat]
  cases high <;> cases high' <;> simp [BitVec.extractLsb'_toNat, Nat.shiftRight_eq_div_pow] <;> omega
theorem mergeByte_high (old : Word) (high : Bool) (v : Byte) :
    (mergeByte old high v).toNat / 2 ^ 16 = old.toNat / 2 ^ 16 := by
  have hv := v.isLt
  rw [mergeByte_toNat]
  cases high
  · simp only [Bool.false_eq_true, if_false]; omega
  · simp only [if_true]; omega
theorem reg8Host_injective : Function.Injective reg8Host := by
  intro q r h
  cases q <;> cases r <;> first | rfl | exact nomatch h
section
variable (g : Regs) (r : Reg8) (v : Byte)

theorem Regs.get8_set8_same : (g.set8 r v).get8 r = v := by
  rw [Regs.set8_eq, Regs.get8, Regs.get_set_same, byteAt_mergeByte, if_pos rfl]
theorem Regs.get8_set8_other {q : Reg8} (h : q ≠ r) : (g.set8 r v).get8 q = g.get8 q := by
  rw [Regs.set8_eq, Regs.get8]
  by_cases hhost : (reg8Host q).1 = (reg8Host r).1
  · have hhalf : ¬ (reg8Host q).2 = (reg8Host r).2 := fun hh => h (reg8Host_injective (Prod.ext hhost hh))
    rw [hhost, Regs.get_set_same, byteAt_mergeByte, if_neg hhalf, Regs.get8, hhost]
  · rw [Regs.get_set_other _ _ hhost, Regs.get8]
/-- The upper half of every register stays. -/
theorem Regs.get_set8_high (x : Reg) : ((g.set8 r v).get x).toNat / 2 ^ 16 = (g.get x).toNat / 2 ^ 16 := by
  rw [Regs.set8_eq]
  by_cases hx : x = (reg8Host r).1
  · rw [hx, Regs.get_set_same, mergeByte_high]
  · rw [Regs.get_set_other _ _ hx]
/-- A register without byte parts stays. -/
theorem Regs.get_set8_other {x : Reg} (hx : x ≠ (reg8Host r).1) : (g.set8 r v).get x = g.get x := by
  rw [Regs.set8_eq, Regs.get_set_other _ _ hx]
end

end Sys2Proof.Machine
end

section
/-! SUPPORT. What goes back to memory (R171): the bytes of a modified sector, and what another bus agent's accesses change. -/
namespace Sys2Proof.Machine
open Sys2Proof

/-! Consecutive bytes. -/

theorem Memory.read_writeBytes {m : Memory} (hm : m.wf = true) {a : Nat} {bs : List Byte} (hlen : a + bs.length ≤ 0x100000000)
    (x : Nat) : (m.writeBytes a bs).read x = if a ≤ x then (bs[x - a]?).getD (m.read x) else m.read x := by
  induction bs generalizing m a with
  | nil => simp [Memory.writeBytes]
  | cons b rest ih =>
    rw [List.length_cons] at hlen
    rw [Memory.writeBytes, ih (Memory.write_wf hm (by omega) b) (by omega)]
    rcases Nat.lt_trichotomy x a with hx | rfl | hx
    · rw [if_neg (by omega), if_neg (by omega), Memory.read_write_other _ _ (by omega)]
    · rw [if_neg (by omega), if_pos (Nat.le_refl x), Nat.sub_self, Memory.read_write_same hm]
      rfl
    · have hi : x - a = x - (a + 1) + 1 := by omega
      rw [if_pos (by omega), if_pos (by omega), hi, List.getElem?_cons_succ, Memory.read_write_other _ _ (by omega)]
theorem State.setMainByte_read {s : State} (hm : s.memoryOk = true) (a : Word) (v : Byte) (x : Word) :
    (s.setMainByte a v).mem.read x.toNat = if x = a ∧ s.part.ram x = true then v else s.mem.read x.toNat := by
  have hwf : s.mem.wf = true := by
    rw [State.memoryOk, Bool.and_eq_true] at hm
    exact hm.1
  cases hram : s.part.ram a with
  | false =>
    rw [State.setMainByte_rom hram, if_neg]
    rintro ⟨rfl, h⟩
    rw [hram] at h
    cases h
  | true =>
    rw [State.setMainByte_ram hram]
    by_cases hx : x = a
    · subst hx
      rw [if_pos ⟨rfl, hram⟩]
      exact Memory.read_write_same hwf _ v
    · rw [if_neg (fun h => hx h.1)]
      exact Memory.read_write_other _ v (toNat_ne hx)
/-- Consecutive bytes in main memory, of which ROM and absent ranges keep what they hold. -/
theorem State.setMainBytes_read {s : State} (hm : s.memoryOk = true) (a : Word) {bs : List Byte}
    (hlen : bs.length ≤ 0x100000000) (x : Word) : (s.setMainBytes a bs).mem.read x.toNat =
      if s.part.ram x then (bs[(x - a).toNat]?).getD (s.mem.read x.toNat) else s.mem.read x.toNat := by
  induction bs generalizing s a with
  | nil => simp [State.setMainBytes]
  | cons b rest ih =>
    rw [List.length_cons] at hlen
    have hpart : (s.setMainByte a b).part = s.part := by
      obtain ⟨m, h⟩ := s.setMainByte_eq a b
      rw [h]
    rw [State.setMainBytes, ih (State.setMainByte_memoryOk hm a b) _ (by omega), hpart, State.setMainByte_read hm]
    cases hram : s.part.ram x with
    | false => simp
    | true =>
      simp only [if_true, and_true]
      by_cases hx : x = a
      · subst hx
        have hlast : (x - (x + 1#32)).toNat = 0xFFFFFFFF := by
          rw [BitVec.toNat_sub, BitVec.toNat_add, BitVec.toNat_ofNat]
          omega
        have hnone : rest[(x - (x + 1#32)).toNat]? = none := List.getElem?_eq_none (by omega)
        rw [hnone, if_pos rfl, BitVec.sub_self]
        rfl
      · have hi : (x - a).toNat = (x - (a + 1#32)).toNat + 1 := by
          have := toNat_ne hx
          rw [BitVec.toNat_sub, BitVec.toNat_sub, BitVec.toNat_add, BitVec.toNat_ofNat]
          omega
        rw [hi, List.getElem?_cons_succ, if_neg hx]
theorem State.setMainBytes_smm (s : State) (a : Word) (bs : List Byte) : (s.setMainBytes a bs).smm = s.smm := by
  obtain ⟨m, h⟩ := s.setMainBytes_eq a bs
  rw [h]

/-! The bytes of a line in memory order, and the addresses of a sector. -/

theorem wordsBytes_getElem? (ws : List Word) {j : Nat} (hj : j < 4 * ws.length) :
    (wordsBytes ws)[j]? = some ((ws.getD (j / 4) 0#32).extractLsb' (8 * (j % 4)) 8) := by
  induction ws generalizing j with
  | nil => simp at hj
  | cons w rest ih =>
    rw [wordsBytes]
    by_cases h : j < 4
    · have h0 : j / 4 = 0 := by omega
      have hm : j % 4 = j := by omega
      rw [List.getElem?_append_left (by simpa [le32] using h), h0, hm]
      interval_cases j <;> rfl
    · have hd : j / 4 = (j - 4) / 4 + 1 := by omega
      have hm : j % 4 = (j - 4) % 4 := by omega
      rw [List.length_cons] at hj
      rw [List.getElem?_append_right (Nat.le_of_not_lt h), hd, hm, List.getD_cons_succ]
      exact ih (show j - 4 < _ by omega)
theorem CacheLine.address_eq (l : CacheLine) (k : Nat) : l.address k = l.tag.toNat * 16384 + k % 512 * 32 := by
  rw [CacheLine.address, toNat_append_add, toNat_append_add, BitVec.toNat_ofNat, BitVec.toNat_ofNat]
  omega
/-- The sector of a line, 0 or 1, that an address is in (R171). -/
def sectorOf (x : Word) : Nat := if x.getLsbD 4 then 1 else 0
theorem sectorOf_eq (x : Word) : sectorOf x = x.toNat / 16 % 2 := by
  have h := upperSector_iff x
  unfold sectorOf
  split
  · rename_i hx
    rw [h.1 hx]
  · rename_i hx
    rw [h] at hx
    omega
theorem CacheLine.mesi_sectorOf (l : CacheLine) (x : Word) :
    (if sectorOf x = 0 then l.mesi0 else l.mesi1) = l.mesi x := by
  rw [sectorOf, CacheLine.mesi]
  cases x.getLsbD 4 <;> rfl
/-- An address is in a sector of line k: offset j from the sector's first byte. -/
theorem CacheLine.sector_iff (l : CacheLine) (k : Nat) {i : Nat} (hi : i ≤ 1) (x : Word) :
    (l.address k + 16 * i ≤ x.toNat ∧ x.toNat < l.address k + 16 * i + 16) ↔
      l.tag = x.extractLsb' 14 18 ∧ k % 512 = (x.extractLsb' 5 9).toNat ∧ sectorOf x = i := by
  have hx := x.isLt
  have htag := l.tag.isLt
  rw [l.address_eq, ← BitVec.toNat_inj, tag_toNat, lineIndex_toNat, sectorOf_eq]
  omega
/-- What the write-back stores at each address of the sector is the line's byte there. -/
theorem CacheLine.sectorBytes_getElem? {l : CacheLine} (hl : l.data.length = 8) {k : Nat} {x : Word}
    (hx : l.address k + 16 * sectorOf x ≤ x.toNat) (hx' : x.toNat < l.address k + 16 * sectorOf x + 16) :
    (((wordsBytes l.data).drop (16 * sectorOf x)).take 16)[x.toNat - (l.address k + 16 * sectorOf x)]? = some (l.byte x) := by
  have hi : sectorOf x ≤ 1 := by rw [sectorOf_eq]; omega
  rw [l.address_eq] at hx hx' ⊢
  rw [List.getElem?_take_of_lt (by omega), List.getElem?_drop, wordsBytes_getElem? _ (by omega), CacheLine.byte,
    dwordIndex_toNat, byteIndex_toNat]
  have hd : (16 * sectorOf x + (x.toNat - (l.tag.toNat * 16384 + k % 512 * 32 + 16 * sectorOf x))) / 4 = x.toNat / 4 % 8 := by
    omega
  have hm : (16 * sectorOf x + (x.toNat - (l.tag.toNat * 16384 + k % 512 * 32 + 16 * sectorOf x))) % 4 = x.toNat % 4 := by
    omega
  rw [hd, hm]

/-! A sector goes back to the memory it belongs to if it is modified (R171, R575). -/

/-- The entry holds a modified byte of main or SMM memory for the address. -/
def modifiedAt (smi : Bool) (x : Word) (e : Nat × CacheLine) : Prop :=
  e.2.smi = smi ∧ e.2.tag = x.extractLsb' 14 18 ∧ e.1 % 512 = (x.extractLsb' 5 9).toNat ∧ e.2.mesi x = 8#4
/-- The bytes that the write-back of a sector stores. -/
def CacheLine.sectorBytes (l : CacheLine) (i : Nat) : List Byte := ((wordsBytes l.data).drop (16 * i)).take 16
theorem CacheLine.sectorBytes_length (l : CacheLine) (i : Nat) : (l.sectorBytes i).length ≤ 16 := List.length_take_le _ _

section
variable {s : State} {k i : Nat} {l : CacheLine}

theorem State.writeBackSector_clean (h : (if i = 0 then l.mesi0 else l.mesi1) ≠ 8#4) : s.writeBackSector k i l = s := by
  rw [State.writeBackSector, if_neg (by simpa using h)]
theorem State.writeBackSector_smmLine (h : (if i = 0 then l.mesi0 else l.mesi1) = 8#4) (hs : l.smi = true) :
    s.writeBackSector k i l = { s with smm := s.smm.writeBytes (l.address k + 16 * i) (l.sectorBytes i) } := by
  rw [State.writeBackSector, if_pos (by simpa using h), if_pos hs]
  rfl
theorem State.writeBackSector_mainLine (h : (if i = 0 then l.mesi0 else l.mesi1) = 8#4) (hs : l.smi = false) :
    s.writeBackSector k i l = s.setMainBytes (BitVec.ofNat 32 (l.address k + 16 * i)) (l.sectorBytes i) := by
  rw [State.writeBackSector, if_pos (by simpa using h), if_neg (by simp [hs])]
  rfl

/-- An address of no modified byte of the sector: nothing is written there. -/
theorem State.writeBackSector_mem_other (hm : s.memoryOk = true) (hi : i ≤ 1) {x : Word}
    (hx : ¬ (modifiedAt false x (k, l) ∧ sectorOf x = i ∧ s.part.ram x = true)) :
    (s.writeBackSector k i l).mem.read x.toNat = s.mem.read x.toNat := by
  by_cases hmod : (if i = 0 then l.mesi0 else l.mesi1) = 8#4
  swap
  · rw [writeBackSector_clean hmod]
  cases hs : l.smi with
  | true => rw [writeBackSector_smmLine hmod hs]
  | false =>
    have hlen := l.sectorBytes_length i
    rw [writeBackSector_mainLine hmod hs, State.setMainBytes_read hm _ (by omega)]
    cases hram : s.part.ram x with
    | false => rfl
    | true =>
      have hout : ¬ (l.address k + 16 * i ≤ x.toNat ∧ x.toNat < l.address k + 16 * i + 16) := by
        rw [l.sector_iff k hi]
        rintro ⟨htag, hline, rfl⟩
        exact hx ⟨⟨hs, htag, hline, (l.mesi_sectorOf x).symm.trans hmod⟩, rfl, hram⟩
      have hend := l.address_le k
      have hnone : (l.sectorBytes i)[(x - BitVec.ofNat 32 (l.address k + 16 * i)).toNat]? = none := by
        refine List.getElem?_eq_none (Nat.le_trans hlen ?_)
        rw [BitVec.toNat_sub, BitVec.toNat_ofNat]
        omega
      rw [hnone]
      rfl
theorem State.writeBackSector_smm_other (hm : s.memoryOk = true) (hi : i ≤ 1) {x : Word}
    (hx : ¬ (modifiedAt true x (k, l) ∧ sectorOf x = i)) :
    (s.writeBackSector k i l).smm.read x.toNat = s.smm.read x.toNat := by
  have hsmm : s.smm.wf = true := by
    rw [State.memoryOk, Bool.and_eq_true] at hm
    exact hm.2
  by_cases hmod : (if i = 0 then l.mesi0 else l.mesi1) = 8#4
  swap
  · rw [writeBackSector_clean hmod]
  cases hs : l.smi with
  | false => rw [writeBackSector_mainLine hmod hs, State.setMainBytes_smm]
  | true =>
    have hlen := l.sectorBytes_length i
    have hend := l.address_le k
    have hout : ¬ (l.address k + 16 * i ≤ x.toNat ∧ x.toNat < l.address k + 16 * i + 16) := by
      rw [l.sector_iff k hi]
      rintro ⟨htag, hline, rfl⟩
      exact hx ⟨⟨hs, htag, hline, (l.mesi_sectorOf x).symm.trans hmod⟩, rfl⟩
    rw [writeBackSector_smmLine hmod hs]
    refine (Memory.read_writeBytes hsmm (by omega) _).trans ?_
    split
    · rw [List.getElem?_eq_none (by omega)]
      rfl
    · rfl

variable (hl : l.data.length = 8) {x : Word}
include hl

/-- A modified byte is in memory after the write-back of its sector. -/
theorem State.writeBackSector_mem_same (hm : s.memoryOk = true) (hx : modifiedAt false x (k, l)) (hram : s.part.ram x = true) :
    (s.writeBackSector k (sectorOf x) l).mem.read x.toNat = l.byte x := by
  obtain ⟨hs, htag, hline, hmesi⟩ := hx
  have hi : sectorOf x ≤ 1 := by rw [sectorOf_eq]; omega
  have hlen := l.sectorBytes_length (sectorOf x)
  have hend := l.address_le k
  obtain ⟨hlo, hhi⟩ := (l.sector_iff k hi x).2 ⟨htag, hline, rfl⟩
  have hoff : (x - BitVec.ofNat 32 (l.address k + 16 * sectorOf x)).toNat = x.toNat - (l.address k + 16 * sectorOf x) := by
    rw [BitVec.toNat_sub, BitVec.toNat_ofNat]
    omega
  rw [writeBackSector_mainLine ((l.mesi_sectorOf x).trans hmesi) hs, State.setMainBytes_read hm _ (by omega), if_pos hram, hoff,
    CacheLine.sectorBytes, l.sectorBytes_getElem? hl hlo hhi]
  rfl
theorem State.writeBackSector_smm_same (hm : s.memoryOk = true) (hx : modifiedAt true x (k, l)) :
    (s.writeBackSector k (sectorOf x) l).smm.read x.toNat = l.byte x := by
  obtain ⟨hs, htag, hline, hmesi⟩ := hx
  have hsmm : s.smm.wf = true := by
    rw [State.memoryOk, Bool.and_eq_true] at hm
    exact hm.2
  have hi : sectorOf x ≤ 1 := by rw [sectorOf_eq]; omega
  have hlen := l.sectorBytes_length (sectorOf x)
  have hend := l.address_le k
  obtain ⟨hlo, hhi⟩ := (l.sector_iff k hi x).2 ⟨htag, hline, rfl⟩
  rw [writeBackSector_smmLine ((l.mesi_sectorOf x).trans hmesi) hs]
  refine (Memory.read_writeBytes hsmm (by omega) _).trans ?_
  rw [if_pos hlo, CacheLine.sectorBytes, l.sectorBytes_getElem? hl hlo hhi]
  rfl
end

end Sys2Proof.Machine
end

section
/-! SUPPORT, and O51. What other bus agents do (R149, R171, R620), as the core sees it afterwards; the frame of every store. -/
namespace Sys2Proof.Machine
open Sys2Proof

/-! An inquiry (R171): which entries it changes, and how. -/

/-- What an inquiry for an address makes of an entry: its code there changes by `f`, if it holds the address and is not locked. -/
def inquiredEntry (pa : Word) (f : BitVec 4 → BitVec 4) (e : Nat × CacheLine) : Nat × CacheLine :=
  if !e.2.smi && e.2.tag == pa.extractLsb' 14 18 && e.1 % 512 == (pa.extractLsb' 5 9).toNat && !mesiLocked (e.2.mesi pa) then
    (e.1, e.2.setMesi pa (f (e.2.mesi pa)))
  else e
theorem Cache.inquired_lines (c : Cache) (pa : Word) (f : BitVec 4 → BitVec 4) :
    (c.inquired pa f).lines = c.lines.map (inquiredEntry pa f) := rfl
theorem mesiShared_same (m : BitVec 4) : mesiValid (mesiShared m) = mesiValid m ∧
    (mesiLocked m = false → mesiLocked (mesiShared m) = false) := by
  revert m
  decide
/-- A read by another agent changes neither what an entry answers nor its bytes. -/
theorem inquiredEntry_shared (smm locked : Bool) (a b : Word) (e : Nat × CacheLine) :
    lineAnswers smm locked b (inquiredEntry a mesiShared e) = lineAnswers smm locked b e ∧
    (inquiredEntry a mesiShared e).2.byte b = e.2.byte b := by
  unfold inquiredEntry
  split
  · rename_i hcond
    have hunlocked : mesiLocked (e.2.mesi a) = false := by
      rw [Bool.and_eq_true, Bool.not_eq_true'] at hcond
      exact hcond.2
    refine ⟨?_, CacheLine.setMesi_byte _ _ _ _⟩
    obtain ⟨hvalid, hlocked⟩ := mesiShared_same (e.2.mesi a)
    refine lineAnswers_congr (l := e.2) (CacheLine.setMesi_tag _ _ _) (CacheLine.setMesi_smi _ _ _) ?_ ?_
    · rw [CacheLine.mesi_setMesi]
      split
      · rename_i hb
        rw [hvalid, e.2.mesi_congr hb]
      · rfl
    · rw [CacheLine.mesi_setMesi]
      split
      · rename_i hb
        rw [hlocked hunlocked, ← hunlocked, e.2.mesi_congr hb]
      · rfl
  · exact ⟨rfl, rfl⟩

/-! The memories after the write-back of an inquiry. -/

theorem State.inquiryWriteBack_smm {s : State} (hm : s.memoryOk = true) (a x : Word) :
    (s.inquiryWriteBack a).smm.read x.toNat = s.smm.read x.toNat := by
  unfold State.inquiryWriteBack
  split
  · rename_i e he
    have hsmi : e.2.smi = false := (lineAnswers_iff.1 (List.find?_some he)).2.2.1
    refine State.writeBackSector_smm_other hm (by split <;> omega) ?_
    rintro ⟨⟨hs, -⟩, -⟩
    exact Bool.false_ne_true (hsmi.symm.trans hs)
  · rfl
/-- A byte that no line holds for the core is not written. -/
theorem State.inquiryWriteBack_mem {s : State} (hm : s.memoryOk = true) (a : Word) {x : Word}
    (hx : s.cache.hit false false x = none) : (s.inquiryWriteBack a).mem.read x.toNat = s.mem.read x.toNat := by
  unfold State.inquiryWriteBack
  split
  · rename_i e he
    refine State.writeBackSector_mem_other hm (by split <;> omega) ?_
    rintro ⟨⟨hsmi, htag, hline, hmesi⟩, -⟩
    refine List.find?_eq_none.1 hx e (List.mem_of_find?_eq_some he) (lineAnswers_iff.2 ⟨?_, ?_, hsmi, htag, hline⟩)
    · rw [hmesi]
      decide
    · exact fun h => absurd h Bool.false_ne_true
  · rfl

/-! A read and a write by another agent. -/

theorem State.slSmm_main {s : State} {x : Word} (h : s.smmSelected x = false) : s.slSmm x = false := by
  simp [State.slSmm, h]
/-- Another agent's read changes no byte that the core reads. -/
theorem State.busRead_physByte {s : State} (hm : s.memoryOk = true) (a b : Word) : (s.busRead a).physByte b = s.physByte b := by
  obtain ⟨m, m', hback⟩ := s.inquiryWriteBack_eq a
  have hbus : s.busRead a = { s with mem := m, smm := m', cache := s.cache.inquired a mesiShared } := by
    rw [State.busRead, hback]
  have hcomp : lineAnswers (s.smmSelected b) (s.slSmm b) b ∘ inquiredEntry a mesiShared =
      lineAnswers (s.smmSelected b) (s.slSmm b) b := funext fun e => (inquiredEntry_shared _ _ a b e).1
  have hline : (s.busRead a).lineAt b = (s.lineAt b).map (inquiredEntry a mesiShared) := by
    rw [hbus, State.lineAt_eq_find s, ← hcomp]
    exact List.find?_map
  cases hb : s.lineAt b with
  | some e =>
    rw [hb, Option.map_some] at hline
    rw [State.physByte_hit hline, State.physByte_hit hb]
    exact (inquiredEntry_shared false false a b e).2
  | none =>
    rw [hb, Option.map_none] at hline
    have hsmm : m'.read b.toNat = s.smm.read b.toNat := by
      have h := State.inquiryWriteBack_smm hm a b
      rwa [hback] at h
    have hmem (hsel : s.smmSelected b = false) : m.read b.toNat = s.mem.read b.toNat := by
      have hhit : s.cache.hit false false b = none := by
        rw [State.lineAt, hsel, State.slSmm_main hsel] at hb
        exact hb
      have h := State.inquiryWriteBack_mem hm a hhit
      rwa [hback] at h
    rw [State.physByte_miss hline, State.physByte_miss hb, hbus]
    refine (s.memByte_eq m m' b).trans (Eq.trans ?_ (s.memByte_eq s.mem s.smm b).symm)
    cases hsel : s.smmSelected b with
    | true => simp only [if_true, hsmm]
    | false => simp only [Bool.false_eq_true, if_false, hmem hsel]
/-- A byte that another agent writes to main memory is what the core reads, unless a locked line hides it. -/
theorem State.busWrite_physByte {s : State} (hm : s.memoryOk = true) (hc : s.cacheOk = true) {a : Word} {v : Byte}
    (hram : s.part.ram a = true) (hsel : s.smmSelected a = false)
    (hopen : ∀ e, s.lineAt a = some e → mesiLocked (e.2.mesi a) = false) : (s.busWrite a v).physByte a = v := by
  obtain ⟨m, m', hback⟩ := s.inquiryWriteBack_eq a
  have hls := (State.cacheOk_iff s).1 hc
  have hback' : (s.inquiryWriteBack a).part.ram a = true := by rw [hback]; exact hram
  have hset := State.setMainByte_ram hback' v
  have hread : ((s.inquiryWriteBack a).setMainByte a v).mem.read a.toNat = v := by
    rw [State.setMainByte_read (State.inquiryWriteBack_memoryOk hm a), if_pos ⟨rfl, hback'⟩]
  have hmiss : (s.busWrite a v).lineAt a = none := by
    have hsel' : (s.busWrite a v).smmSelected a = false := by rw [State.busWrite, hset, hback]; exact hsel
    rw [State.lineAt_eq_find, hsel', State.slSmm_main hsel']
    refine List.find?_eq_none.2 fun f hf hans => ?_
    obtain ⟨e, he, rfl⟩ := List.mem_map.1 hf
    split at hans
    · obtain ⟨hvalid, -⟩ := lineAnswers_iff.1 hans
      rw [CacheLine.mesi_setMesi, if_pos rfl] at hvalid
      have hinvalid : mesiValid 0x3#4 = false := by decide
      exact Bool.false_ne_true (hinvalid.symm.trans hvalid)
    · rename_i hcond
      obtain ⟨-, -, hsmi, htag, hline⟩ := lineAnswers_iff.1 hans
      refine hcond ?_
      rw [hsmi, htag, hline, hopen e]
      · simp
      · rw [State.lineAt, hsel, State.slSmm_main hsel]
        exact hls.find_eq_some_iff.2 ⟨he, hans⟩
  have hsel' : (s.busWrite a v).smmSelected a = false := by rw [State.busWrite, hset, hback]; exact hsel
  have hthere : (s.busWrite a v).part.nothing a = false := by
    rw [State.busWrite, hset, hback]
    exact Part.nothing_of_ram hram
  rw [State.physByte_miss hmiss, State.memByte, hsel', State.mainByte, hthere]
  exact hread

/-! Accesses between which other agents act (R149, R163). -/

theorem State.busDo_cfg (s : State) (es : List BusEvent) : (s.busDo es).cfg = s.cfg := by
  obtain ⟨_, _, _, _, h⟩ := s.busDo_eq es; rw [h]
theorem State.busDo_bus (s : State) (es : List BusEvent) : (s.busDo es).bus = s.bus := by
  obtain ⟨_, _, _, _, h⟩ := s.busDo_eq es; rw [h]
theorem State.busDo_writeProtected (s : State) (es : List BusEvent) (p : PA) :
    (s.busDo es).writeProtected p = s.writeProtected p := by
  obtain ⟨_, _, _, _, h⟩ := s.busDo_eq es; rw [h]; rfl
/-- The bus free, the next agents act. -/
theorem busPoint_next {s : State} {es : List BusEvent} {rest : List (List BusEvent)} (h : s.bus = es :: rest) :
    busPoint true s = .ok () (({ s with bus := rest } : State).busDo es) := by
  simp only [busPoint, if_true, run_upd, State.busNext, h]
theorem busPoint_busy (s : State) : busPoint false s = .ok () s := rfl
theorem physReadByte_ok {s : State} (h : s.cfg.anyRegionBad = false) (pa : Word) :
    physReadByte pa s = .ok (s.physByte pa) s := by simp [physReadByte, h]
theorem physWriteByte_ok {s : State} {p : PA} (h : s.cfg.anyRegionBad = false) (hp : s.writeProtected p = false) (v : Byte) :
    physWriteByte p v s = .ok () (s.storeByte p v) := by simp [physWriteByte, h, hp]
theorem indivisible_pair {p q : PA} (hp : p.lock = false) : indivisible [p, q] = decide (p.addr.toNat % 2 = 0) := by
  simp [indivisible, lockHeld, hp]

section
variable {s t u : State} {p q : PA} {e1 e2 : List BusEvent} {rest : List (List BusEvent)} (hlock : p.lock = false)
  (hbus : s.bus = e1 :: e2 :: rest) (ht : ({ s with bus := e2 :: rest } : State).busDo e1 = t)
  (hbad : s.cfg.anyRegionBad = false)
include hlock hbus ht hbad

/-- An aligned access of two bytes: other agents act before it alone. -/
theorem physRead_aligned (hal : p.addr.toNat % 2 = 0) :
    physRead [p, q] s = .ok [t.physByte p.addr, t.physByte q.addr] t := by
  have hind : indivisible [p, q] = true := by rw [indivisible_pair hlock, hal]; rfl
  have hbad' : t.cfg.anyRegionBad = false := by rw [← ht, State.busDo_cfg]; exact hbad
  rw [physRead, hind]
  exact (run_bind_ok _ ((busPoint_next hbus).trans (congrArg _ ht))).trans <|
    (run_bind_ok _ (physReadByte_ok hbad' p.addr)).trans <| run_bind_ok _ <| run_bind_ok _ (physReadByte_ok hbad' q.addr)
/-- A misaligned one: they act before each of the two. -/
theorem physRead_misaligned (hal : p.addr.toNat % 2 = 1) (hu : ({ t with bus := rest } : State).busDo e2 = u) :
    physRead [p, q] s = .ok [t.physByte p.addr, u.physByte q.addr] u := by
  have hind : indivisible [p, q] = false := by rw [indivisible_pair hlock, hal]; rfl
  have hbad' : t.cfg.anyRegionBad = false := by rw [← ht, State.busDo_cfg]; exact hbad
  have hbad'' : u.cfg.anyRegionBad = false := by rw [← hu, State.busDo_cfg]; exact hbad'
  have hbus' : t.bus = e2 :: rest := by rw [← ht, State.busDo_bus]
  rw [physRead, hind]
  exact (run_bind_ok _ (busPoint_busy s)).trans <| (run_bind_ok _ ((busPoint_next hbus).trans (congrArg _ ht))).trans <|
    (run_bind_ok _ (physReadByte_ok hbad' p.addr)).trans <| run_bind_ok _ <|
    (run_bind_ok _ ((busPoint_next hbus').trans (congrArg _ hu))).trans <| run_bind_ok _ (physReadByte_ok hbad'' q.addr)

variable {x y : Byte} (hp : s.writeProtected p = false) (hq : s.writeProtected q = false)
include hp hq

theorem physWrite_aligned (hal : p.addr.toNat % 2 = 0) :
    physWrite [p, q] [x, y] s = .ok () ((t.storeByte p x).storeByte q y) := by
  have hind : indivisible [p, q] = true := by rw [indivisible_pair hlock, hal]; rfl
  have hheld : lockHeld [p, q] = false := by simp [lockHeld, hlock]
  have hbad' : t.cfg.anyRegionBad = false := by rw [← ht, State.busDo_cfg]; exact hbad
  have hp' : t.writeProtected p = false := by rw [← ht, State.busDo_writeProtected]; exact hp
  have hq' : (t.storeByte p x).writeProtected q = false := by
    rw [State.storeByte_writeProtected, ← ht, State.busDo_writeProtected]; exact hq
  rw [physWrite, hind, hheld]
  exact (run_bind_ok _ ((busPoint_next hbus).trans (congrArg _ ht))).trans <|
    (run_bind_ok _ (physWriteByte_ok hbad' hp' x)).trans <|
    run_bind_ok _ (physWriteByte_ok (by rw [State.storeByte_cfg, hbad']) hq' y)
theorem physWrite_misaligned (hal : p.addr.toNat % 2 = 1)
    (hu : ({ t.storeByte p x with bus := rest } : State).busDo e2 = u) :
    physWrite [p, q] [x, y] s = .ok () (u.storeByte q y) := by
  have hind : indivisible [p, q] = false := by rw [indivisible_pair hlock, hal]; rfl
  have hbad' : t.cfg.anyRegionBad = false := by rw [← ht, State.busDo_cfg]; exact hbad
  have hp' : t.writeProtected p = false := by rw [← ht, State.busDo_writeProtected]; exact hp
  have hbus' : (t.storeByte p x).bus = e2 :: rest := by rw [State.storeByte_bus, ← ht, State.busDo_bus]
  have hbad'' : u.cfg.anyRegionBad = false := by
    rw [← hu, State.busDo_cfg]
    exact (congrArg _ (State.storeByte_cfg t p x)).trans hbad'
  have hq' : u.writeProtected q = false := by
    rw [← hu, State.busDo_writeProtected]
    refine (State.storeByte_writeProtected t p x q).trans ?_
    rw [← ht, State.busDo_writeProtected]
    exact hq
  rw [physWrite, hind]
  exact (run_bind_ok _ (busPoint_busy s)).trans <| (run_bind_ok _ ((busPoint_next hbus).trans (congrArg _ ht))).trans <|
    (run_bind_ok _ (physWriteByte_ok hbad' hp' x)).trans <|
    (run_bind_ok _ ((busPoint_next hbus').trans (congrArg _ hu))).trans (run_bind_ok _ (physWriteByte_ok hbad'' hq' y))
end

/-- Settles O51: bytes stored one by one, the parts of a register, and the accesses of other agents. -/
theorem storeFrame : Obligations.StoreFrame := by
  refine ⟨?memory, ?register, ?byteRegister, ?busWrite, ?busRead, ?interleaved⟩
  case memory =>
    intro n s pas v hm hc hn hlen hdiff
    refine ⟨fun hkeep => State.placeValue_putPlace_mem hn hm hc hlen hdiff hkeep v,
      fun a _ ha => State.storeBytes_physByte_dropped hm hc pas _ ha, fun a ha => State.storeBytes_physByte_other hc pas _ ha, ?_⟩
    obtain ⟨m, m', c, st, h⟩ := s.storeBytes_eq pas (bytesOf (n / 8) v.toNat)
    rw [State.putPlace, h]
  case register =>
    intro n s r q v hn
    have hsame : (s.putPlace (.reg r) v).regs.get r = mergeLow (s.regs.get r) v := Regs.get_set_same _ r _
    refine ⟨?_, fun hq => Regs.get_set_other _ _ hq, ?_, rfl⟩
    · rw [State.placeValue, hsame, setWidth_mergeLow hn]
    · rw [hsame, mergeLow_high hn]
  case byteRegister =>
    intro s r q v
    have hput : s.putPlace (.reg8 r) v = { s with regs := s.regs.set8 r v } :=
      congrArg (fun b => { s with regs := s.regs.set8 r b }) (BitVec.setWidth_eq v)
    have hother (x : Reg) (hx : x ≠ (reg8Host r).1) : (s.regs.set8 r v).get x = s.regs.get x := Regs.get_set8_other _ r v hx
    have hhost : .ebp ≠ (reg8Host r).1 ∧ .esp ≠ (reg8Host r).1 ∧ .esi ≠ (reg8Host r).1 ∧ .edi ≠ (reg8Host r).1 := by
      cases r <;> decide
    obtain ⟨hebp, hesp, hesi, hedi⟩ := hhost
    dsimp only
    rw [hput]
    exact ⟨Regs.get8_set8_same _ r v, fun hq => Regs.get8_set8_other _ r v hq, Regs.get_set8_high _ r v,
      hother .ebp hebp, hother .esp hesp, hother .esi hesi, hother .edi hedi, rfl⟩
  case busWrite =>
    intro s a v hm hc hram hsel hopen
    exact State.busWrite_physByte hm hc hram hsel hopen
  case busRead =>
    intro s a b hm _
    exact State.busRead_physByte hm a b
  case interleaved =>
    intro s p q x y e1 e2 rest hbus hlock hok
    obtain ⟨hbad, hp, hq⟩ : s.cfg.anyRegionBad = false ∧ s.writeProtected p = false ∧ s.writeProtected q = false := by
      simpa [State.storeOk] using hok
    exact ⟨fun hal => ⟨physRead_aligned hlock hbus rfl hbad hal, physWrite_aligned hlock hbus rfl hbad hp hq hal⟩,
      fun hal => ⟨physRead_misaligned hlock hbus rfl hbad hal rfl, physWrite_misaligned hlock hbus rfl hbad hp hq hal rfl⟩⟩

end Sys2Proof.Machine
end

section
/-! SUPPORT. The moves to and from the debug and test registers (R429, R430, R595), and the write-back of all lines (R171, R181). -/
namespace Sys2Proof.Machine
open Sys2Proof

/-! A move from and to a debug register: the level, the register and DR7.GD are checked, in this order (R429, R595). -/

section
variable {s : State} (h : s.unprivileged = false) {n : Bits3} (r : Reg)
include h

theorem debugMoveCheck_refuse (hn : n ∈ [4#3, 5#3]) : debugMoveCheck n s = .error (.refuse .debugRegister45) s :=
  (run_bind_ok _ (requireCpl0_ok h)).trans (run_check_refuse (by simpa using hn))
theorem exec_movRDr_refuse (hn : n ∈ [4#3, 5#3]) : exec (.movRDr r n) s = .refused .debugRegister45 :=
  runInstr_refuse (run_bind_error _ (debugMoveCheck_refuse h hn))
theorem exec_movDrR_refuse (hn : n ∈ [4#3, 5#3]) : exec (.movDrR n r) s = .refused .debugRegister45 :=
  runInstr_refuse (run_bind_error _ (debugMoveCheck_refuse h hn))

variable (hn : n ∉ [4#3, 5#3])
include hn

theorem debugMoveCheck_ok (hgd : s.dr.dr7.getLsbD 13 = false) : debugMoveCheck n s = .ok () s :=
  (run_bind_ok _ (requireCpl0_ok h)).trans <| (run_check_pass (by simpa using hn)).trans <|
    (run_bind_ok _ (run_get s)).trans (congrFun (if_neg (Bool.eq_false_iff.1 hgd)) s)
theorem debugMoveCheck_raise (hgd : s.dr.dr7.getLsbD 13 = true) : debugMoveCheck n s = .error (.exc ⟨1#8, none⟩) s :=
  (run_bind_ok _ (requireCpl0_ok h)).trans <| (run_check_pass (by simpa using hn)).trans <|
    (run_bind_ok _ (run_get s)).trans (congrFun (if_pos hgd) s)
theorem exec_movRDr_ok (hgd : s.dr.dr7.getLsbD 13 = false) :
    exec (.movRDr r n) s = .next (({ s with regs := s.regs.set r (s.dr.read n) } : State).withFreeFlags) :=
  runInstr_ok (run_bind_ok _ (debugMoveCheck_ok h hn hgd))
theorem exec_movDrR_ok (hgd : s.dr.dr7.getLsbD 13 = false) :
    exec (.movDrR n r) s = .next (({ s with dr := s.dr.write n (s.regs.get r) } : State).withFreeFlags) :=
  runInstr_ok (run_bind_ok _ (debugMoveCheck_ok h hn hgd))
theorem exec_movRDr_raise (hgd : s.dr.dr7.getLsbD 13 = true) :
    exec (.movRDr r n) s = deliverFault ⟨1#8, none⟩ (rollback s s) :=
  runInstr_exc (run_bind_error _ (debugMoveCheck_raise h hn hgd))
theorem exec_movDrR_raise (hgd : s.dr.dr7.getLsbD 13 = true) :
    exec (.movDrR n r) s = deliverFault ⟨1#8, none⟩ (rollback s s) :=
  runInstr_exc (run_bind_error _ (debugMoveCheck_raise h hn hgd))
end

/-! A move from and to a test register (R430). -/

section
variable {s : State} (h : s.unprivileged = false) {n : Bits3} (r : Reg)
include h

theorem exec_movRTr_ud (hn : n.toNat < 3) : exec (.movRTr r n) s = deliverFault .ud (rollback s s) :=
  runInstr_exc <| (run_bind_ok _ (requireCpl0_ok h)).trans (run_check_raise hn)
theorem exec_movTrR_ud (hn : n.toNat < 3) : exec (.movTrR n r) s = deliverFault .ud (rollback s s) :=
  runInstr_exc <| (run_bind_ok _ (requireCpl0_ok h)).trans (run_check_raise hn)

variable (hn : ¬ n.toNat < 3)
include hn

theorem exec_movRTr_ok : exec (.movRTr r n) s =
    .next (({ s with regs := s.regs.set r (s.test.read n.toNat) } : State).withFreeFlags) :=
  runInstr_ok <| (run_bind_ok _ (requireCpl0_ok h)).trans (run_check_pass hn)
theorem exec_movTrR_ok {t : State} (hw : writeTr n.toNat (s.regs.get r) s = .ok () t) :
    exec (.movTrR n r) s = .next t.withFreeFlags :=
  runInstr_ok <| (run_bind_ok _ (requireCpl0_ok h)).trans <| (run_check_pass hn).trans <|
    (run_bind_ok _ (run_getReg r s)).trans (run_bind_ok _ hw)
theorem exec_movTrR_refuse {t : State} {x : Refusal} (hw : writeTr n.toNat (s.regs.get r) s = .error (.refuse x) t) :
    exec (.movTrR n r) s = .refused x :=
  runInstr_refuse <| (run_bind_ok _ (requireCpl0_ok h)).trans <| (run_check_pass hn).trans <|
    (run_bind_ok _ (run_getReg r s)).trans (run_bind_error _ hw)
end

/-! The write-back of a sector, of a line and of all lines, for main and SMM memory alike. -/

/-- The byte of main or SMM memory at an address. -/
def State.storedByte (s : State) (smi : Bool) (x : Word) : Byte := if smi then s.smm.read x.toNat else s.mem.read x.toNat
/-- A write-back to main or SMM memory is kept at the address. -/
def State.keepsBack (s : State) (smi : Bool) (x : Word) : Prop := smi = true ∨ s.part.ram x = true

section
variable {s : State} {k i : Nat} {l : CacheLine} (hm : s.memoryOk = true) {smi : Bool} {x : Word}
include hm

theorem State.writeBackSector_storedByte_other (hi : i ≤ 1)
    (hx : ¬ (modifiedAt smi x (k, l) ∧ sectorOf x = i ∧ s.keepsBack smi x)) :
    (s.writeBackSector k i l).storedByte smi x = s.storedByte smi x := by
  cases smi with
  | true => exact State.writeBackSector_smm_other hm hi fun ⟨hmod, hsec⟩ => hx ⟨hmod, hsec, .inl rfl⟩
  | false => exact State.writeBackSector_mem_other hm hi fun ⟨hmod, hsec, hram⟩ => hx ⟨hmod, hsec, .inr hram⟩
theorem State.writeBackSector_storedByte_same (hl : l.data.length = 8) (hmod : modifiedAt smi x (k, l))
    (hkeep : s.keepsBack smi x) : (s.writeBackSector k (sectorOf x) l).storedByte smi x = l.byte x := by
  cases smi with
  | true => exact State.writeBackSector_smm_same hl hm hmod
  | false => exact State.writeBackSector_mem_same hl hm hmod (hkeep.resolve_left Bool.false_ne_true)
omit hm in
theorem State.writeBackSector_keepsBack : (s.writeBackSector k i l).keepsBack smi x ↔ s.keepsBack smi x := by
  obtain ⟨_, _, h⟩ := s.writeBackSector_eq k i l
  rw [h]
  rfl
theorem State.writeBackLine_storedByte_other (hx : ¬ (modifiedAt smi x (k, l) ∧ s.keepsBack smi x)) :
    (s.writeBackLine k l).storedByte smi x = s.storedByte smi x := by
  have hlower := State.writeBackSector_memoryOk hm k 0 (Nat.zero_le 1) l
  refine (State.writeBackSector_storedByte_other hlower (Nat.le_refl 1) ?_).trans
    (State.writeBackSector_storedByte_other hm (Nat.zero_le 1) ?_)
  · rw [State.writeBackSector_keepsBack]
    exact fun ⟨hmod, _, hkeep⟩ => hx ⟨hmod, hkeep⟩
  · exact fun ⟨hmod, _, hkeep⟩ => hx ⟨hmod, hkeep⟩
theorem State.writeBackLine_storedByte_same (hl : l.data.length = 8) (hmod : modifiedAt smi x (k, l))
    (hkeep : s.keepsBack smi x) : (s.writeBackLine k l).storedByte smi x = l.byte x := by
  have hlower := State.writeBackSector_memoryOk hm k 0 (Nat.zero_le 1) l
  have hsec : sectorOf x = 0 ∨ sectorOf x = 1 := by rw [sectorOf_eq]; omega
  rcases hsec with h0 | h1
  · have hsame := State.writeBackSector_storedByte_same hm hl hmod hkeep
    rw [h0] at hsame
    exact (State.writeBackSector_storedByte_other hlower (Nat.le_refl 1) (by simp [h0])).trans hsame
  · have hsame := State.writeBackSector_storedByte_same hlower hl hmod (State.writeBackSector_keepsBack.2 hkeep)
    rwa [h1] at hsame
end

theorem State.writeBackLine_eq (s : State) (k : Nat) (l : CacheLine) :
    ∃ m m', s.writeBackLine k l = { s with mem := m, smm := m' } := by
  obtain ⟨_, _, h⟩ := s.writeBackSector_eq k 0 l
  obtain ⟨m, m', h'⟩ := (s.writeBackSector k 0 l).writeBackSector_eq k 1 l
  exact ⟨m, m', by rw [State.writeBackLine, h', h]⟩
theorem State.writeBackAll_eq (s : State) (ls : List (Nat × CacheLine)) :
    ∃ m m', s.writeBackAll ls = { s with mem := m, smm := m' } := by
  induction ls generalizing s with
  | nil => exact ⟨s.mem, s.smm, rfl⟩
  | cons e rest ih =>
    obtain ⟨_, _, h⟩ := s.writeBackLine_eq e.1 e.2
    obtain ⟨m, m', h'⟩ := ih (s.writeBackLine e.1 e.2)
    exact ⟨m, m', by rw [State.writeBackAll, h', h]⟩
theorem State.writeBackLine_memoryOk {s : State} (hm : s.memoryOk = true) (k : Nat) (l : CacheLine) :
    (s.writeBackLine k l).memoryOk = true :=
  State.writeBackSector_memoryOk (State.writeBackSector_memoryOk hm k 0 (Nat.zero_le 1) l) k 1 (Nat.le_refl 1) l
theorem State.writeBackLine_keepsBack {s : State} {k : Nat} {l : CacheLine} {smi : Bool} {x : Word} :
    (s.writeBackLine k l).keepsBack smi x ↔ s.keepsBack smi x :=
  State.writeBackSector_keepsBack.trans State.writeBackSector_keepsBack

section
variable {s : State} (hm : s.memoryOk = true) {smi : Bool} {x : Word} {ls : List (Nat × CacheLine)}
include hm

/-- Where no line is modified, or nothing is kept, memory stays. -/
theorem State.writeBackAll_storedByte_other (hx : ∀ e ∈ ls, ¬ (modifiedAt smi x e ∧ s.keepsBack smi x)) :
    (s.writeBackAll ls).storedByte smi x = s.storedByte smi x := by
  induction ls generalizing s with
  | nil => rfl
  | cons f rest ih =>
    rw [List.forall_mem_cons] at hx
    refine (ih (State.writeBackLine_memoryOk hm _ _) ?_).trans (State.writeBackLine_storedByte_other hm hx.1)
    rw [State.writeBackLine_keepsBack]
    exact hx.2
/-- The byte of the one line that is modified at the address goes to memory. -/
theorem State.writeBackAll_storedByte_same (hlen : ∀ e ∈ ls, e.2.data.length = 8) {e : Nat × CacheLine} (he : e ∈ ls)
    (hone : ∀ f ∈ ls, modifiedAt smi x f → f = e) (hmod : modifiedAt smi x e) (hkeep : s.keepsBack smi x) :
    (s.writeBackAll ls).storedByte smi x = e.2.byte x := by
  induction ls generalizing s with
  | nil => exact absurd he List.not_mem_nil
  | cons f rest ih =>
    rw [List.forall_mem_cons] at hlen hone
    have hm' := State.writeBackLine_memoryOk hm f.1 f.2
    have hkeep' : (s.writeBackLine f.1 f.2).keepsBack smi x := State.writeBackLine_keepsBack.2 hkeep
    by_cases hrest : e ∈ rest
    · exact ih hm' hlen.2 hrest hone.2 hkeep'
    · obtain rfl : e = f := (List.mem_cons.1 he).resolve_right hrest
      refine (State.writeBackAll_storedByte_other hm' fun g hg hgmod => hrest ?_).trans
        (State.writeBackLine_storedByte_same hm hlen.1 hmod hkeep)
      exact hone.2 g hg hgmod.1 ▸ hg
end
/-- Well formed lines hold at most one modified byte for an address. -/
theorem LinesOk.modifiedAt_unique {ls : List (Nat × CacheLine)} (h : LinesOk ls) {smi : Bool} {x : Word}
    {e f : Nat × CacheLine} (he : e ∈ ls) (hf : f ∈ ls) (hme : modifiedAt smi x e) (hmf : modifiedAt smi x f) : f = e := by
  have answers (g : Nat × CacheLine) (hg : modifiedAt smi x g) : lineAnswers smi false x g = true := by
    obtain ⟨hsmi, htag, hline, hmesi⟩ := hg
    exact lineAnswers_iff.2 ⟨by rw [hmesi]; decide, fun hlock => absurd hlock Bool.false_ne_true, hsmi, htag, hline⟩
  exact h.unique hf he (answers f hmf) (answers e hme)

end Sys2Proof.Machine
end

section
/-! SUPPORT. The cache test commands that a write of TR5 starts (R176 to R181). -/
namespace Sys2Proof.Machine
open Sys2Proof

/-! The command is the CTL field of TR5. -/

section
variable {s : State}

theorem cacheTest_flush (h : s.test.tr5.extractLsb' 0 2 = 0#2) : cacheTest s = .ok () s.cacheFlushKeep := by
  rw [cacheTest, run_bind_ok _ (run_get s), h]
  rfl
theorem cacheTest_write (h : s.test.tr5.extractLsb' 0 2 = 1#2) : cacheTest s = cacheTestWrite s := by
  rw [cacheTest, run_bind_ok _ (run_get s), h]
  rfl
theorem cacheTest_read (h : s.test.tr5.extractLsb' 0 2 = 2#2) : cacheTest s = cacheTestRead s := by
  rw [cacheTest, run_bind_ok _ (run_get s), h]
  rfl
theorem cacheTest_none (h : s.test.tr5.extractLsb' 0 2 = 3#2) : cacheTest s = .ok () s := by
  rw [cacheTest, run_bind_ok _ (run_get s), h]
  rfl
end

/-! CTL = 01: the selected line is written, where its MESI code is known and neither a synonym nor a fourth locked line arises. -/

theorem mesiKnown_iff (m : BitVec 4) : mesiKnown m = true ↔ m ∈ [3#4, 7#4, 8#4, 9#4, 0xA#4, 0xC#4] := by
  revert m
  decide
theorem mesiLocked_iff (m : BitVec 4) : mesiLocked m = true ↔ m ∈ [7#4, 0xC#4] := by
  revert m
  decide
theorem drawWords_eq (n : Nat) (s : State) : ∃ ws, drawWords n s = .ok ws { s with freeCtr := s.freeCtr + n } := by
  induction n generalizing s with
  | zero => exact ⟨[], rfl⟩
  | succ n ih =>
    obtain ⟨ws, h⟩ := ih { s with freeCtr := s.freeCtr + 1 }
    refine ⟨Config.freeWord s.freeCtr :: ws, ?_⟩
    refine ((run_bind_ok _ (run_drawWord s)).trans (run_bind_ok _ h)).trans ?_
    rw [run_pure, Nat.add_assoc, Nat.add_comm 1 n]
/-- The selection of a line draws free values at most. -/
theorem lineOf_eq {k : Nat} {s t : State} {l : CacheLine} (h : lineOf k s = .ok l t) : ∃ j, t = { s with freeCtr := j } := by
  rw [lineOf, run_bind_ok _ (run_get s)] at h
  cases hfind : s.cache.lines.find? (fun e => e.1 == k) with
  | some e =>
    rw [hfind] at h
    cases h
    exact ⟨s.freeCtr, rfl⟩
  | none =>
    rw [hfind] at h
    obtain ⟨ws, hws⟩ := drawWords_eq 8 s
    have hdrawn := (run_bind_ok _ hws).symm.trans h
    cases hdrawn
    exact ⟨s.freeCtr + 8, rfl⟩

theorem cacheTestWrite_unknown {s : State} (h : mesiKnown s.test.mesi = false) :
    cacheTestWrite s = .error (.refuse .undefinedMesi) s :=
  (run_bind_ok _ (run_get s)).trans (run_check_refuse (by simp [h]))
section
variable {s t : State} {l : CacheLine} (hknown : mesiKnown s.test.mesi = true) (hl : lineOf s.test.lineKey s = .ok l t)
include hknown hl

theorem cacheTestWrite_synonym (h : s.cache.synonym s.test.lineKey (s.test.written l) = true) :
    cacheTestWrite s = .error (.refuse .cacheSynonym) t := by
  obtain ⟨j, rfl⟩ := lineOf_eq hl
  exact (run_bind_ok _ (run_get s)).trans <| (run_check_pass (by simp [hknown])).trans <| (run_bind_ok _ hl).trans <|
    (run_bind_ok _ (run_get _)).trans (run_check_refuse h)

variable (hsyn : s.cache.synonym s.test.lineKey (s.test.written l) = false)
include hsyn

theorem cacheTestWrite_allLocked (h : mesiLocked s.test.mesi = true ∧ 3 ≤ s.cache.otherLocked s.test.lineKey) :
    cacheTestWrite s = .error (.refuse .allSetsLocked) t := by
  obtain ⟨j, rfl⟩ := lineOf_eq hl
  exact (run_bind_ok _ (run_get s)).trans <| (run_check_pass (by simp [hknown])).trans <| (run_bind_ok _ hl).trans <|
    (run_bind_ok _ (run_get _)).trans <| (run_check_pass (Bool.eq_false_iff.1 hsyn)).trans (run_check_refuse h)
theorem cacheTestWrite_ok (h : ¬ (mesiLocked s.test.mesi = true ∧ 3 ≤ s.cache.otherLocked s.test.lineKey)) :
    cacheTestWrite s =
      .ok () { t with cache := { s.cache with lines := putKey s.cache.lines s.test.lineKey (s.test.written l) } } := by
  obtain ⟨j, rfl⟩ := lineOf_eq hl
  exact (run_bind_ok _ (run_get s)).trans <| (run_check_pass (by simp [hknown])).trans <| (run_bind_ok _ hl).trans <|
    (run_bind_ok _ (run_get _)).trans <| (run_check_pass (Bool.eq_false_iff.1 hsyn)).trans (run_check_pass h)
end

/-- The same place in the other sector of the line. -/
theorem otherSector_getLsbD (a : Word) : (a ^^^ 0x10#32).getLsbD 4 = !a.getLsbD 4 := by
  rw [BitVec.getLsbD_xor]
  exact Bool.xor_true _
/-- A line is its fields and the codes of the two sectors. -/
theorem CacheLine.eq_of_mesi {l m : CacheLine} (a : Word) (htag : l.tag = m.tag) (hsmi : l.smi = m.smi)
    (hmru : l.mru = m.mru) (hdata : l.data = m.data) (hsame : l.mesi a = m.mesi a)
    (hother : l.mesi (a ^^^ 0x10#32) = m.mesi (a ^^^ 0x10#32)) : l = m := by
  have hmesi : l.mesi0 = m.mesi0 ∧ l.mesi1 = m.mesi1 := by
    simp only [CacheLine.mesi, otherSector_getLsbD] at hsame hother
    cases h : a.getLsbD 4 with
    | true =>
      rw [h] at hsame hother
      exact ⟨hother, hsame⟩
    | false =>
      rw [h] at hsame hother
      exact ⟨hsame, hother⟩
  obtain ⟨h0, h1⟩ := hmesi
  cases l
  cases m
  simp only [CacheLine.mk.injEq]
  exact ⟨htag, hsmi, h0, h1, hmru, hdata⟩
section
variable (t : TestRegs) (l : CacheLine)

theorem TestRegs.written_tag : (t.written l).tag = t.tr4.extractLsb' 14 18 := by
  unfold TestRegs.written
  split
  · rfl
  · exact CacheLine.setMesi_tag _ _ _
theorem TestRegs.written_smi : (t.written l).smi = t.tr5.getLsbD 23 := by
  unfold TestRegs.written
  split
  · rfl
  · exact CacheLine.setMesi_smi _ _ _
theorem TestRegs.written_mru : (t.written l).mru = t.tr5.extractLsb' 8 4 := by
  unfold TestRegs.written
  split
  · rfl
  · unfold CacheLine.setMesi
    split <;> rfl
theorem TestRegs.written_data : (t.written l).data = l.data.set t.entry t.tr3 := by
  unfold TestRegs.written
  split
  · rfl
  · exact CacheLine.setMesi_data _ _ _
theorem TestRegs.written_mesi : (t.written l).mesi t.tr4 = t.mesi := by
  unfold TestRegs.written
  split
  · exact ite_self _
  · exact (CacheLine.mesi_setMesi _ _ _ _).trans (if_pos rfl)
/-- The code of the other sector changes where the line is or was locked. -/
theorem TestRegs.written_mesi_other : (t.written l).mesi (t.tr4 ^^^ 0x10#32) =
    if t.mesi ∈ [7#4, 0xC#4] ∨ l.mesi0 ∈ [7#4, 0xC#4] ∨ l.mesi1 ∈ [7#4, 0xC#4] then t.mesi
    else l.mesi (t.tr4 ^^^ 0x10#32) := by
  simp only [← mesiLocked_iff, ← Bool.or_eq_true]
  unfold TestRegs.written
  change CacheLine.mesi (if (mesiLocked t.mesi || (mesiLocked l.mesi0 || mesiLocked l.mesi1)) = true then _ else _) _ = _
  split
  · exact ite_self _
  · refine (CacheLine.mesi_setMesi _ _ _ _).trans (if_neg ?_)
    rw [otherSector_getLsbD]
    exact Bool.not_ne_self _
variable {t l} {new : CacheLine}
/-- The line that the write command leaves, by its fields. -/
theorem TestRegs.eq_written (htag : new.tag = t.tr4.extractLsb' 14 18) (hsmi : new.smi = t.tr5.getLsbD 23)
    (hmru : new.mru = t.tr5.extractLsb' 8 4) (hdata : new.data = l.data.set t.entry t.tr3) (hsame : new.mesi t.tr4 = t.mesi)
    (hother : new.mesi (t.tr4 ^^^ 0x10#32) =
      if t.mesi ∈ [7#4, 0xC#4] ∨ l.mesi0 ∈ [7#4, 0xC#4] ∨ l.mesi1 ∈ [7#4, 0xC#4] then t.mesi
      else l.mesi (t.tr4 ^^^ 0x10#32)) : new = t.written l :=
  CacheLine.eq_of_mesi t.tr4 (htag.trans (t.written_tag l).symm) (hsmi.trans (t.written_smi l).symm)
    (hmru.trans (t.written_mru l).symm) (hdata.trans (t.written_data l).symm) (hsame.trans (t.written_mesi l).symm)
    (hother.trans (t.written_mesi_other l).symm)
end

/-! CTL = 10: the selected line is read. -/

/-- TR5 as the read command leaves it. -/
def tr5Of (x old : Word) (smi : Bool) (mesi mru : BitVec 4) : Word :=
  (x &&& 0xFF70F0CC#32) ||| (old &&& 0x00000033#32) ||| bitAt 23 smi ||| (mesi.setWidth 32 <<< 16) ||| (mru.setWidth 32 <<< 8)
section
variable (x old : Word) (smi : Bool) (mesi mru : BitVec 4)

theorem tr5Of_getLsbD (i : Nat) : (tr5Of x old smi mesi mru).getLsbD i =
    (x.getLsbD i && (0xFF70F0CC#32).getLsbD i || old.getLsbD i && (0x33#32).getLsbD i ||
      (decide (i < 32) && decide (i = 23) && smi) ||
      (decide (i < 32) && !decide (i < 16) && (decide (i - 16 < 32) && mesi.getLsbD (i - 16))) ||
      (decide (i < 32) && !decide (i < 8) && (decide (i - 8 < 32) && mru.getLsbD (i - 8)))) := by
  simp only [tr5Of, BitVec.getLsbD_or, BitVec.getLsbD_and, getLsbD_bitAt, BitVec.getLsbD_shiftLeft, BitVec.getLsbD_setWidth]
theorem tr5Of_mesi : (tr5Of x old smi mesi mru).extractLsb' 16 4 = mesi := by
  apply BitVec.eq_of_getLsbD_eq
  intro i hi
  rw [BitVec.getLsbD_extractLsb', tr5Of_getLsbD]
  interval_cases i <;> simp
theorem tr5Of_mru : (tr5Of x old smi mesi mru).extractLsb' 8 4 = mru := by
  apply BitVec.eq_of_getLsbD_eq
  intro i hi
  rw [BitVec.getLsbD_extractLsb', tr5Of_getLsbD]
  interval_cases i <;> simp
theorem tr5Of_smi : (tr5Of x old smi mesi mru).getLsbD 23 = smi := by
  rw [tr5Of_getLsbD]
  simp
theorem tr5Of_set : (tr5Of x old smi mesi mru).extractLsb' 4 2 = old.extractLsb' 4 2 := by
  apply BitVec.eq_of_getLsbD_eq
  intro i hi
  rw [BitVec.getLsbD_extractLsb', tr5Of_getLsbD, BitVec.getLsbD_extractLsb']
  interval_cases i <;> simp
theorem tr5Of_ctl : (tr5Of x old smi mesi mru).extractLsb' 0 2 = old.extractLsb' 0 2 := by
  apply BitVec.eq_of_getLsbD_eq
  intro i hi
  rw [BitVec.getLsbD_extractLsb', tr5Of_getLsbD, BitVec.getLsbD_extractLsb']
  interval_cases i <;> simp
end
theorem cacheTestRead_listed {s : State} {e : Nat × CacheLine}
    (h : s.cache.lines.find? (fun e => e.1 == s.test.lineKey) = some e) : cacheTestRead s = .ok () { s with
      test := { s.test with
        tr5 := tr5Of (Config.freeWord s.freeCtr) s.test.tr5 e.2.smi (e.2.mesi s.test.tr4) e.2.mru
        tr3 := e.2.data.getD s.test.entry 0#32 }
      freeCtr := s.freeCtr + 1 } := by
  refine (run_bind_ok _ (run_get s)).trans <| (run_bind_ok _ (run_drawWord s)).trans ?_
  rw [h]
  rfl
/-- The MESI code that a read shows of a line no command has written. -/
def unlistedMesi (filled dirty : Bool) (k : Nat) : BitVec 4 :=
  if filled then cacheTestRead.fillState dirty ((Config.freeWord k).extractLsb' 16 2) else 3#4
theorem cacheTestRead_unlisted {s : State} (h : s.cache.lines.find? (fun e => e.1 == s.test.lineKey) = none) :
    ∃ smi mru d k, cacheTestRead s = .ok () { s with
      test := { s.test with
        tr5 := tr5Of (Config.freeWord s.freeCtr) s.test.tr5 smi
          (unlistedMesi s.cacheFilled s.cache.dirty (s.freeCtr + 1)) mru
        tr3 := d }
      freeCtr := k } := by
  refine ⟨(Config.freeWord (s.freeCtr + 1)).getLsbD 23, (Config.freeWord (s.freeCtr + 1)).extractLsb' 8 4,
    Config.freeWord (s.freeCtr + 2), s.freeCtr + 3, (run_bind_ok _ (run_get s)).trans <| (run_bind_ok _ (run_drawWord s)).trans ?_⟩
  rw [h]
  rfl
theorem unlistedMesi_empty (dirty : Bool) (k : Nat) : unlistedMesi false dirty k = 3#4 := rfl
theorem fillState_mem (dirty : Bool) (b : BitVec 2) : cacheTestRead.fillState dirty b ∈ [3#4, 8#4, 9#4, 0xA#4] ∧
    (dirty = false → cacheTestRead.fillState dirty b ≠ 8#4) := by
  revert dirty b
  decide
theorem unlistedMesi_mem (filled dirty : Bool) (k : Nat) : unlistedMesi filled dirty k ∈ [3#4, 8#4, 9#4, 0xA#4] ∧
    (dirty = false → unlistedMesi filled dirty k ≠ 8#4) := by
  cases filled with
  | true => exact fillState_mem _ _
  | false =>
    rw [unlistedMesi_empty]
    exact ⟨by decide, fun _ => by decide⟩
section
variable {s : State} (hctl : s.test.tr5.extractLsb' 0 2 = 2#2)
include hctl

theorem cacheTest_listed {e : Nat × CacheLine} (he : s.cache.lines.find? (fun e => e.1 == s.test.lineKey) = some e) :
    ∃ w : Word, cacheTest s = .ok () { s with
        test := { s.test with tr5 := w, tr3 := e.2.data.getD s.test.entry 0#32 }, freeCtr := s.freeCtr + 1 } ∧
      w.extractLsb' 16 4 = e.2.mesi s.test.tr4 ∧ w.extractLsb' 8 4 = e.2.mru ∧ w.getLsbD 23 = e.2.smi ∧
      w.extractLsb' 4 2 = s.test.tr5.extractLsb' 4 2 ∧ w.extractLsb' 0 2 = 2#2 :=
  ⟨_, (cacheTest_read hctl).trans (cacheTestRead_listed he), tr5Of_mesi _ _ _ _ _, tr5Of_mru _ _ _ _ _, tr5Of_smi _ _ _ _ _,
    tr5Of_set _ _ _ _ _, (tr5Of_ctl _ _ _ _ _).trans hctl⟩
theorem cacheTest_unlisted (hnone : ∀ e ∈ s.cache.lines, e.1 ≠ s.test.lineKey) :
    ∃ (w d : Word) (k : Nat),
      cacheTest s = .ok () { s with test := { s.test with tr5 := w, tr3 := d }, freeCtr := k } ∧
      w.extractLsb' 16 4 ∈ [3#4, 8#4, 9#4, 0xA#4] ∧
      (s.cache.used = false → s.cr0.getLsbD 30 = true → w.extractLsb' 16 4 = 3#4) ∧
      (s.cache.dirty = false → w.extractLsb' 16 4 ≠ 8#4) ∧
      w.extractLsb' 4 2 = s.test.tr5.extractLsb' 4 2 ∧ w.extractLsb' 0 2 = 2#2 := by
  have hfind : s.cache.lines.find? (fun e => e.1 == s.test.lineKey) = none :=
    List.find?_eq_none.2 fun e he hk => hnone e he (beq_iff_eq.1 hk)
  obtain ⟨smi, mru, d, k, hread⟩ := cacheTestRead_unlisted hfind
  obtain ⟨hfour, hclean⟩ := unlistedMesi_mem s.cacheFilled s.cache.dirty (s.freeCtr + 1)
  refine ⟨_, d, k, (cacheTest_read hctl).trans hread, ?_⟩
  rw [tr5Of_mesi, tr5Of_set, tr5Of_ctl]
  refine ⟨hfour, fun hused hcd => ?_, hclean, rfl, hctl⟩
  have hempty : s.cacheFilled = false := by
    rw [State.cacheFilled, hused, hcd]
    rfl
  rw [hempty, unlistedMesi_empty]
end

/-! CTL = 00: the modified sectors go to memory and are shared afterwards. -/

theorem State.cacheFlushKeep_eq (s : State) : s.cacheFlushKeep = { s.writeBackAll s.cache.lines with
    cache := { s.cache with
      dirty := false
      lines := s.cache.lines.map (fun e : Nat × CacheLine => (e.1, { e.2 with
        mesi0 := if e.2.mesi0 = 8#4 then 9#4 else e.2.mesi0
        mesi1 := if e.2.mesi1 = 8#4 then 9#4 else e.2.mesi1 })) } } := by
  obtain ⟨_, _, h⟩ := s.writeBackAll_eq s.cache.lines
  simp only [State.cacheFlushKeep, CacheLine.mapMesi, h, beq_iff_eq]
/-- All modified bytes go to the memory they belong to, where it keeps them; every other byte stays. -/
theorem State.writeBackAll_storedByte {s : State} (hm : s.memoryOk = true) (hc : s.cacheOk = true) (smi : Bool) (x : Word) :
    (∀ e ∈ s.cache.lines, modifiedAt smi x e → s.keepsBack smi x →
      (s.writeBackAll s.cache.lines).storedByte smi x = e.2.byte x) ∧
    ((∀ e ∈ s.cache.lines, modifiedAt smi x e → ¬ s.keepsBack smi x) →
      (s.writeBackAll s.cache.lines).storedByte smi x = s.storedByte smi x) := by
  have hls := (State.cacheOk_iff s).1 hc
  exact ⟨fun e he hmod hkeep => State.writeBackAll_storedByte_same hm hls.length he
      (fun f hf hfmod => hls.modifiedAt_unique he hf hmod hfmod) hmod hkeep,
    fun hx => State.writeBackAll_storedByte_other hm fun e he ⟨hmod, hkeep⟩ => hx e he hmod hkeep⟩

end Sys2Proof.Machine
end

section
/-! SUPPORT. The TLB test commands that a write of TR6 starts (R225 to R227). -/
namespace Sys2Proof.Machine
open Sys2Proof

/-! The command is the CMD field of TR6. -/

section
variable {s : State}

theorem tlbTest_writeL1 (h : s.test.tr6.extractLsb' 0 3 = 0#3) :
    tlbTest s = .ok () { s with tlb := { s.tlb with l1 := putKey s.tlb.l1 s.test.l1Key s.test.tlbEntry } } := by
  rw [tlbTest, run_bind_ok _ (run_get s), h]
  rfl
theorem tlbTest_writeL2 (h : s.test.tr6.extractLsb' 0 3 = 1#3) {k j : Nat}
    (hset : accessedSet s = .ok k { s with freeCtr := j }) :
    tlbTest s = .ok () { s with
      tlb := { s.tlb with l2 := putKey s.tlb.l2 (s.test.l2Key k) s.test.tlbEntry }, freeCtr := j } := by
  rw [tlbTest, run_bind_ok _ (run_get s), h]
  exact run_bind_ok _ hset
theorem tlbTest_readL1 (h : s.test.tr6.extractLsb' 0 3 ∈ [2#3, 6#3]) : tlbTest s = tlbReadL1 s := by
  simp only [List.mem_cons, List.not_mem_nil, or_false] at h
  rw [tlbTest, run_bind_ok _ (run_get s)]
  rcases h with h | h <;> rw [h] <;> rfl
theorem tlbTest_readL2 (h : s.test.tr6.extractLsb' 0 3 ∈ [3#3, 7#3]) : tlbTest s = tlbReadL2 s := by
  simp only [List.mem_cons, List.not_mem_nil, or_false] at h
  rw [tlbTest, run_bind_ok _ (run_get s)]
  rcases h with h | h <;> rw [h] <;> rfl
theorem tlbTest_undefined (h : s.test.tr6.extractLsb' 0 3 ∈ [4#3, 5#3]) :
    tlbTest s = .error (.refuse .undefinedTlbCommand) s := by
  simp only [List.mem_cons, List.not_mem_nil, or_false] at h
  rw [tlbTest, run_bind_ok _ (run_get s)]
  rcases h with h | h <;> rw [h] <;> rfl
end

/-! The set and the entry that a command accesses. -/

theorem accessedSet_named {s : State} (h : s.test.l2Set ≤ 5) : accessedSet s = .ok s.test.l2Set s :=
  (run_bind_ok _ (run_get s)).trans (congrFun (if_pos h) s)
theorem accessedSet_open {s : State} (h : 5 < s.test.l2Set) :
    accessedSet s = .ok (Config.freeChoice s.freeCtr % 6) { s with freeCtr := s.freeCtr + 1 } :=
  (run_bind_ok _ (run_get s)).trans (congrFun (if_neg (Nat.not_le_of_lt h)) s)
/-- One of the six sets is accessed: the one that TR7 names, where it names one. -/
theorem accessedSet_eq (s : State) : ∃ k j, accessedSet s = .ok k { s with freeCtr := j } ∧ k < 6 ∧
    (s.test.l2Set ≤ 5 → k = s.test.l2Set) := by
  by_cases h : s.test.l2Set ≤ 5
  · exact ⟨s.test.l2Set, s.freeCtr, accessedSet_named h, Nat.lt_succ_of_le h, fun _ => rfl⟩
  · exact ⟨_, _, accessedSet_open (Nat.lt_of_not_le h), Nat.mod_lt _ (by decide), fun h' => absurd h' h⟩
section
variable {l : List (Nat × TlbEntry)} {k : Nat}

theorem tlbEntryAt_listed {e : Nat × TlbEntry} (h : l.find? (fun e => e.1 == k) = some e) (s : State) :
    tlbEntryAt l k s = .ok e.2 s := by
  rw [tlbEntryAt, h]
  rfl
theorem tlbEntryAt_eq (l : List (Nat × TlbEntry)) (k : Nat) (s : State) :
    ∃ e j, tlbEntryAt l k s = .ok e { s with freeCtr := j } := by
  cases h : l.find? (fun e => e.1 == k) with
  | some e => exact ⟨e.2, s.freeCtr, tlbEntryAt_listed h s⟩
  | none =>
    rw [tlbEntryAt, h]
    exact ⟨_, _, (run_bind_ok _ (run_drawWord s)).trans (run_bind_ok _ (run_drawWord _))⟩
end

/-! A read of the L1 TLB. -/

/-- TR7 as a read of the L1 TLB leaves it. -/
def tr7OfL1 (e : TlbEntry) (t : TestRegs) : Word :=
  (tr7Of e t.tr7 &&& ~~~(bitAt 5 true)) ||| bitAt 5 (e.v && e.lin == t.tr6.extractLsb' 12 20)
theorem tlbReadL1_eq {s : State} {e : TlbEntry} {j : Nat}
    (h : tlbEntryAt s.tlb.l1 s.test.l1Key s = .ok e { s with freeCtr := j }) : tlbReadL1 s =
      .ok () { s with test := { s.test with tr6 := tr6Of e s.test.tr6, tr7 := tr7OfL1 e s.test }, freeCtr := j } :=
  (run_bind_ok _ (run_get s)).trans (run_bind_ok _ h)

/-! A read of the L2 TLB. -/

/-- TR7 as a read of the L2 TLB that hits set k alone leaves it. -/
def tr7OfL2 (e : TlbEntry) (k : Nat) (old : Word) : Word :=
  (tr7Of e old &&& ~~~0x17#32) ||| (bitAt 4 true ||| BitVec.ofNat 32 k)
theorem l2HitBits_eq (hits : List Nat) (s : State) : ∃ h j, l2HitBits hits s = .ok h { s with freeCtr := j } := by
  cases hits with
  | nil => exact ⟨_, _, run_bind_ok _ (run_drawWord s)⟩
  | cons k ks => exact ⟨_, _, rfl⟩
theorem l2HitBits_single (k : Nat) (s : State) :
    l2HitBits [k] s = .ok (bitAt 4 true ||| BitVec.ofNat 32 k) { s with freeCtr := s.freeCtr + 1 } := by
  have hfirst (n : Nat) : [k].getD (n % (0 + 1)) k = k := by rw [Nat.mod_one]; rfl
  exact congrArg (fun n => EStateM.Result.ok (bitAt 4 true ||| BitVec.ofNat 32 n) _) (hfirst _)
theorem lookedUp_eq (u : State) (hits : List Nat) (s : State) :
    ∃ x y j, lookedUp u hits s = .ok { u.test with tr6 := x, tr7 := y } { s with freeCtr := j } := by
  match hits with
  | [] => exact ⟨_, _, s.freeCtr, rfl⟩
  | [k] =>
    obtain ⟨e, j, he⟩ := tlbEntryAt_eq u.tlb.l2 (u.test.l2Key k) s
    exact ⟨_, _, j, run_bind_ok _ he⟩
  | _ :: _ :: _ => exact ⟨_, _, s.freeCtr, rfl⟩
theorem tlbReadL2_eq (s : State) :
    ∃ x y j, tlbReadL2 s = .ok () { s with test := { s.test with tr6 := x, tr7 := y }, freeCtr := j } := by
  obtain ⟨k, j, hset, -⟩ := accessedSet_eq s
  obtain ⟨h, j1, hhit⟩ := l2HitBits_eq (l2Hits s.tlb s.test.l2Line (s.test.tr6.extractLsb' 12 20)) { s with freeCtr := j }
  obtain ⟨e, j2, hentry⟩ := tlbEntryAt_eq s.tlb.l2 (s.test.l2Key k) { s with freeCtr := j1 }
  obtain ⟨x, y, j3, hfound⟩ := lookedUp_eq { s with freeCtr := j }
    (l2Hits s.tlb s.test.l2Line (s.test.tr6.extractLsb' 12 20)) { s with freeCtr := j2 }
  refine (show ∀ b, Config.freeBit j3 = b → _ from fun b hb => ?_) _ rfl
  have hbit : drawBit { s with freeCtr := j3 } = .ok b { s with freeCtr := j3 + 1 } := hb ▸ run_drawBit _
  refine ⟨if b then x else tr6Of e s.test.tr6, ((if b then y else tr7Of e s.test.tr7) &&& ~~~0x17#32) ||| h, j3 + 1,
    (run_bind_ok _ hset).trans <| (run_bind_ok _ (run_get _)).trans <| (run_bind_ok _ hhit).trans <|
    (run_bind_ok _ hentry).trans <| (run_bind_ok _ hfound).trans <| (run_bind_ok _ hbit).trans ?_⟩
  cases b <;> rfl
/-- The one set that hits is the one accessed: its entry is read, whichever rule selects it. -/
theorem tlbReadL2_hit {s : State} {k j : Nat} {e : Nat × TlbEntry} (hset : accessedSet s = .ok k { s with freeCtr := j })
    (he : s.tlb.l2.find? (fun e => e.1 == s.test.l2Key k) = some e)
    (hhits : l2Hits s.tlb s.test.l2Line (s.test.tr6.extractLsb' 12 20) = [k]) : tlbReadL2 s = .ok () { s with
      test := { s.test with tr6 := tr6Of e.2 s.test.tr6, tr7 := tr7OfL2 e.2 k s.test.tr7 }, freeCtr := j + 2 } := by
  have hlook : lookedUp { s with freeCtr := j } [k] { s with freeCtr := j + 1 } =
      .ok (s.test.loaded e.2) { s with freeCtr := j + 1 } := run_bind_ok _ (tlbEntryAt_listed he _)
  refine (run_bind_ok _ hset).trans <| (run_bind_ok _ (run_get _)).trans ?_
  dsimp only
  rw [hhits]
  refine (run_bind_ok _ (l2HitBits_single k _)).trans <| (run_bind_ok _ (tlbEntryAt_listed he _)).trans <|
    (run_bind_ok _ hlook).trans <| (run_bind_ok _ (run_drawBit _)).trans ?_
  rw [ite_self]
  rfl
/-- Set k is the one that hits where it alone has a valid entry for the page. -/
theorem l2Hits_eq_single {t : Tlb} {line k : Nat} {page : BitVec 20} (hk : k < 6) (h : ∀ j, j < 6 →
    ((∃ x ∈ t.l2, x.1 = 6 * line + j ∧ x.2.v = true ∧ x.2.lin = page) ↔ j = k)) : l2Hits t line page = [k] := by
  have hpred (j : Nat) (hj : j ∈ [0, 1, 2, 3, 4, 5]) :
      (t.l2.any fun e => e.1 == 6 * line + j && e.2.v && e.2.lin == page) = (j == k) := by
    have hj : j < 6 := by simp only [List.mem_cons, List.not_mem_nil, or_false] at hj; omega
    rw [Bool.eq_iff_iff, beq_iff_eq, ← h j hj]
    simp only [List.any_eq_true, Bool.and_eq_true, beq_iff_eq, and_assoc]
  rw [l2Hits, List.filter_congr hpred]
  interval_cases k <;> rfl

/-! The fields of TR6 and TR7 as a read leaves them, and as a write of TR6 stores them. -/

/-- TR6 and TR7 show an entry and the command. -/
def TestRegs.shows (t : TestRegs) (e : TlbEntry) (cmd : BitVec 3) : Prop :=
  t.tr6.extractLsb' 12 20 = e.lin ∧ t.tr6.getLsbD 11 = e.v ∧ t.tr6.getLsbD 10 = e.d ∧ t.tr6.getLsbD 9 = e.g ∧
  t.tr6.getLsbD 8 = e.u ∧ t.tr6.getLsbD 6 = e.w ∧ t.tr6.getLsbD 4 = e.a ∧ t.tr6.extractLsb' 0 3 = cmd ∧
  t.tr7.extractLsb' 12 20 = e.phys ∧ t.tr7.getLsbD 11 = e.pcd ∧ t.tr7.getLsbD 10 = e.pwt
section
variable (e : TlbEntry) (old : Word)

theorem tr6Of_page : (tr6Of e old).extractLsb' 12 20 = e.lin := by
  apply BitVec.eq_of_getLsbD_eq
  intro i hi
  simp only [tr6Of, BitVec.getLsbD_extractLsb', BitVec.getLsbD_or, BitVec.getLsbD_and, BitVec.getLsbD_append, getLsbD_bitAt]
  interval_cases i <;> simp
theorem tr6Of_cmd : (tr6Of e old).extractLsb' 0 3 = old.extractLsb' 0 3 := by
  apply BitVec.eq_of_getLsbD_eq
  intro i hi
  simp only [tr6Of, BitVec.getLsbD_extractLsb', BitVec.getLsbD_or, BitVec.getLsbD_and, BitVec.getLsbD_append, getLsbD_bitAt]
  interval_cases i <;> simp
theorem tr6Of_bits : (tr6Of e old).getLsbD 11 = e.v ∧ (tr6Of e old).getLsbD 10 = e.d ∧ (tr6Of e old).getLsbD 9 = e.g ∧
    (tr6Of e old).getLsbD 8 = e.u ∧ (tr6Of e old).getLsbD 6 = e.w ∧ (tr6Of e old).getLsbD 4 = e.a := by
  simp only [tr6Of, BitVec.getLsbD_or, BitVec.getLsbD_and, BitVec.getLsbD_append, getLsbD_bitAt]
  simp
theorem tr7Of_page : (tr7Of e old).extractLsb' 12 20 = e.phys := by
  apply BitVec.eq_of_getLsbD_eq
  intro i hi
  simp only [tr7Of, BitVec.getLsbD_extractLsb', BitVec.getLsbD_or, BitVec.getLsbD_and, BitVec.getLsbD_append, getLsbD_bitAt]
  interval_cases i <;> simp
theorem tr7Of_bits : (tr7Of e old).getLsbD 11 = e.pcd ∧ (tr7Of e old).getLsbD 10 = e.pwt := by
  simp only [tr7Of, BitVec.getLsbD_or, BitVec.getLsbD_and, BitVec.getLsbD_append, getLsbD_bitAt]
  simp
end
/-- A read loads the fields of the entry, whatever it stores below bit 10 of TR7. -/
theorem TestRegs.shows_loaded {t : TestRegs} {e : TlbEntry} {old6 old7 : Word} (h6 : t.tr6 = tr6Of e old6)
    (h7 : ∀ i, 10 ≤ i → t.tr7.getLsbD i = (tr7Of e old7).getLsbD i) : t.shows e (old6.extractLsb' 0 3) := by
  obtain ⟨hv, hd, hg, hu, hw, ha⟩ := tr6Of_bits e old6
  obtain ⟨hpcd, hpwt⟩ := tr7Of_bits e old7
  have hpage : t.tr7.extractLsb' 12 20 = (tr7Of e old7).extractLsb' 12 20 := by
    apply BitVec.eq_of_getLsbD_eq
    intro i _
    rw [BitVec.getLsbD_extractLsb', BitVec.getLsbD_extractLsb', h7 _ (by omega)]
  rw [TestRegs.shows, h6, hpage, h7 11 (by decide), h7 10 (by decide)]
  exact ⟨tr6Of_page e old6, hv, hd, hg, hu, hw, ha, tr6Of_cmd e old6, tr7Of_page e old7, hpcd, hpwt⟩
section
variable (e : TlbEntry)

theorem tr7OfL1_getLsbD (t : TestRegs) {i : Nat} (hi : i ≠ 5) :
    (tr7OfL1 e t).getLsbD i = (tr7Of e t.tr7).getLsbD i := by
  by_cases h32 : i < 32
  · simp only [tr7OfL1, BitVec.getLsbD_or, BitVec.getLsbD_and, BitVec.getLsbD_not, getLsbD_bitAt, hi, h32]
    simp
  · rw [BitVec.getLsbD_of_ge _ _ (by omega), BitVec.getLsbD_of_ge _ _ (by omega)]
theorem tr7OfL1_hit (t : TestRegs) :
    (tr7OfL1 e t).getLsbD 5 = (e.v && decide (e.lin = t.tr6.extractLsb' 12 20)) := by
  change _ = (e.v && e.lin == t.tr6.extractLsb' 12 20)
  simp only [tr7OfL1, BitVec.getLsbD_or, BitVec.getLsbD_and, BitVec.getLsbD_not, getLsbD_bitAt]
  simp
theorem tr7OfL2_getLsbD {k : Nat} (hk : k < 6) (old : Word) {i : Nat} (hi : 5 ≤ i) :
    (tr7OfL2 e k old).getLsbD i = (tr7Of e old).getLsbD i := by
  have hpow : 2 ^ 5 ≤ 2 ^ i := Nat.pow_le_pow_right (by decide) hi
  have hset : k.testBit i = false := Nat.testBit_lt_two_pow (by omega)
  have hmask : Nat.testBit 0x17 i = false := Nat.testBit_lt_two_pow (by omega)
  by_cases h32 : i < 32
  · have h4 : i ≠ 4 := by omega
    simp only [tr7OfL2, BitVec.getLsbD_or, BitVec.getLsbD_and, BitVec.getLsbD_not, getLsbD_bitAt, BitVec.getLsbD_ofNat,
      hset, hmask, h4, h32]
    simp
  · rw [BitVec.getLsbD_of_ge _ _ (by omega), BitVec.getLsbD_of_ge _ _ (by omega)]
theorem tr7OfL2_hit (k : Nat) (old : Word) : (tr7OfL2 e k old).getLsbD 4 = true := by
  simp only [tr7OfL2, BitVec.getLsbD_or, getLsbD_bitAt]
  simp
theorem tr7OfL2_set {k : Nat} (hk : k < 6) (old : Word) : ((tr7OfL2 e k old).extractLsb' 0 3).toNat = k := by
  have hbits : (tr7OfL2 e k old).extractLsb' 0 3 = BitVec.ofNat 3 k := by
    apply BitVec.eq_of_getLsbD_eq
    intro i hi
    have hmask : ∀ j, j < 3 → Nat.testBit 0x17 j = true := by decide
    simp only [tr7OfL2, BitVec.getLsbD_extractLsb', BitVec.getLsbD_or, BitVec.getLsbD_and, BitVec.getLsbD_not, getLsbD_bitAt,
      BitVec.getLsbD_ofNat, Nat.zero_add, hmask i hi]
    interval_cases i <;> simp
  rw [hbits, BitVec.toNat_ofNat]
  omega
end
theorem tr6Stored_cmd (v : Word) : (v &&& 0xFFFFFF57#32).extractLsb' 0 3 = v.extractLsb' 0 3 := by
  apply BitVec.eq_of_getLsbD_eq
  intro i hi
  simp only [BitVec.getLsbD_extractLsb', BitVec.getLsbD_and]
  interval_cases i <;> simp
theorem tr6Stored_page (v : Word) : (v &&& 0xFFFFFF57#32).extractLsb' 12 20 = v.extractLsb' 12 20 := by
  apply BitVec.eq_of_getLsbD_eq
  intro i hi
  simp only [BitVec.getLsbD_extractLsb', BitVec.getLsbD_and]
  interval_cases i <;> simp

/-! What a read command leaves. -/

section
variable {s : State}

/-- Each read command changes TR6, TR7 and the free values alone. -/
theorem tlbTest_read (h : s.test.tr6.extractLsb' 0 3 ∈ [2#3, 3#3, 6#3, 7#3]) : ∃ (x y : Word) (j : Nat),
    tlbTest s = .ok () { s with test := { s.test with tr6 := x, tr7 := y }, freeCtr := j } := by
  have hwhich : s.test.tr6.extractLsb' 0 3 ∈ [2#3, 6#3] ∨ s.test.tr6.extractLsb' 0 3 ∈ [3#3, 7#3] := by
    generalize s.test.tr6.extractLsb' 0 3 = c at h
    revert c
    decide
  rcases hwhich with h1 | h2
  · obtain ⟨e, j, he⟩ := tlbEntryAt_eq s.tlb.l1 s.test.l1Key s
    exact ⟨_, _, j, (tlbTest_readL1 h1).trans (tlbReadL1_eq he)⟩
  · obtain ⟨x, y, j, hread⟩ := tlbReadL2_eq s
    exact ⟨x, y, j, (tlbTest_readL2 h2).trans hread⟩
theorem tlbTest_readL1_listed (h : s.test.tr6.extractLsb' 0 3 ∈ [2#3, 6#3]) {e : Nat × TlbEntry}
    (he : s.tlb.l1.find? (fun e => e.1 == s.test.l1Key) = some e) : ∃ t : TestRegs,
      tlbTest s = .ok () { s with test := t } ∧ t = { s.test with tr6 := t.tr6, tr7 := t.tr7 } ∧
      t.shows e.2 (s.test.tr6.extractLsb' 0 3) ∧
      t.tr7.getLsbD 5 = (e.2.v && decide (e.2.lin = s.test.tr6.extractLsb' 12 20)) := by
  refine ⟨{ s.test with tr6 := tr6Of e.2 s.test.tr6, tr7 := tr7OfL1 e.2 s.test },
    (tlbTest_readL1 h).trans (tlbReadL1_eq (tlbEntryAt_listed he s)), rfl,
    TestRegs.shows_loaded (old7 := s.test.tr7) rfl fun i hi => ?_, tr7OfL1_hit e.2 s.test⟩
  exact tr7OfL1_getLsbD e.2 s.test (by omega)
theorem tlbTest_readL2_hit (h : s.test.tr6.extractLsb' 0 3 ∈ [3#3, 7#3]) {k j : Nat} (hk : k < 6)
    (hset : accessedSet s = .ok k { s with freeCtr := j }) {e : Nat × TlbEntry}
    (he : s.tlb.l2.find? (fun e => e.1 == s.test.l2Key k) = some e)
    (hhits : l2Hits s.tlb s.test.l2Line (s.test.tr6.extractLsb' 12 20) = [k]) : ∃ (t : TestRegs),
      tlbTest s = .ok () { s with test := t, freeCtr := j + 2 } ∧ t = { s.test with tr6 := t.tr6, tr7 := t.tr7 } ∧
      t.shows e.2 (s.test.tr6.extractLsb' 0 3) ∧ t.tr7.getLsbD 4 = true ∧ (t.tr7.extractLsb' 0 3).toNat = k :=
  ⟨{ s.test with tr6 := tr6Of e.2 s.test.tr6, tr7 := tr7OfL2 e.2 k s.test.tr7 },
    (tlbTest_readL2 h).trans (tlbReadL2_hit hset he hhits), rfl,
    TestRegs.shows_loaded rfl fun i hi => tr7OfL2_getLsbD e.2 hk s.test.tr7 (by omega), tr7OfL2_hit e.2 k s.test.tr7,
    tr7OfL2_set e.2 hk s.test.tr7⟩
end

end Sys2Proof.Machine
end

section
/-! O39. -/
namespace Sys2Proof.Machine
open Sys2Proof

/-! The writes of TR5 and TR6 that start a command (R430). -/

section
variable {s : State} (h : s.unprivileged = false) (r : Reg)
include h

theorem exec_movTr5_ok {t : State} (hc : cacheTest { s with test := { s.test with tr5 := s.regs.get r } } = .ok () t) :
    exec (.movTrR 5#3 r) s = .next t.withFreeFlags :=
  exec_movTrR_ok h r (by decide) ((run_bind_ok _ (run_upd _ _)).trans hc)
theorem exec_movTr5_refuse {t : State} {x : Refusal}
    (hc : cacheTest { s with test := { s.test with tr5 := s.regs.get r } } = .error (.refuse x) t) :
    exec (.movTrR 5#3 r) s = .refused x :=
  exec_movTrR_refuse h r (by decide) ((run_bind_ok _ (run_upd _ _)).trans hc)
theorem exec_movTr6_ok {t : State}
    (hc : tlbTest { s with test := { s.test with tr6 := s.regs.get r &&& 0xFFFFFF57#32 } } = .ok () t) :
    exec (.movTrR 6#3 r) s = .next t.withFreeFlags :=
  exec_movTrR_ok h r (by decide) ((run_bind_ok _ (run_upd _ _)).trans hc)
theorem exec_movTr6_refuse {t : State} {x : Refusal}
    (hc : tlbTest { s with test := { s.test with tr6 := s.regs.get r &&& 0xFFFFFF57#32 } } = .error (.refuse x) t) :
    exec (.movTrR 6#3 r) s = .refused x :=
  exec_movTrR_refuse h r (by decide) ((run_bind_ok _ (run_upd _ _)).trans hc)
end

/-- Settles O39: the moves, then the cache command of TR5 by CTL and the TLB command of TR6 by CMD. -/
theorem debugAndTestRegisters : Obligations.DebugAndTestRegisters := by
  intro s r h v into dr tr
  refine ⟨?debugMoves, ?debugFault, ?debugRefused, exec_movRTr_ok h r (by decide), exec_movRTr_ok h r (by decide),
    exec_movRTr_ok h r (by decide), exec_movRTr_ok h r (by decide), exec_movRTr_ok h r (by decide),
    exec_movTrR_ok h r (by decide) rfl, exec_movTrR_ok h r (by decide) rfl, exec_movTrR_ok h r (by decide) rfl,
    fun hctl => exec_movTr5_ok h r (cacheTest_none hctl), ?testAbsent, ?cache, ?tlb⟩
  case debugMoves =>
    intro hgd
    exact ⟨exec_movRDr_ok h r (by decide) hgd, exec_movRDr_ok h r (by decide) hgd, exec_movRDr_ok h r (by decide) hgd,
      exec_movRDr_ok h r (by decide) hgd, exec_movRDr_ok h r (by decide) hgd, exec_movRDr_ok h r (by decide) hgd,
      exec_movDrR_ok h r (by decide) hgd, exec_movDrR_ok h r (by decide) hgd, exec_movDrR_ok h r (by decide) hgd,
      exec_movDrR_ok h r (by decide) hgd, exec_movDrR_ok h r (by decide) hgd, exec_movDrR_ok h r (by decide) hgd⟩
  case debugFault =>
    intro hgd n hn
    have hnot : n ∉ [4#3, 5#3] := by
      revert n
      decide
    exact ⟨exec_movRDr_raise h r hnot hgd, exec_movDrR_raise h r hnot hgd⟩
  case debugRefused => exact fun n hn => ⟨exec_movRDr_refuse h r hn, exec_movDrR_refuse h r hn⟩
  case testAbsent =>
    intro n hn
    have habsent : n.toNat < 3 := by
      revert n
      decide
    exact ⟨exec_movRTr_ud h r habsent, exec_movTrR_ud h r habsent⟩
  case cache =>
    intro s5 tr4 key entry mesi
    refine ⟨fun hctl hmesi => ?unknown, fun hctl l t hl new htag hsmi hmru hdata hsame hother hmesi => ?write,
      fun hctl e he => ?readListed, fun hctl hnone => ?readUnlisted, fun hctl => ?flush⟩
    case unknown =>
      have hunknown : mesiKnown s5.test.mesi = false := Bool.eq_false_iff.2 fun hk => hmesi ((mesiKnown_iff _).1 hk)
      exact exec_movTr5_refuse h r ((cacheTest_write hctl).trans (cacheTestWrite_unknown hunknown))
    case write =>
      have hnew : new = s5.test.written l := TestRegs.eq_written htag hsmi hmru hdata hsame hother
      have hknown : mesiKnown s5.test.mesi = true := (mesiKnown_iff _).2 hmesi
      rw [hnew]
      refine ⟨fun hsyn => ?_, fun hsyn hlock hthree => ?_, fun hsyn hfew => ?_⟩
      · exact exec_movTr5_refuse h r ((cacheTest_write hctl).trans (cacheTestWrite_synonym hknown hl hsyn))
      · exact exec_movTr5_refuse h r ((cacheTest_write hctl).trans
          (cacheTestWrite_allLocked hknown hl hsyn ⟨(mesiLocked_iff _).2 hlock, hthree⟩))
      · have hroom : ¬ (mesiLocked s5.test.mesi = true ∧ 3 ≤ s5.cache.otherLocked s5.test.lineKey) := fun ⟨hlock, hthree⟩ =>
          absurd (hfew ((mesiLocked_iff _).1 hlock)) (Nat.not_lt_of_le hthree)
        exact exec_movTr5_ok h r ((cacheTest_write hctl).trans (cacheTestWrite_ok hknown hl hsyn hroom))
    case readListed =>
      obtain ⟨w, hread, hshown⟩ := cacheTest_listed (s := s5) hctl he
      exact ⟨w, exec_movTr5_ok h r hread, hshown⟩
    case readUnlisted =>
      obtain ⟨w, d, k, hread, hshown⟩ := cacheTest_unlisted (s := s5) hctl hnone
      exact ⟨w, d, k, exec_movTr5_ok h r hread, hshown⟩
    case flush =>
      intro w holds
      refine ⟨exec_movTr5_ok h r ((cacheTest_flush hctl).trans (congrArg _ s5.cacheFlushKeep_eq)), ?_, fun hm hc a => ?_⟩
      · obtain ⟨m, m', hback⟩ := s5.writeBackAll_eq s.cache.lines
        change s5.writeBackAll s.cache.lines = _
        rw [show w = _ from hback, hback]
      · obtain ⟨hmain, hmainKept⟩ := State.writeBackAll_storedByte (s := s5) hm hc false a
        obtain ⟨hsmm, hsmmKept⟩ := State.writeBackAll_storedByte (s := s5) hm hc true a
        refine ⟨fun e ⟨he, hmod⟩ hram => hmain e he hmod (.inr hram), fun hrom => hmainKept fun e he hmod hkeep => ?_,
          fun e ⟨he, hmod⟩ => hsmm e he hmod (.inl rfl), fun hnone => hsmmKept fun e he hmod => absurd ⟨he, hmod⟩ (hnone e)⟩
        exact Bool.false_ne_true ((hrom e ⟨he, hmod⟩).symm.trans (hkeep.resolve_left Bool.false_ne_true))
  case tlb =>
    intro v6 s6 tr7 set line1 line2 entry shows only
    have hcmd : s6.test.tr6.extractLsb' 0 3 = v.extractLsb' 0 3 := tr6Stored_cmd v
    have hpage : s6.test.tr6.extractLsb' 12 20 = v.extractLsb' 12 20 := tr6Stored_page v
    refine ⟨fun hc => ?writeL1, fun hc hset => ?writeL2, fun hc hset => ?writeOpen, fun hc => ?undefined, fun hc => ?read,
      fun hc e he => ?readL1, fun hc => ?readL2⟩
    case writeL1 => exact exec_movTr6_ok h r (tlbTest_writeL1 (hcmd.trans hc))
    case writeL2 => exact exec_movTr6_ok h r (tlbTest_writeL2 (hcmd.trans hc) (accessedSet_named hset))
    case writeOpen =>
      exact ⟨_, Nat.mod_lt _ (by decide), exec_movTr6_ok h r (tlbTest_writeL2 (hcmd.trans hc) (accessedSet_open hset))⟩
    case undefined =>
      rw [← hcmd] at hc
      exact exec_movTr6_refuse h r (tlbTest_undefined hc)
    case read =>
      rw [← hcmd] at hc
      obtain ⟨x, y, j, hread⟩ := tlbTest_read hc
      exact ⟨x, y, j, exec_movTr6_ok h r hread⟩
    case readL1 =>
      rw [← hcmd] at hc
      obtain ⟨t, hread, ht, hshows, hhit⟩ := tlbTest_readL1_listed hc he
      rw [hcmd] at hshows
      rw [hpage] at hhit
      exact ⟨_, exec_movTr6_ok h r hread, congrArg (fun t => { s with test := t }.withFreeFlags) ht, hshows, hhit⟩
    case readL2 =>
      rw [← hcmd] at hc
      obtain ⟨k, j, hset, hk, hnamed⟩ := accessedSet_eq s6
      refine ⟨k, hk, hnamed, fun e he hhits => ?_⟩
      rw [← hpage] at hhits
      obtain ⟨t, hread, ht, hshows, hhit⟩ := tlbTest_readL2_hit hc hk hset he (l2Hits_eq_single hk hhits)
      rw [hcmd] at hshows
      exact ⟨_, exec_movTr6_ok h r hread,
        congrArg (fun t => ({ s with test := t, freeCtr := j + 2 } : State).withFreeFlags) ht, hshows, hhit⟩

end Sys2Proof.Machine
end

section
/-! SUPPORT. What an access to memory that answers leaves of the state: only what translation, free values, breakpoint conditions
and other bus agents change (R216, R219, R591). -/
namespace Sys2Proof.Machine
open Sys2Proof

/-! Two states that an access links. -/

theorem sameButAccess_iff (s t : State) : sameButAccess s t ↔ ∃ m m' c tlb st bus k h, t =
    { s with
      mem := m, smm := m', cache := c, tlb := tlb, stale := st, bus := bus, freeCtr := k
      cur := { s.cur with hits := h } } := by
  constructor
  · intro h
    exact ⟨_, _, _, _, _, _, _, _, h⟩
  · rintro ⟨m, m', c, tlb, st, bus, k, h, rfl⟩
    rfl
theorem sameButAccess.refl (s : State) : sameButAccess s s := rfl
theorem sameButAccess.trans {s t u : State} (h : sameButAccess s t) (h' : sameButAccess t u) : sameButAccess s u := by
  obtain ⟨_, _, _, _, _, _, _, _, rfl⟩ := (sameButAccess_iff s t).1 h
  obtain ⟨_, _, _, _, _, _, _, _, rfl⟩ := (sameButAccess_iff _ u).1 h'
  rfl
theorem sameButAccess.regs {s t : State} (h : sameButAccess s t) : t.regs = s.regs := by
  obtain ⟨_, _, _, _, _, _, _, _, rfl⟩ := (sameButAccess_iff s t).1 h
  rfl

/-! Actions whose answers are such accesses, and the rules to compose them. -/

/-- Where `a` answers, the state before and the state after differ as an access makes them. -/
def Act.AccessOnly {α : Type} (a : Act α) : Prop := ∀ ⦃s t : State⦄ ⦃x : α⦄, a s = .ok x t → sameButAccess s t

section
variable {α β : Type}

theorem Act.AccessOnly.pure (x : α) : (Pure.pure x : Act α).AccessOnly := fun _ _ _ h => by cases h; rfl
theorem Act.AccessOnly.raise (e : Exc) : (Machine.raise e : Act α).AccessOnly := fun _ _ _ h => nomatch h
theorem Act.AccessOnly.upd {f : State → State} (hf : ∀ s, sameButAccess s (f s)) : (Machine.upd f).AccessOnly :=
  fun s _ _ h => by cases h; exact hf s
theorem Act.AccessOnly.bind {a : Act α} {f : α → Act β} (ha : a.AccessOnly) (hf : ∀ x, (f x).AccessOnly) :
    (a >>= f).AccessOnly := fun _ _ _ h => by
  obtain ⟨x, u, hau, hfu⟩ := run_bind_ok_iff.1 h
  exact (ha hau).trans (hf x hfu)
theorem Act.AccessOnly.get {f : State → Act β} (hf : ∀ s, (f s).AccessOnly) :
    ((MonadState.get : Act State) >>= f).AccessOnly := fun s _ _ h => hf s h
theorem Act.AccessOnly.ite {c : Prop} [Decidable c] {a b : Act α} (ha : a.AccessOnly) (hb : b.AccessOnly) :
    (if c then a else b).AccessOnly := by
  split
  · exact ha
  · exact hb
/-- A check that raises an exception where it fails. -/
theorem Act.AccessOnly.check {c : Prop} [Decidable c] {e : Exc} {f : α → Act β} {b : Act β} (hb : b.AccessOnly) :
    (if c then Machine.raise e >>= f else b).AccessOnly := .ite (fun _ _ _ h => nomatch h) hb
end

/-! Physical memory, in the order of the model. -/

theorem busPoint_accessOnly (free : Bool) : (busPoint free).AccessOnly :=
  .ite (.upd fun s => by obtain ⟨_, _, _, _, h⟩ := s.busNext_eq; rw [h]; rfl) (.pure _)
theorem physReadByte_accessOnly (pa : Word) : (physReadByte pa).AccessOnly := fun s _ _ h => by
  unfold physReadByte at h
  split at h
  · cases h
  · cases h; rfl
theorem physWriteByte_accessOnly (p : PA) (v : Byte) : (physWriteByte p v).AccessOnly := fun s _ _ h => by
  unfold physWriteByte at h
  split at h
  · cases h
  split at h
  · cases h
  · cases h
    obtain ⟨_, _, _, hs⟩ := s.storeByte_eq p v
    rw [hs]
    rfl
theorem readBytes_accessOnly (apart : Bool) (pas : List PA) : (readBytes apart pas).AccessOnly := by
  induction pas with
  | nil => exact .pure _
  | cons p rest ih =>
    exact .bind (busPoint_accessOnly _) fun _ => .bind (physReadByte_accessOnly _) fun _ => .bind ih fun _ => .pure _
theorem writeBytes_accessOnly (apart : Bool) (pas : List PA) (bs : List Byte) : (writeBytes apart pas bs).AccessOnly := by
  induction pas generalizing bs with
  | nil => exact .pure _
  | cons p rest ih =>
    cases bs with
    | nil => exact .pure _
    | cons b bs => exact .bind (busPoint_accessOnly _) fun _ => .bind (physWriteByte_accessOnly _ _) fun _ => ih bs
theorem physRead_accessOnly (pas : List PA) : (physRead pas).AccessOnly :=
  .bind (busPoint_accessOnly _) fun _ => readBytes_accessOnly _ _
theorem physWrite_accessOnly (pas : List PA) (bs : List Byte) : (physWrite pas bs).AccessOnly :=
  .bind (busPoint_accessOnly _) fun _ => writeBytes_accessOnly _ _ _
theorem physReadN_accessOnly (pa : Word) (n : Nat) : (physReadN pa n).AccessOnly :=
  .bind (physRead_accessOnly _) fun _ => .pure _

/-! Paging: a page fault does not answer, so that CR2 stays. -/

theorem pageFault_accessOnly {α : Type} (la : Word) (kind : Acc) (user present : Bool) :
    (pageFault la kind user present : Act α).AccessOnly := fun s _ _ h => by
  rw [pageFault_error] at h
  cases h
theorem pageWalk_accessOnly (la : Word) (kind : Acc) (user : Bool) : (pageWalk la kind user).AccessOnly :=
  .get fun _ => .bind (physReadN_accessOnly _ _) fun _ => .ite (pageFault_accessOnly _ _ _ _) <|
    .bind (physReadN_accessOnly _ _) fun _ => .ite (pageFault_accessOnly _ _ _ _) <| .ite (pageFault_accessOnly _ _ _ _) <|
    .pure _
theorem drawChoice_accessOnly (n : Nat) : (drawChoice n).AccessOnly := fun _ _ _ h => by cases h; rfl
theorem translate_accessOnly (la : Word) (kind : Acc) (user : Bool) : (translate la kind user).AccessOnly := by
  refine .get fun s => .ite (.pure _) ?_
  split
  · exact pageWalk_accessOnly _ _ _
  · refine .bind (drawChoice_accessOnly _) fun k => ?_
    split
    · exact .pure _
    · exact pageWalk_accessOnly _ _ _
theorem markEntry_accessOnly (a : Word) (wt : Bool) (bits : Word) : (markEntry a wt bits).AccessOnly :=
  .bind (physRead_accessOnly _) fun _ => .ite (physWrite_accessOnly _ _) (.pure _)
theorem commitXlat_accessOnly (la : Word) (kind : Acc) (x : Xlat) : (commitXlat la kind x).AccessOnly := by
  unfold commitXlat
  split
  · exact .pure _
  · refine .bind (markEntry_accessOnly _ _ _) fun _ => .bind (markEntry_accessOnly _ _ _) fun _ => .upd fun s => ?_
    dsimp only
    split <;> rfl
theorem linXlat_accessOnly (la : Word) (n : Nat) (kind : Acc) (user : Bool) : (linXlat la n kind user).AccessOnly :=
  .bind (translate_accessOnly _ _ _) fun _ => .ite (.pure _) <| .bind (translate_accessOnly _ _ _) fun _ => .pure _
theorem linAccess_accessOnly (la : Word) (n : Nat) (kind : Acc) (user : Bool) (al : Nat) :
    (linAccess la n kind user al).AccessOnly := by
  refine .bind (linXlat_accessOnly _ _ _ _) fun ⟨x1, x2⟩ => .get fun _ => .check <|
    .bind (commitXlat_accessOnly _ _ _) fun _ => ?_
  cases x2 with
  | none => exact .pure _
  | some x => exact .bind (commitXlat_accessOnly _ _ _) fun _ => .pure _

/-! Accesses through a segment. -/

theorem segCheck_accessOnly (r : SegReg) (off : Word) (n : Nat) (kind : Acc) : (segCheck r off n kind).AccessOnly :=
  fun s _ _ h => by rw [(segCheck_inv h).1]; exact .refl s
theorem noteHits_accessOnly (h : State → BitVec 4) : (noteHits h).AccessOnly := .upd fun _ => rfl
theorem segAccess_accessOnly (r : SegReg) (off : Word) (n : Nat) (kind : Acc) (al : Nat) :
    (segAccess r off n kind al).AccessOnly :=
  .bind (segCheck_accessOnly _ _ _ _) fun _ => .get fun _ => .bind (linAccess_accessOnly _ _ _ _ _) fun _ =>
    .bind (noteHits_accessOnly _) fun _ => .get fun _ => .pure _
theorem memRead_accessOnly (r : SegReg) (off : Word) (n al : Nat) : (memRead r off n al).AccessOnly :=
  .bind (segAccess_accessOnly _ _ _ _ _) fun _ => .bind (physRead_accessOnly _) fun _ => .pure _

/-- Where an access is checked and permitted, a store there is what it writes (R10). -/
theorem memWrite_ok {r : SegReg} {off : Word} {n al : Nat} {s t : State} {pas : List PA}
    (ha : segAccess r off n .write al s = .ok pas t) (hw : t.writeOk pas = true) (v : Nat) :
    memWrite r off n al v s = .ok () (t.storeBytes pas (bytesOf n v)) :=
  (run_bind_ok _ ha).trans (physWrite_ok hw _)

end Sys2Proof.Machine
end

section
/-! SUPPORT, and O30. The I/O primitives: what each answers at an external port, at the configuration ports and across them, and
the registers behind these. -/
namespace Sys2Proof.Machine
open Sys2Proof

/-! The accesses that the spec leaves out (D5, D24). -/

section
variable {port : Word16} {n : Nat} {s : State}

theorem ioBounds_ok (hend : port.toNat + n ≤ 0x10000) (hcfg : n = 1 ∨ ¬ (port.toNat ≤ 0x23 ∧ 0x22 < port.toNat + n)) :
    ioBounds port n s = .ok () s :=
  (run_check_pass (by omega)).trans (congrFun (if_neg (by tauto)) s)
/-- A word or doubleword that touches port 22h or 23h (D5). -/
theorem ioBounds_refuse {sz : OSize} (hlo : port.toNat ≤ 0x23) (hhi : 0x22 < port.toNat + osBytes sz) :
    ioBounds port (osBytes sz) s = .error (.refuse .configPortWidth) s := by
  have hn : osBytes sz ≠ 1 ∧ osBytes sz ≤ 4 := by cases sz <;> decide
  exact (run_check_pass (by omega)).trans (congrFun (if_pos ⟨hn.1, hlo, hhi⟩) s)
theorem externalPort_iff : externalPort port n = true ↔ cfgPort port = false ∧ port.toNat + n ≤ 0x10000 ∧
    (n = 1 ∨ ¬ (port.toNat ≤ 0x23 ∧ 0x22 < port.toNat + n)) := by
  simp only [externalPort, Bool.and_eq_true, Bool.or_eq_true, Bool.not_eq_true', decide_eq_true_eq, decide_eq_false_iff_not,
    beq_iff_eq, and_assoc]
theorem cfgPort_iff : cfgPort port = true ↔ port = 0x22#16 ∨ port = 0x23#16 := by
  simp only [cfgPort, Bool.or_eq_true, beq_iff_eq]
theorem ioBounds_cfgPort (hport : cfgPort port = true) : ioBounds port 1 s = .ok () s := by
  refine ioBounds_ok ?_ (.inl rfl)
  rcases cfgPort_iff.1 hport with rfl | rfl <;> decide
end

/-! One access: an external cycle, or a byte at a configuration port (R101, R143). -/

/-- The state once a port 23h transfer has used the selection up (R101). -/
def State.indexUsed (s : State) : State := { s with cfg := { s.cfg with indexValid := false } }
@[simp] theorem run_consumeIndex (s : State) : consumeIndex s = .ok () s.indexUsed := rfl

/-- A byte written to port 22h (R101). -/
theorem cfgPortWrite_index (v : Word) (s : State) : cfgPortWrite 0x22#16 v s =
    if s.cfg.onChip (v.setWidth 8) then
      .ok () { s with cfg := { s.cfg with index := v.setWidth 8, indexValid := true } }
    else externalWrite 0x22#16 1 v s.indexUsed := by
  unfold cfgPortWrite
  rw [run_bind_ok _ (run_get s), if_pos rfl, run_ite]
  rfl
/-- A byte written to port 23h (R101). -/
theorem cfgPortWrite_data (v : Word) (s : State) : cfgPortWrite 0x23#16 v s =
    if s.cfg.indexValid then .ok () (s.cfgWrite s.cfg.index (v.setWidth 8)).indexUsed
    else externalWrite 0x23#16 1 v s := by
  unfold cfgPortWrite
  rw [run_bind_ok _ (run_get s), if_neg (by decide), run_ite]
  rfl

section
variable {port : Word16} {n : Nat} {s t : State} (index : Option Word)

theorem ioRead_external (h : externalPort port n = true) :
    ioRead port n index s = .ok (s.portValue port n) (s.portRead port n index) := by
  obtain ⟨hcfg, hend, hwide⟩ := externalPort_iff.1 h
  exact (run_bind_ok _ (ioBounds_ok hend hwide)).trans (congrFun (if_neg (by rw [hcfg]; decide)) s)
theorem ioWrite_external (h : externalPort port n = true) (v : Word) :
    ioWrite port n v index s = .ok () (s.portWritten port n v index) := by
  obtain ⟨hcfg, hend, hwide⟩ := externalPort_iff.1 h
  exact (run_bind_ok _ (ioBounds_ok hend hwide)).trans (congrFun (if_neg (by rw [hcfg]; decide)) s)
theorem ioRead_cfgPort {v : Word} (hport : cfgPort port = true) (hr : cfgPortRead port s = .ok v t) :
    ioRead port 1 index s = .ok v (t.ioNoted false port 1 v index) :=
  (run_bind_ok _ (ioBounds_cfgPort hport)).trans <| (congrFun (if_pos hport) s).trans (run_bind_ok _ hr)
theorem ioWrite_cfgPort {v : Word} (hport : cfgPort port = true) (hw : cfgPortWrite port v s = .ok () t) :
    ioWrite port 1 v index s = .ok () (t.ioNoted true port 1 v index) :=
  (run_bind_ok _ (ioBounds_cfgPort hport)).trans <| (congrFun (if_pos hport) s).trans (run_bind_ok _ hw)

/-- Port 22h, and port 23h without a selection: a read is an external cycle. -/
theorem ioRead_unselected (h : port = 0x22#16 ∨ port = 0x23#16 ∧ s.cfg.indexValid = false) :
    ioRead port 1 index s = .ok (s.portValue port 1) (s.portRead port 1 index) := by
  have hport : cfgPort port = true := cfgPort_iff.2 (h.imp id And.left)
  have hno : ¬ (port = 0x23#16 ∧ s.cfg.indexValid = true) := by
    rintro ⟨rfl, hv⟩
    simp [hv] at h
  exact ioRead_cfgPort index hport (congrFun (if_neg hno) s)
/-- Port 23h with a selection: the register is read. -/
theorem ioRead_selected (hv : s.cfg.indexValid = true) {b : Byte} (hr : cfgRead s.cfg.index s = .ok b t) :
    ioRead 0x23#16 1 index s =
      .ok (b.setWidth 32) (t.indexUsed.ioNoted false 0x23#16 1 (b.setWidth 32) index) :=
  ioRead_cfgPort index rfl <| (congrFun (if_pos ⟨rfl, hv⟩) s).trans (run_bind_ok _ hr)
/-- Port 23h without a selection: a write is an external cycle. -/
theorem ioWrite_unselected (hv : s.cfg.indexValid = false) (v : Word) :
    ioWrite 0x23#16 1 v index s = .ok () (s.portWritten 0x23#16 1 v index) := by
  have hw : cfgPortWrite 0x23#16 v s = externalWrite 0x23#16 1 v s := by
    rw [cfgPortWrite_data, if_neg (ne_true_of_eq_false hv)]
  exact ioWrite_cfgPort index rfl hw

variable {v : Word} {b : Byte} (hb : v.setWidth 8 = b)
include hb
/-- Port 22h: an index on the chip is selected. -/
theorem ioWrite_index_onChip (hon : s.cfg.onChip b = true) : ioWrite 0x22#16 1 v index s =
    .ok () ({ s with cfg := { s.cfg with index := b, indexValid := true } }.ioNoted true 0x22#16 1 v index) := by
  subst hb
  refine ioWrite_cfgPort index rfl ?_
  rw [cfgPortWrite_index, if_pos hon]
/-- Port 22h: any other index is an external cycle, and nothing is selected any more. -/
theorem ioWrite_index_offChip (hoff : s.cfg.onChip b = false) :
    ioWrite 0x22#16 1 v index s = .ok () (s.indexUsed.portWritten 0x22#16 1 v index) := by
  subst hb
  have hw : cfgPortWrite 0x22#16 v s = externalWrite 0x22#16 1 v s.indexUsed := by
    rw [cfgPortWrite_index, if_neg (ne_true_of_eq_false hoff)]
  exact ioWrite_cfgPort index rfl hw
/-- Port 23h with a selection: the register is written. -/
theorem ioWrite_selected (hv : s.cfg.indexValid = true) : ioWrite 0x23#16 1 v index s =
    .ok () ((s.cfgWrite s.cfg.index b).indexUsed.ioNoted true 0x23#16 1 v index) := by
  subst hb
  refine ioWrite_cfgPort index rfl ?_
  rw [cfgPortWrite_data, if_pos hv]
end

/-- A word or doubleword that touches the configuration ports is refused, whether read or written. -/
theorem ioAccess_refuse {port : Word16} {sz : OSize} (hlo : port.toNat ≤ 0x23) (hhi : 0x22 < port.toNat + osBytes sz)
    (s : State) (v : Word) (index : Option Word) :
    ioRead port (osBytes sz) index s = .error (.refuse .configPortWidth) s ∧
    ioWrite port (osBytes sz) v index s = .error (.refuse .configPortWidth) s :=
  ⟨run_bind_error _ (ioBounds_refuse hlo hhi), run_bind_error _ (ioBounds_refuse hlo hhi)⟩

/-! IN and OUT of a byte, once the access is permitted (R381, R382, R530). -/

section
variable {i : Instr} {port : Word16} {s s1 t : State} (hp : ioPermit port 1 s = .ok () s1)
include hp

theorem exec_byteOut (hi : byteOut i s port) (hw : ioWrite port 1 ((s.regs.get8 .al).setWidth 32) none s1 = .ok () t) :
    exec i s = .next t := by
  have hout : outPort port 1 ((s.regs.get8 .al).setWidth 32) s = .ok () t := (run_bind_ok _ hp).trans hw
  rcases hi with ⟨p, rfl, rfl⟩ | ⟨rfl, rfl⟩
  · exact runInstr_ok hout
  · exact runInstr_ok hout
theorem exec_byteIn (hi : byteIn i s port) {v : Word} (hr : ioRead port 1 none s1 = .ok v t) :
    exec i s = .next (t.putReg8 .al (v.setWidth 8)) := by
  have hin : inPort port 1 s = .ok v t := (run_bind_ok _ hp).trans hr
  rcases hi with ⟨p, rfl, rfl⟩ | ⟨rfl, rfl⟩
  · exact runInstr_ok (run_bind_ok _ hin)
  · exact runInstr_ok (run_bind_ok _ hin)
end

/-! The registers (R103, R116, R560). -/

theorem CfgRegs.onChip_iff (c : CfgRegs) (v : Byte) : c.onChip v = true ↔
    c.ccr3.toNat / 16 = 1 ∨ 0xC0 ≤ v.toNat ∧ v.toNat ≤ 0xCF ∨ 0xFC ≤ v.toNat := by
  have hmap : c.mapAll = true ↔ c.ccr3.toNat / 16 = 1 := by
    have hlt := c.ccr3.isLt
    simp only [CfgRegs.mapAll, beq_iff_eq, ← BitVec.toNat_inj, BitVec.extractLsb'_toNat, Nat.shiftRight_eq_div_pow,
      BitVec.toNat_ofNat]
    omega
  simp only [CfgRegs.onChip, Bool.or_eq_true, Bool.and_eq_true, decide_eq_true_eq, hmap, or_assoc]
/-- An index that holds a configuration control register. -/
theorem State.cfgWrite_ccr {i : Byte} {n : Nat} (h : cfgSlot i.toNat = .ccr n) (s : State) (v : Byte) :
    s.cfgWrite i v = { s with cfg := s.cfg.setCcr n (s.ccrWritten n v) } := by
  unfold State.cfgWrite
  rw [h]
theorem cfgRead_ccr {i : Byte} {n : Nat} (h : cfgSlot i.toNat = .ccr n) (s : State) :
    cfgRead i s = .ok (s.cfg.ccr n) s := by
  unfold cfgRead
  rw [run_bind_ok _ (run_get s), h]
  rfl
/-- A byte of ARR3, which SMI_LOCK does not freeze: the valid bit of SMHR is cleared as well (R560). -/
theorem State.cfgWrite_arr3 {i : Byte} {k : Nat} (h : cfgSlot i.toNat = .arr 3 k) {s : State}
    (hlock : s.cfg.ccr3.getLsbD 0 = false) (v : Byte) : s.cfgWrite i v =
    { s with cfg := { s.cfg with arr3 := setArrByte s.cfg.arr3 k v }, smhr := s.smhr &&& ~~~1#32 } := by
  unfold State.cfgWrite
  rw [h]
  exact (if_pos rfl).trans (if_neg (by rw [hlock]; exact Bool.false_ne_true))
/-- SMI_LOCK freezes no bit of a register other than CCR1, CCR3 and CCR6 (R116). -/
theorem State.ccrWritten_free {n : Nat} (h : lockedBits n = 0#8) (h3 : n ≠ 3) (s : State) (v : Byte) :
    s.ccrWritten n v = v := by
  have hkeep : keepBits 0#8 (s.cfg.ccr n) v = v := by
    rw [keepBits, show ~~~(0#8) = BitVec.allOnes 8 from rfl, BitVec.and_allOnes, BitVec.and_zero, BitVec.or_zero]
  unfold State.ccrWritten
  rw [if_neg h3, h, hkeep, ite_self]
/-- Outside SMM, SMI_LOCK freezes its bits of a configuration control register (R116). -/
theorem State.ccrWritten_locked {n : Nat} (h3 : n ≠ 3) {s : State} (hlock : s.cfg.ccr3.getLsbD 0 = true)
    (hsmm : s.inSmm = false) (v : Byte) : s.ccrWritten n v = keepBits (lockedBits n) (s.cfg.ccr n) v :=
  (if_neg h3).trans (if_pos (by rw [hlock, hsmm]; rfl))
/-- The last byte of an address region register. -/
theorem setArrByte_last (a : BitVec 24) (v : Byte) : setArrByte a 2 v = a.extractLsb' 8 16 ++ v := by
  have hset : setArrByte a 2 v = (a &&& ~~~(BitVec.allOnes 8).setWidth 24) ||| v.setWidth 24 := by
    rw [setArrByte, BitVec.shiftLeft_zero, BitVec.shiftLeft_zero]
    rfl
  refine BitVec.eq_of_getLsbD_eq fun i hi => ?_
  have happ : (a.extractLsb' 8 16 ++ v : BitVec 24).getLsbD i = _ := BitVec.getLsbD_append
  rw [hset, happ]
  simp only [BitVec.getLsbD_or, BitVec.getLsbD_and, BitVec.getLsbD_not, BitVec.getLsbD_setWidth, BitVec.getLsbD_allOnes,
    BitVec.getLsbD_extractLsb']
  by_cases hlow : i < 8
  · simp [hlow, hi]
  · have hback : 8 + (i - 8) = i := by omega
    have hin : i - 8 < 16 := by omega
    simp [hlow, hi, hback, hin, BitVec.getLsbD_of_ge v i (by omega)]

/-- Settles O30: the two ports, then the registers behind them. -/
theorem configPorts : Obligations.ConfigPorts := by
  refine ⟨fun s s1 i hi hp => ?writeIndex, fun s s1 i hi hp => ?readIndex, fun s s1 i hi hp => ?writeData,
    fun s s1 i hi hp => ?readData, fun s s1 sz p hlo hhi hp => ?wide, fun s v => ?registers⟩
  case writeIndex =>
    have hb : ((s.regs.get8 .al).setWidth 32).setWidth 8 = s.regs.get8 .al := BitVec.setWidth_setWidth_of_le _ (by decide)
    exact ⟨fun hon => exec_byteOut hp hi (ioWrite_index_onChip none hb hon),
      fun hoff => exec_byteOut hp hi (ioWrite_index_offChip none hb hoff)⟩
  case readIndex => exact exec_byteIn hp hi (ioRead_unselected none (.inl rfl))
  case writeData =>
    have hb : ((s.regs.get8 .al).setWidth 32).setWidth 8 = s.regs.get8 .al := BitVec.setWidth_setWidth_of_le _ (by decide)
    exact ⟨fun hv => exec_byteOut hp hi (ioWrite_selected none hb hv),
      fun hv => exec_byteOut hp hi (ioWrite_unselected none hv _)⟩
  case readData =>
    refine ⟨fun hv b s2 hr => ?_, fun hv => exec_byteIn hp hi (ioRead_unselected none (.inr ⟨rfl, hv⟩))⟩
    have hb : (b.setWidth 32).setWidth 8 = b := BitVec.setWidth_setWidth_of_le _ (by decide)
    exact (exec_byteIn hp hi (ioRead_selected none hv hr)).trans (by rw [hb]; rfl)
  case wide =>
    have hport : (p.setWidth 16 : Word16).toNat = p.toNat := 
      BitVec.toNat_setWidth_of_le (by decide)
    rw [← hport] at hlo hhi
    obtain ⟨hread, hwrite⟩ := ioAccess_refuse hlo hhi s1 (osTrunc sz s.regs.eax) none
    exact ⟨runInstr_refuse (run_bind_error _ ((run_bind_ok _ hp).trans hread)),
      runInstr_refuse ((run_bind_ok _ hp).trans hwrite)⟩
  case registers =>
    have hccr1 : cfgSlot (0xC1#8 : Byte).toNat = .ccr 1 := by decide
    have hccr2 : cfgSlot (0xC2#8 : Byte).toNat = .ccr 2 := by decide
    have hccr3 : cfgSlot (0xC3#8 : Byte).toNat = .ccr 3 := by decide
    have harr3 : cfgSlot (0xCF#8 : Byte).toNat = .arr 3 2 := by decide
    refine ⟨s.cfg.onChip_iff v, cfgRead_ccr hccr3 s, ?_, fun hlock hsmm => ?_, fun hlock => ?_⟩
    · rw [s.cfgWrite_ccr hccr2, s.ccrWritten_free rfl (by decide)]
      rfl
    · rw [s.cfgWrite_ccr hccr1, State.ccrWritten_locked (by decide) hlock hsmm]
      rfl
    · rw [State.cfgWrite_arr3 harr3 hlock, setArrByte_last]
      exact ⟨by simp, rfl⟩

end Sys2Proof.Machine
end

section
/-! SUPPORT, and O31. One item of each string instruction. -/
namespace Sys2Proof.Machine
open Sys2Proof

/-! What a store at a checked place needs is the same after an I/O cycle. -/

section
variable (s : State) (pas : List PA)
@[simp] theorem State.portRead_writeOk (port : Word16) (n : Nat) (index : Option Word) :
    (s.portRead port n index).writeOk pas = s.writeOk pas := rfl
@[simp] theorem State.ioNoted_writeOk (write : Bool) (port : Word16) (n : Nat) (v : Word) (index : Option Word) :
    (s.ioNoted write port n v index).writeOk pas = s.writeOk pas := rfl
@[simp] theorem State.indexUsed_writeOk : s.indexUsed.writeOk pas = s.writeOk pas := rfl
end
/-- Reading a configuration register draws a free byte at most (D6). -/
theorem cfgRead_eq {i b : Byte} {s t : State} (h : cfgRead i s = .ok b t) : ∃ k, t = { s with freeCtr := k } := by
  unfold cfgRead at h
  rw [run_bind_ok _ (run_get s)] at h
  cases hslot : cfgSlot i.toNat <;> rw [hslot] at h <;> cases h <;> exact ⟨_, rfl⟩
theorem cfgRead_writeOk {i b : Byte} {s t : State} (h : cfgRead i s = .ok b t) (pas : List PA) :
    t.writeOk pas = s.writeOk pas := by
  obtain ⟨k, rfl⟩ := cfgRead_eq h
  rfl

/-! The items (R383, R384, R387, R388). -/

@[simp] theorem run_portDx (s : State) : portDx s = .ok (s.regs.edx.setWidth 16) s := rfl
@[simp] theorem run_stepIndex (az : ASize) (r : Reg) (n : Nat) (s : State) :
    stepIndex az r n s = .ok () (s.indexStepped az r n) := rfl
/-- What a byte item stores of the value read. -/
theorem bytesOf_one (v : Word) : bytesOf 1 v.toNat = [v.setWidth 8] := by
  rw [← BitVec.ofNat_toNat]
  rfl

section
variable {az : ASize} {n : Nat} {s s0 s1 t : State} {pas : List PA}

theorem stosItem_ok (ha : segAccess .es (asTrunc az s.regs.edi) n .write n s = .ok pas t) (hw : t.writeOk pas = true) :
    stosItem az n s = .ok () ((t.storeBytes pas (bytesOf n s.regs.eax.toNat)).indexStepped az .edi n) :=
  run_bind_ok _ (memWrite_ok ha hw _)
/-- Reading the source leaves DI where the destination was looked for (R386). -/
theorem movsItem_ok {v : Nat} (hr : memRead (s.dataSeg .ds) (asTrunc az s.regs.esi) n n s = .ok v s1)
    (ha : segAccess .es (asTrunc az s.regs.edi) n .write n s1 = .ok pas t) (hw : t.writeOk pas = true) :
    movsItem az n s =
      .ok () (((t.storeBytes pas (bytesOf n v)).indexStepped az .esi n).indexStepped az .edi n) := by
  have hregs : s1.regs = s.regs := (memRead_accessOnly _ _ _ _ hr).regs
  rw [← hregs] at ha
  exact (run_bind_ok _ (before_ok _ hr)).trans (run_bind_ok _ (memWrite_ok ha hw _))

/-- INS and OUTS begin with the check of the port, so that what it raises they raise (R530, log 68). -/
theorem ioItem_denied {x : Stop} (h : ioPermit (s.regs.edx.setWidth 16) n s = .error x t) :
    insItem az n s = .error x t ∧ outsItem az n s = .error x t :=
  ⟨(run_bind_ok _ (run_portDx s)).trans (run_bind_error _ h), (run_bind_ok _ (run_portDx s)).trans (run_bind_error _ h)⟩

variable (hp : ioPermit (s.regs.edx.setWidth 16) n s = .ok () s0)
include hp

section
variable (ha : segAccess .es (asTrunc az s0.regs.edi) n .write n s0 = .ok pas s1)
include ha
theorem insItem_ok {v : Word} (hr : ioRead (s.regs.edx.setWidth 16) n (some s1.regs.edi) s1 = .ok v t)
    (hw : t.writeOk pas = true) :
    insItem az n s = .ok () ((t.storeBytes pas (bytesOf n v.toNat)).indexStepped az .edi n) :=
  (run_bind_ok _ hp).trans <| (run_bind_ok _ ha).trans <| (run_bind_ok _ hr).trans (run_bind_ok _ (physWrite_ok hw _))
theorem insItem_error {x : Stop} (hr : ioRead (s.regs.edx.setWidth 16) n (some s1.regs.edi) s1 = .error x t) :
    insItem az n s = .error x t :=
  (run_bind_ok _ hp).trans <| (run_bind_ok _ ha).trans <| (run_bind_ok _ (run_getReg .edi s1)).trans (run_bind_error _ hr)
end

section
variable {v : Nat} (hr : memRead (s0.dataSeg .ds) (asTrunc az s0.regs.esi) n n s0 = .ok v s1)
include hr
theorem outsItem_ok (hw : ioWrite (s.regs.edx.setWidth 16) n (BitVec.ofNat 32 v) (some s1.regs.esi) s1 = .ok () t) :
    outsItem az n s = .ok () (t.indexStepped az .esi n) :=
  (run_bind_ok _ hp).trans <| (run_bind_ok _ hr).trans (run_bind_ok _ hw)
theorem outsItem_error {x : Stop}
    (hw : ioWrite (s.regs.edx.setWidth 16) n (BitVec.ofNat 32 v) (some s1.regs.esi) s1 = .error x t) :
    outsItem az n s = .error x t :=
  (run_bind_ok _ hp).trans <| (run_bind_ok _ hr).trans <| (run_bind_ok _ (run_getReg .esi s1)).trans (run_bind_error _ hw)
end
end

/-! Without REP an instruction is one item (R386, R390). -/

theorem runInstr_congr {a b : Act Unit} {s : State} (h : a s = b s) : runInstr a s = runInstr b s := by
  unfold runInstr
  rw [show a.run s = b.run s from h]
/-- The byte form of an instruction and its word and doubleword form, by the size of the item. -/
theorem exec_of_sizes {b : Instr} {v : OSize → Instr} {s : State} {o : Nat → Host.Outcome State Fault Refusal}
    {i : Instr} {n : Nat} (hi : (i, n) ∈ [(b, 1), (v .w16, 2), (v .w32, 4)]) (hb : exec b s = o 1)
    (hv : ∀ sz, exec (v sz) s = o (osBytes sz)) : exec i s = o n := by
  simp only [List.mem_cons, Prod.mk.injEq, List.not_mem_nil, or_false] at hi
  rcases hi with ⟨rfl, rfl⟩ | ⟨rfl, rfl⟩ | ⟨rfl, rfl⟩
  · exact hb
  · exact hv .w16
  · exact hv .w32
section
variable {az : ASize} {s : State} (hrep : s.cur.pfx.rep = false)
include hrep

theorem repeated_once (iter : Act Unit) : repeated az iter s = iter s := congrFun (if_pos (by rw [hrep]; rfl)) s
theorem repeatedIo_once (write : Bool) (iter : Act Unit) : repeatedIo write az iter s = iter s :=
  (congrFun (if_neg (by rw [hrep]; exact Bool.false_ne_true)) s).trans (repeated_once hrep iter)

section
variable {i : Instr} {n : Nat}
theorem exec_stos (hi : (i, n) ∈ [(Instr.stosb az, 1), (.stosv .w16 az, 2), (.stosv .w32 az, 4)]) :
    exec i s = runInstr (stosItem az n) s :=
  have hrun (n : Nat) := runInstr_congr (repeated_once (az := az) hrep (stosItem az n))
  exec_of_sizes (v := (.stosv · az)) (o := fun n => runInstr (stosItem az n) s) hi (hrun 1) fun _ => hrun _
theorem exec_movs (hi : (i, n) ∈ [(Instr.movsb az, 1), (.movsv .w16 az, 2), (.movsv .w32 az, 4)]) :
    exec i s = runInstr (movsItem az n) s :=
  have hrun (n : Nat) := runInstr_congr (repeated_once (az := az) hrep (movsItem az n))
  exec_of_sizes (v := (.movsv · az)) (o := fun n => runInstr (movsItem az n) s) hi (hrun 1) fun _ => hrun _
theorem exec_ins (hi : (i, n) ∈ [(Instr.insb az, 1), (.insv .w16 az, 2), (.insv .w32 az, 4)]) :
    exec i s = runInstr (insItem az n) s :=
  have hrun (n : Nat) := runInstr_congr (repeatedIo_once (az := az) hrep false (insItem az n))
  exec_of_sizes (v := (.insv · az)) (o := fun n => runInstr (insItem az n) s) hi (hrun 1) fun _ => hrun _
theorem exec_outs (hi : (i, n) ∈ [(Instr.outsb az, 1), (.outsv .w16 az, 2), (.outsv .w32 az, 4)]) :
    exec i s = runInstr (outsItem az n) s :=
  have hrun (n : Nat) := runInstr_congr (repeatedIo_once (az := az) hrep true (outsItem az n))
  exec_of_sizes (v := (.outsv · az)) (o := fun n => runInstr (outsItem az n) s) hi (hrun 1) fun _ => hrun _
end

/-! A byte of INS and OUTS, whatever the port answers (R101, R143). -/

section
variable {s0 s1 t : State} (hp : ioPermit (s.regs.edx.setWidth 16) 1 s = .ok () s0)
include hp
theorem exec_insb {pas : List PA} (ha : segAccess .es (asTrunc az s0.regs.edi) 1 .write 1 s0 = .ok pas s1) {v : Word}
    {b : Byte} (hr : ioRead (s.regs.edx.setWidth 16) 1 (some s1.regs.edi) s1 = .ok v t) (hb : v.setWidth 8 = b)
    (hw : t.writeOk pas = true) : exec (.insb az) s = .next ((t.storeBytes pas [b]).indexStepped az .edi 1) := by
  rw [exec_ins hrep List.mem_cons_self, runInstr_ok (insItem_ok hp ha hr hw), bytesOf_one, hb]
theorem exec_outsb {v : Nat} (hr : memRead (s0.dataSeg .ds) (asTrunc az s0.regs.esi) 1 1 s0 = .ok v s1)
    (hw : ioWrite (s.regs.edx.setWidth 16) 1 (BitVec.ofNat 32 v) (some s1.regs.esi) s1 = .ok () t) :
    exec (.outsb az) s = .next (t.indexStepped az .esi 1) := by
  rw [exec_outs hrep List.mem_cons_self, runInstr_ok (outsItem_ok hp hr hw)]
end
end

/-- Settles O31: items at external ports and in memory, the check of the port, then bytes and wider items at the configuration
ports. -/
theorem stringItems : Obligations.StringItems := by
  intro az s s1 hrep si di dx
  refine ⟨fun i n pas hi ha hw => ?stos, fun i n v s2 pas hi hr ha hw => ?movs, fun i n pas s0 hi hp hport ha hw => ?ins,
    fun i n v s0 hi hp hport hr => ?outs, fun i n x s0 hi hp => ?denied, fun pas s0 hp ha hw => ?insConfig,
    fun v s0 hp hr => ?outsConfig, fun sz s0 hlo hhi hp => ?wide⟩
  case stos => exact (exec_stos hrep hi).trans (runInstr_ok (stosItem_ok ha hw))
  case movs => exact (exec_movs hrep hi).trans (runInstr_ok (movsItem_ok hr ha hw))
  case ins => exact (exec_ins hrep hi).trans (runInstr_ok (insItem_ok hp ha (ioRead_external _ hport) hw))
  case outs => exact (exec_outs hrep hi).trans (runInstr_ok (outsItem_ok hp hr (ioWrite_external _ hport _)))
  case denied =>
    obtain ⟨hins, houts⟩ := ioItem_denied (az := az) hp
    rcases (List.mem_append (s := [(Instr.insb az, 1), (.insv .w16 az, 2), (.insv .w32 az, 4)])).1 hi with hi | hi
    · exact (exec_ins hrep hi).trans (runInstr_exc hins)
    · exact (exec_outs hrep hi).trans (runInstr_exc houts)
  case insConfig =>
    refine ⟨fun hport => exec_insb hrep hp ha (ioRead_unselected _ hport) rfl hw, fun hport hv b s2 hr => ?_⟩
    have hread := ioRead_selected (some s1.regs.edi) hv hr
    rw [← hport] at hread
    exact exec_insb hrep hp ha hread (BitVec.setWidth_setWidth_of_le _ (by decide)) ((cfgRead_writeOk hr pas).trans hw)
  case outsConfig =>
    have hb : (BitVec.ofNat 32 v).setWidth 8 = BitVec.ofNat 8 v := BitVec.setWidth_ofNat_of_le (by decide) v
    have run {t : State} (port : Word16) (hport : dx = port)
        (hw : ioWrite port 1 (BitVec.ofNat 32 v) (some s1.regs.esi) s1 = .ok () t) :
        exec (.outsb az) s = .next (t.indexStepped az .esi 1) := exec_outsb hrep hp hr (by rw [← hw, ← hport])
    intro done b x index
    refine ⟨fun hport hon => ?_, fun hport hoff => ?_, fun hport hv => ?_, fun hport hv => ?_⟩ <;> rw [hport]
    · exact run _ hport (ioWrite_index_onChip _ hb hon)
    · exact run _ hport (ioWrite_index_offChip _ hb hoff)
    · exact run _ hport (ioWrite_selected _ hb hv)
    · exact run _ hport (ioWrite_unselected _ hv _)
  case wide =>
    have refused (v : Word) (index : Option Word) := ioAccess_refuse hlo hhi s1 v index
    have hrun (write : Bool) (item : Act Unit) := runInstr_congr (repeatedIo_once (az := az) hrep write item)
    exact ⟨fun pas ha => (hrun _ _).trans (runInstr_refuse (insItem_error hp ha (refused 0#32 _).1)),
      fun v hr => (hrun _ _).trans (runInstr_refuse (outsItem_error hp hr (refused _ _).2))⟩

end Sys2Proof.Machine
end

section
/-! SUPPORT. What a part of an instruction keeps from its start, and with what it may stop: the rules to compose parts, then one
lemma per operation that the delivery of an event uses, in the order of the model. Two such contracts are used: both memories and
the cache lines stay well formed (O54), and without alignment checking the faults of a delivery are of six vectors (O57). -/
namespace Sys2Proof.Machine
open Sys2Proof

/-- The two memories, the cache lines and CR0. -/
def State.memView (s : State) : Memory × Memory × List (Nat × CacheLine) × Word := (s.mem, s.smm, s.cache.lines, s.cr0)

/-- The exceptions that a delivery raises without alignment checking: double fault, TSS, not present, stack, protection, page
fault. -/
def deliveryFault (e : Exc) : Bool := [8#8, 10#8, 11#8, 12#8, 13#8, 14#8].contains e.vec

/-- A contract for parts of instructions: `inv` holds of the states, and an action stops only with what `stop` allows. -/
structure Contract where
  inv : State → Prop
  stop : Stop → Prop
  frame {s t : State} : t.memView = s.memView → inv s → inv t
  store {s : State} (p : PA) (v : Byte) : inv s → inv (s.storeByte p v)
  bus {s : State} : inv s → inv s.busNext
  refuse (r : Refusal) : stop (.refuse r)
  raise {e : Exc} : deliveryFault e = true → stop (.exc e)
  align {s : State} {la : Word} {al : Nat} : inv s → s.misaligned la al = true → stop (.exc .ac)

/-- Action `a` keeps the invariant of the contract, and stops only as it allows. -/
def Act.Within {α : Type} (R : Contract) (a : Act α) : Prop :=
  ∀ s, R.inv s → match a s with
    | .ok _ t => R.inv t
    | .error e t => R.inv t ∧ R.stop e

section
variable {R : Contract} {α β : Type}

theorem Act.Within.ok {a : Act α} (h : a.Within R) {s t : State} {x : α} (hs : R.inv s) (e : a s = .ok x t) : R.inv t := by
  have := h s hs; rw [e] at this; exact this
theorem Act.Within.error {a : Act α} (h : a.Within R) {s t : State} {x : Stop} (hs : R.inv s) (e : a s = .error x t) :
    R.inv t ∧ R.stop x := by
  have := h s hs; rw [e] at this; exact this
@[simp] theorem Act.Within.pure (x : α) : (Pure.pure x : Act α).Within R := fun _ hs => hs
theorem Act.Within.raise {e : Exc} (he : R.stop (.exc e)) : (Machine.raise e : Act α).Within R := fun _ hs => ⟨hs, he⟩
@[simp] theorem Act.Within.refuse (r : Refusal) : (Machine.refuse r : Act α).Within R := fun _ hs => ⟨hs, R.refuse r⟩
theorem Act.Within.upd {f : State → State} (h : ∀ s, R.inv s → R.inv (f s)) : (Machine.upd f).Within R := h
/-- A change of the state that leaves memories, cache lines and CR0 as they are. -/
theorem Act.Within.view {f : State → State} (h : ∀ s, (f s).memView = s.memView) : (Machine.upd f).Within R :=
  fun s => R.frame (h s)
/-- An action that answers, and leaves memories, cache lines and CR0 as they are. -/
theorem Act.Within.quiet {a : Act α} (h : ∀ s, ∃ x t, a s = .ok x t ∧ t.memView = s.memView) : a.Within R := by
  intro s hs
  obtain ⟨x, t, e, ht⟩ := h s
  rw [e]
  exact R.frame ht hs
theorem Act.Within.bind {a : Act α} {f : α → Act β} (ha : a.Within R) (hf : ∀ x, (f x).Within R) : (a >>= f).Within R := by
  intro s hs
  rw [run_bind]
  cases h : a s with
  | ok x t => exact hf x t (ha.ok hs h)
  | error e t => exact ha.error hs h
/-- After the state is read, of which the invariant is known. -/
theorem Act.Within.get {f : State → Act β} (hf : ∀ s, (f s).Within R) : ((MonadState.get : Act State) >>= f).Within R :=
  fun s hs => hf s s hs
theorem Act.Within.ite {c : Prop} [Decidable c] {a b : Act α} (ha : a.Within R) (hb : b.Within R) :
    (if c then a else b).Within R := by
  split
  · exact ha
  · exact hb
/-- A check that raises an exception where it fails. -/
theorem Act.Within.check {c : Prop} [Decidable c] {e : Exc} {f : α → Act β} {b : Act β} (he : R.stop (.exc e))
    (hb : b.Within R) : (if c then Machine.raise e >>= f else b).Within R := by
  split
  · exact fun _ hs => ⟨hs, he⟩
  · exact hb
/-- A check that refuses where it fails. -/
theorem Act.Within.checkRefuse {c : Prop} [Decidable c] {r : Refusal} {f : α → Act β} {b : Act β} (hb : b.Within R) :
    (if c then Machine.refuse r >>= f else b).Within R := by
  split
  · exact fun _ hs => ⟨hs, R.refuse r⟩
  · exact hb
end

section
variable {R : Contract}
@[simp] theorem Contract.ts (c : Word16) : R.stop (.exc (.ts c)) := R.raise rfl
@[simp] theorem Contract.np (c : Word16) : R.stop (.exc (.np c)) := R.raise rfl
@[simp] theorem Contract.ss (c : Word16) : R.stop (.exc (.ss c)) := R.raise rfl
@[simp] theorem Contract.gp (c : Word16) : R.stop (.exc (.gp c)) := R.raise rfl
@[simp] theorem Contract.pf (c : Word16) : R.stop (.exc (.pf c)) := R.raise rfl

/-! Free values, registers, and what leaves the view as it is. -/

@[simp] theorem drawWord16_within : drawWord16.Within R := .quiet fun _ => ⟨_, _, rfl, rfl⟩
@[simp] theorem drawChoice_within (n : Nat) : (drawChoice n).Within R := .quiet fun _ => ⟨_, _, rfl, rfl⟩
@[simp] theorem setSeg_within (r : SegReg) (g : Seg) : (setSeg r g).Within R := .quiet fun _ => ⟨_, _, rfl, rfl⟩
@[simp] theorem noteHits_within (h : State → BitVec 4) : (noteHits h).Within R := .quiet fun _ => ⟨_, _, rfl, rfl⟩
@[simp] theorem setStackPtr_within (x : Word) : (setStackPtr x).Within R := .quiet fun _ => ⟨_, _, rfl, rfl⟩
@[simp] theorem dropStack_within (sz : OSize) (n m : Nat) : (dropStack sz n m).Within R := .quiet fun _ => ⟨_, _, rfl, rfl⟩
@[simp] theorem transferred_within : transferred.Within R := .quiet fun _ => ⟨_, _, rfl, rfl⟩
@[simp] theorem enterHandler_within (sel : Word16) (d : BitVec 64) (off : Word) (lvl : BitVec 2) (gate : Bool) :
    (enterHandler sel d off lvl gate).Within R := .quiet fun _ => ⟨_, _, rfl, rfl⟩

/-! Physical memory and what other bus agents do. -/

@[simp] theorem busPoint_within (free : Bool) : (busPoint free).Within R := .ite (.upd fun _ => R.bus) (.pure _)
@[simp] theorem physReadByte_within (pa : Word) : (physReadByte pa).Within R := by
  intro s hs
  by_cases hbad : s.cfg.anyRegionBad = true
  · simpa [physReadByte, hbad] using ⟨hs, R.refuse _⟩
  · simpa [physReadByte, hbad] using hs
@[simp] theorem physWriteByte_within (p : PA) (v : Byte) : (physWriteByte p v).Within R := by
  intro s hs
  by_cases hbad : s.cfg.anyRegionBad = true
  · simpa [physWriteByte, hbad] using ⟨hs, R.refuse _⟩
  by_cases hprot : s.writeProtected p = true
  · simpa [physWriteByte, hbad, hprot] using ⟨hs, R.refuse _⟩
  · simpa [physWriteByte, hbad, hprot] using R.store p v hs
@[simp] theorem readBytes_within (apart : Bool) (pas : List PA) : (readBytes apart pas).Within R := by
  induction pas with
  | nil => exact .pure _
  | cons p rest ih =>
    exact .bind (busPoint_within _) fun _ => .bind (physReadByte_within _) fun _ => .bind ih fun _ => .pure _
@[simp] theorem writeBytes_within (apart : Bool) (pas : List PA) (bs : List Byte) : (writeBytes apart pas bs).Within R := by
  induction pas generalizing bs with
  | nil => exact .pure _
  | cons p rest ih =>
    cases bs with
    | nil => exact .pure _
    | cons b bs => exact .bind (busPoint_within _) fun _ => .bind (physWriteByte_within _ _) fun _ => ih bs
@[simp] theorem physRead_within (pas : List PA) : (physRead pas).Within R :=
  .bind (busPoint_within _) fun _ => readBytes_within _ _
@[simp] theorem physWrite_within (pas : List PA) (bs : List Byte) : (physWrite pas bs).Within R :=
  .bind (busPoint_within _) fun _ => writeBytes_within _ _ _
@[simp] theorem physReadN_within (pa : Word) (n : Nat) : (physReadN pa n).Within R :=
  .bind (physRead_within _) fun _ => .pure _
@[simp] theorem physWriteN_within (pa : Word) (n v : Nat) : (physWriteN pa n v).Within R := physWrite_within _ _

/-! Paging. -/

@[simp] theorem pageFault_within {α : Type} (la : Word) (kind : Acc) (user present : Bool) :
    (pageFault la kind user present : Act α).Within R :=
  .bind (.quiet fun _ => ⟨_, _, rfl, rfl⟩) fun _ => .get fun _ => .raise (by simp)
@[simp] theorem pageWalk_within (la : Word) (kind : Acc) (user : Bool) : (pageWalk la kind user).Within R :=
  .get fun _ => .bind (physReadN_within _ _) fun _ => .ite (pageFault_within _ _ _ _) <|
    .bind (physReadN_within _ _) fun _ => .ite (pageFault_within _ _ _ _) <| .ite (pageFault_within _ _ _ _) <| .pure _
@[simp] theorem translate_within (la : Word) (kind : Acc) (user : Bool) : (translate la kind user).Within R := by
  refine .get fun s => .ite (.pure _) ?_
  split
  · exact pageWalk_within _ _ _
  · refine .bind (drawChoice_within _) fun k => ?_
    split
    · exact .pure _
    · exact pageWalk_within _ _ _
@[simp] theorem markEntry_within (a : Word) (wt : Bool) (bits : Word) : (markEntry a wt bits).Within R :=
  .bind (physRead_within _) fun _ => .ite (physWrite_within _ _) (.pure _)
@[simp] theorem commitXlat_within (la : Word) (kind : Acc) (x : Xlat) : (commitXlat la kind x).Within R := by
  unfold commitXlat
  split
  · exact .pure _
  · refine .bind (markEntry_within _ _ _) fun _ => .bind (markEntry_within _ _ _) fun _ => .upd fun s => R.frame ?_
    dsimp only
    split <;> rfl
@[simp] theorem linXlat_within (la : Word) (n : Nat) (kind : Acc) (user : Bool) : (linXlat la n kind user).Within R :=
  .bind (translate_within _ _ _) fun _ => .ite (.pure _) <| .bind (translate_within _ _ _) fun _ => .pure _
/-- The check of alignment, where the invariant is known. -/
theorem alignCheck_within {α β : Type} {la : Word} {al : Nat} {f : α → Act β} {b : Act β} (hb : b.Within R) :
    ((get : Act State) >>= fun s => if s.misaligned la al then Machine.raise .ac >>= f else b).Within R := by
  intro s hs
  by_cases h : s.misaligned la al = true
  · simpa [run_bind, h] using ⟨hs, R.align hs h⟩
  · simpa [run_bind, h] using hb s hs
@[simp] theorem linAccess_within (la : Word) (n : Nat) (kind : Acc) (user : Bool) (al : Nat) :
    (linAccess la n kind user al).Within R := by
  refine .bind (linXlat_within _ _ _ _) fun ⟨x1, x2⟩ => alignCheck_within <| .bind (commitXlat_within _ _ _) fun _ => ?_
  cases x2 with
  | none => exact .pure _
  | some x => exact .bind (commitXlat_within _ _ _) fun _ => .pure _
@[simp] theorem linRead_within (la : Word) (n : Nat) : (linRead la n).Within R :=
  .bind (linAccess_within _ _ _ _ _) fun _ => .bind (physRead_within _) fun _ => .pure _
@[simp] theorem linWrite_within (la : Word) (n v : Nat) : (linWrite la n v).Within R :=
  .bind (linAccess_within _ _ _ _ _) fun _ => physWrite_within _ _

/-! Segment accesses and the order of faults. -/

@[simp] theorem segCheck_within (r : SegReg) (off : Word) (n : Nat) (kind : Acc) : (segCheck r off n kind).Within R := by
  have hbad : R.stop (.exc (if r = .ss then .ss 0#16 else .gp 0#16)) := by split <;> simp
  exact .get fun _ => .check (by simp) <| .check hbad <| .check hbad <| .check hbad <| .pure _
@[simp] theorem segAccess_within (r : SegReg) (off : Word) (n : Nat) (kind : Acc) (al : Nat) :
    (segAccess r off n kind al).Within R :=
  .bind (segCheck_within _ _ _ _) fun _ => .get fun _ => .bind (linAccess_within _ _ _ _ _) fun _ =>
    .bind (noteHits_within _) fun _ => .get fun _ => .pure _
@[simp] theorem memRead_within (r : SegReg) (off : Word) (n al : Nat) : (memRead r off n al).Within R :=
  .bind (segAccess_within _ _ _ _ _) fun _ => .bind (physRead_within _) fun _ => .pure _
@[simp] theorem memWrite_within (r : SegReg) (off : Word) (n al v : Nat) : (memWrite r off n al v).Within R :=
  .bind (segAccess_within _ _ _ _ _) fun _ => physWrite_within _ _
theorem Ref.segFault_stop {r : Ref} {s : State} (hs : R.inv s) {x : Exc} (h : r.segFault s = some x) : R.stop (.exc x) := by
  unfold Ref.segFault at h
  split at h
  · rename_i e t he
    cases h
    exact ((segCheck_within _ _ _ _).error hs he).2
  · cases h
theorem Ref.pageFault_stop {r : Ref} {s t : State} (hs : R.inv s) {x : Exc} (h : r.pageFault s = some (x, t)) :
    R.inv t ∧ R.stop (.exc x) := by
  unfold Ref.pageFault at h
  split at h
  · rename_i e u hu
    cases h
    exact (linXlat_within _ _ _ _).error hs hu
  · cases h
theorem before_within {α : Type} (later : List Ref) {a : Act α} (h : a.Within R) : (before later a).Within R := by
  intro s hs
  unfold before
  cases ha : a s with
  | ok x t => exact h.ok hs ha
  | error e t =>
    have ht := h.error hs ha
    cases e with
    | refuse r => exact ht
    | exc e =>
      dsimp only
      by_cases hpf : (e.vec == 14#8 || e.vec == 17#8) = true
      · rw [if_pos hpf]
        cases hf : later.findSome? fun r => r.segFault s with
        | some x =>
          obtain ⟨r, -, hr⟩ := List.exists_of_findSome?_eq_some hf
          exact ⟨R.frame (s := t) rfl ht.1, Ref.segFault_stop hs hr⟩
        | none =>
          by_cases hac : (e.vec == 17#8) = true
          · dsimp only
            rw [if_pos hac]
            cases hf : later.findSome? fun r => r.pageFault t with
            | some p =>
              obtain ⟨r, -, hr⟩ := List.exists_of_findSome?_eq_some hf
              exact Ref.pageFault_stop ht.1 hr
            | none => exact ht
          · dsimp only
            rw [if_neg hac]
            exact ht
      · rw [if_neg hpf]
        exact ht

/-! The stack. -/

@[simp] theorem pushPlaces_within (sz : OSize) (k : Nat) (vals : List Word) : (pushPlaces sz k vals).Within R := by
  induction vals generalizing k with
  | nil => exact .pure _
  | cons v rest ih =>
    exact .get fun _ => .bind (before_within _ (segAccess_within _ _ _ _ _)) fun _ => .bind (ih _) fun _ => .pure _
@[simp] theorem writeItems_within (sz : OSize) (places : List (List PA)) (vals : List Word) :
    (writeItems sz places vals).Within R := by
  induction places generalizing vals with
  | nil => exact .pure _
  | cons pas ps ih =>
    cases vals with
    | nil => exact .pure _
    | cons v vs => exact .bind (physWrite_within _ _) fun _ => ih vs
@[simp] theorem pushCommit_within (sz : OSize) (places : List (List PA)) (vals : List Word) :
    (pushCommit sz places vals).Within R :=
  .bind (writeItems_within _ _ _) fun _ => .get fun _ => setStackPtr_within _
@[simp] theorem pushMany_within (sz : OSize) (vals : List Word) : (pushMany sz vals).Within R :=
  .bind (pushPlaces_within _ _ _) fun _ => pushCommit_within _ _ _
@[simp] theorem push_within (sz : OSize) (v : Word) : (push sz v).Within R := pushMany_within _ _
@[simp] theorem peekStack_within (sz : OSize) (k : Nat) : (peekStack sz k).Within R :=
  .get fun _ => .bind (memRead_within _ _ _ _) fun _ => .pure _
@[simp] theorem peekItem_within (sz : OSize) (n k : Nat) : (peekItem sz n k).Within R :=
  .get fun _ => before_within _ (peekStack_within _ _)
@[simp] theorem pop_within (sz : OSize) : (pop sz).Within R :=
  .bind (peekStack_within _ _) fun _ => .bind (dropStack_within _ _ _) fun _ => .pure _
@[simp] theorem selItem_within (sz : OSize) (sel : Word16) : (selItem sz sel).Within R := by
  cases sz with
  | w16 => exact .pure _
  | w32 => exact .bind drawWord16_within fun _ => .pure _

/-! Descriptors. -/

theorem readDesc_within {bad : Exc} (hbad : R.stop (.exc bad)) (sel : Word16) : (readDesc sel bad).Within R :=
  .get fun _ => .ite (.check hbad <| .bind (linRead_within _ _) fun _ => .pure _)
    (.check hbad <| .bind (linRead_within _ _) fun _ => .pure _)
@[simp] theorem markAccessed_within (a : Word) (d : BitVec 64) : (markAccessed a d).Within R :=
  .ite (linWrite_within _ _ _) (.pure _)
theorem checkStackSel_within {nullX badX npX : Exc} (hnull : R.stop (.exc nullX)) (hbad : R.stop (.exc badX))
    (hnp : R.stop (.exc npX)) (sel : Word16) (lvl : BitVec 2) : (checkStackSel sel lvl nullX badX npX).Within R :=
  .check hnull <| .bind (readDesc_within hbad _) fun ⟨_, _⟩ => .check hbad <| .check hnp <| .pure _

/-! Taking an exception or interrupt (R500 to R503). -/

@[simp] theorem realDeliver_within (v : Byte) (e : Word) : (realDeliver v e).Within R :=
  .get fun _ => .check (R.raise rfl) <| .bind (linRead_within _ _) fun _ => .bind (pushMany_within _ _) fun _ =>
    .quiet fun _ => ⟨_, _, rfl, rfl⟩
@[simp] theorem tssStack_within (lvl : BitVec 2) (x : Word16) : (tssStack lvl x).Within R :=
  .get fun _ => .ite
    (.check (by simp) <| .bind (linRead_within _ _) fun _ => .bind (linRead_within _ _) fun _ => .pure _)
    (.check (by simp) <| .bind (linRead_within _ _) fun _ => .bind (linRead_within _ _) fun _ => .pure _)
@[simp] theorem innerPlaces_within (g : Seg) (sz : OSize) (sp : Word) (k : Nat) (vals : List Word) :
    (innerPlaces g sz sp k vals).Within R := by
  induction vals generalizing k with
  | nil => exact .pure _
  | cons v rest ih =>
    exact .bind (linAccess_within _ _ _ _ _) fun _ => .bind (noteHits_within _) fun _ => .bind (ih _) fun _ => .pure _
@[simp] theorem codeItems_within (sz : OSize) (c : Option Word16) : (codeItems sz c).Within R := by
  cases c with
  | none => exact .pure _
  | some c => exact .bind (selItem_within _ _) fun _ => .pure _
theorem innerEntry_within (sz : OSize) (sel : Word16) (da : Word) (d : BitVec 64) (off : Word) (x : Word16) (e : Word)
    (c : Option Word16) (fault gate : Bool) : (innerEntry sz sel da d off x e c fault gate).Within R := by
  refine .get fun s => .bind (tssStack_within _ _) fun ⟨nss, nsp⟩ =>
    .bind (checkStackSel_within (by simp) (by simp) (by simp) _ _) fun ⟨sa, sd⟩ => .check (by simp) <| .check (by simp) <|
    .bind (innerPlaces_within _ _ _ _ _) fun places => .bind (markAccessed_within _ _) fun _ =>
    .bind (markAccessed_within _ _) fun _ => ?_
  refine .ite
    (.bind (selItem_within _ _) fun _ => .bind (selItem_within _ _) fun _ => .bind (selItem_within _ _) fun _ =>
      .bind (selItem_within _ _) fun _ => .bind (.pure _) ?_)
    (.bind (.pure _) ?_)
  all_goals
    exact fun dataSels => .bind (selItem_within _ _) fun _ => .bind (selItem_within _ _) fun _ =>
      .bind (codeItems_within _ _) fun _ => .bind (writeItems_within _ _ _) fun _ =>
      .bind (.quiet fun _ => ⟨_, _, rfl, rfl⟩) fun _ => .ite
      (.bind (.quiet fun _ => ⟨_, _, rfl, rfl⟩) fun _ => enterHandler_within _ _ _ _ _) (enterHandler_within _ _ _ _ _)
theorem sameEntry_within (sz : OSize) (sel : Word16) (da : Word) (d : BitVec 64) (off : Word) (x : Word16) (e : Word)
    (c : Option Word16) (fault gate : Bool) : (sameEntry sz sel da d off x e c fault gate).Within R :=
  .get fun _ => .check (by simp) <| .check (by simp) <| .bind (pushPlaces_within _ _ _) fun _ =>
    .bind (markAccessed_within _ _) fun _ => .bind (selItem_within _ _) fun _ => .bind (codeItems_within _ _)
    fun _ => .bind (pushCommit_within _ _ _) fun _ => enterHandler_within _ _ _ _ _
theorem protDeliver_within (kind : Kind) (n : Byte) (e : Word) (c : Option Word16) (fault : Bool) :
    (protDeliver kind n e c fault).Within R :=
  .get fun _ => .check (by simp) <| .bind (linRead_within _ _) fun _ => .check (by simp) <| .check (by simp) <|
    .check (by simp) <| .checkRefuse <| .check (by simp) <| .bind (readDesc_within (by simp) _) fun ⟨_, _⟩ =>
    .check (by simp) <| .check (by simp) <| .check (by simp) <| .ite (innerEntry_within _ _ _ _ _ _ _ _ _ _)
    (sameEntry_within _ _ _ _ _ _ _ _ _ _)
/-- One attempt to deliver an event. -/
theorem deliver_within (kind : Kind) (n : Byte) (e : Word) (c : Option Word16) (fault : Bool) :
    (deliver kind n e c fault).Within R := by
  refine .get fun s => .ite (.bind (protDeliver_within _ _ _ _ _) fun _ => ?_) (.bind (realDeliver_within _ _) fun _ => ?_)
  all_goals exact .bind transferred_within fun _ => .quiet fun _ => ⟨_, _, rfl, rfl⟩
end

end Sys2Proof.Machine
end

section
/-! SUPPORT. The contract of O54: both memories stay in their canonical form, and the cache lines well formed. -/
namespace Sys2Proof.Machine
open Sys2Proof

/-- Both memories are in their canonical form, and the cache lines well formed. -/
structure State.MemOk (s : State) : Prop where
  memory : s.memoryOk = true
  lines : LinesOk s.cache.lines

theorem State.memOk_iff (s : State) : s.MemOk ↔ s.memoryOk = true ∧ s.cacheOk = true := by
  rw [State.cacheOk_iff]
  exact ⟨fun ⟨h, h'⟩ => ⟨h, h'⟩, fun ⟨h, h'⟩ => ⟨h, h'⟩⟩

/-! Lists of cache lines: some dropped, all narrowed, a new one put in. -/

theorem synonymous_comm (e f : Nat × CacheLine) : synonymous e f = synonymous f e := by
  simp only [synonymous, bne, Bool.beq_comm (a := e.1), Bool.beq_comm (a := e.1 % 512), Bool.beq_comm (a := e.2.tag),
    Bool.beq_comm (a := e.2.smi), Bool.and_comm (mesiValid e.2.mesi0), Bool.and_comm (mesiValid e.2.mesi1)]
theorem LinesOk.sublist {ls ls' : List (Nat × CacheLine)} (h : LinesOk ls) (hsub : ls'.Sublist ls) : LinesOk ls' :=
  ⟨h.nodup.sublist (hsub.map _), fun e he => h.length e (hsub.subset he),
    fun e he f hf => h.noSynonym e (hsub.subset he) f (hsub.subset hf)⟩
theorem LinesOk.map {ls : List (Nat × CacheLine)} (h : LinesOk ls) {f : Nat × CacheLine → Nat × CacheLine}
    (hkey : ∀ e, (f e).1 = e.1) (hn : ∀ e, (f e).2.Narrows e.2) (hdata : ∀ e, (f e).2.data = e.2.data) :
    LinesOk (ls.map f) := by
  refine ⟨?_, fun e he => ?_, fun e he g hg => ?_⟩
  · have hkeys : Prod.fst ∘ f = Prod.fst := funext hkey
    rw [List.map_map, hkeys]
    exact h.nodup
  · obtain ⟨e', he', rfl⟩ := List.mem_map.1 he
    rw [hdata]
    exact h.length e' he'
  · obtain ⟨e', he', rfl⟩ := List.mem_map.1 he
    obtain ⟨g', hg', rfl⟩ := List.mem_map.1 hg
    refine Bool.eq_false_iff.2 fun hs => Bool.eq_false_iff.1 (h.noSynonym e' he' g' hg') ?_
    have hs' : synonymous (g'.1, (f g').2) (e'.1, (f e').2) = true := by rw [← hkey e', ← hkey g']; exact hs
    exact synonymous_of_narrows (hn g') (hn e') hs'
theorem LinesOk.putNew {ls : List (Nat × CacheLine)} (h : LinesOk ls) {k : Nat} {l : CacheLine} (hlen : l.data.length = 8)
    (hsyn : ls.any (fun e => synonymous e (k, l)) = false) : LinesOk (Machine.putKey ls k l) := by
  rw [List.any_eq_false] at hsyn
  have hself : synonymous (k, l) (k, l) = false := by simp [synonymous]
  refine ⟨putKey_keys_nodup h.nodup k l, fun e he => ?_, fun e he f hf => ?_⟩
  · rcases mem_putKey.1 he with rfl | ⟨he, -⟩
    · exact hlen
    · exact h.length e he
  · rcases mem_putKey.1 he with rfl | ⟨he, -⟩ <;> rcases mem_putKey.1 hf with rfl | ⟨hf, -⟩
    · exact hself
    · exact Bool.eq_false_iff.2 (hsyn f hf)
    · exact Bool.eq_false_iff.2 (synonymous_comm (k, l) e ▸ hsyn e he)
    · exact h.noSynonym e he f hf

/-! What other bus agents do (R171). -/

/-- The code of a sector of which the other agent leaves no more than was valid. -/
theorem CacheLine.setMesi_narrows (l : CacheLine) (pa : Word) {m : BitVec 4}
    (h : mesiValid m = true → mesiValid (l.mesi pa) = true) : (l.setMesi pa m).Narrows l := by
  unfold CacheLine.mesi at h
  unfold CacheLine.setMesi
  cases hpa : pa.getLsbD 4 with
  | true =>
    rw [hpa] at h
    exact ⟨rfl, rfl, id, h⟩
  | false =>
    rw [hpa] at h
    exact ⟨rfl, rfl, h, id⟩
theorem LinesOk.inquired {ls : List (Nat × CacheLine)} (h : LinesOk ls) (pa : Word) {f : BitVec 4 → BitVec 4}
    (hf : ∀ m, mesiValid (f m) = true → mesiValid m = true) : LinesOk (ls.map (inquiredEntry pa f)) := by
  refine h.map (fun e => ?_) (fun e => ?_) fun e => ?_
  all_goals unfold inquiredEntry; split
  · rfl
  · rfl
  · exact e.2.setMesi_narrows pa (hf _)
  · exact .refl _
  · exact CacheLine.setMesi_data _ _ _
  · rfl
theorem State.busDo_memOk {s : State} (h : s.MemOk) (es : List BusEvent) : (s.busDo es).MemOk := by
  refine ⟨State.busDo_memoryOk h.memory es, ?_⟩
  have hlines := h.lines
  clear h
  induction es generalizing s with
  | nil => exact hlines
  | cons e rest ih =>
    cases e with
    | read pa => exact ih (hlines.inquired pa (f := mesiShared) fun m hm => (mesiShared_same m).1 ▸ hm)
    | write pa v =>
      have hinvalid : mesiValid 0x3#4 = false := by decide
      exact ih (hlines.inquired pa fun m hm => absurd (hinvalid.symm.trans hm) Bool.false_ne_true)
theorem State.busAll_memOk {s : State} (h : s.MemOk) (ess : List (List BusEvent)) : (s.busAll ess).MemOk := by
  induction ess generalizing s with
  | nil => exact h
  | cons es rest ih => exact ih (State.busDo_memOk h es)
theorem State.busNext_memOk {s : State} (h : s.MemOk) : s.busNext.MemOk := by
  unfold State.busNext
  split
  · exact h
  · exact State.busDo_memOk (by exact ⟨h.memory, h.lines⟩) _
theorem State.busRest_memOk {s : State} (h : s.MemOk) : s.busRest.MemOk :=
  State.busAll_memOk (by exact ⟨h.memory, h.lines⟩) _

/-- The contract: memories and cache lines stay well formed, whatever an action stops with. -/
def memContract : Contract where
  inv := State.MemOk
  stop _ := True
  frame {s t} h hs := by
    obtain ⟨hmem, hlines⟩ := hs
    simp only [State.memView, Prod.mk.injEq] at h
    obtain ⟨hm, hsm, hl, -⟩ := h
    exact ⟨by rw [State.memoryOk, hm, hsm]; exact hmem, hl ▸ hlines⟩
  store p v hs := ⟨State.storeByte_memoryOk hs.memory p v,
    (State.cacheOk_iff _).1 (State.storeByte_cacheOk v ((State.cacheOk_iff _).2 hs.lines) p)⟩
  bus := State.busNext_memOk
  refuse _ := trivial
  raise _ := trivial
  align _ _ := trivial

/-- Action `a` keeps memories and cache lines well formed. -/
abbrev Act.KeepsMem {α : Type} (a : Act α) : Prop := a.Within memContract

/-! The cache test operations and cache maintenance (R176 to R182, R432, R433). -/

theorem State.writeBackAll_memoryOk {s : State} (h : s.memoryOk = true) (ls : List (Nat × CacheLine)) :
    (s.writeBackAll ls).memoryOk = true := by
  induction ls generalizing s with
  | nil => exact h
  | cons e rest ih => exact ih (State.writeBackLine_memoryOk h _ _)
theorem State.writeBackAll_lines (s : State) (ls : List (Nat × CacheLine)) :
    (s.writeBackAll ls).cache.lines = s.cache.lines := by
  obtain ⟨_, _, h⟩ := s.writeBackAll_eq ls
  rw [h]
theorem State.cacheFlushKeep_memOk {s : State} (h : s.MemOk) : s.cacheFlushKeep.MemOk := by
  have hshared : ∀ m, mesiValid (if m == 0x8#4 then 0x9#4 else m) = true → mesiValid m = true := by decide
  refine ⟨State.writeBackAll_memoryOk h.memory _, ?_⟩
  have hlines := s.writeBackAll_lines s.cache.lines ▸ h.lines
  exact hlines.map (fun _ => rfl) (fun e => ⟨rfl, rfl, hshared _, hshared _⟩) fun _ => rfl
theorem State.cacheInvalidate_memOk {s : State} (h : s.MemOk) : s.cacheInvalidate.MemOk :=
  ⟨h.memory, h.lines.sublist List.filter_sublist⟩
theorem State.cacheFlush_memOk {s : State} (h : s.MemOk) : s.cacheFlush.MemOk :=
  State.cacheInvalidate_memOk
    ⟨State.writeBackAll_memoryOk h.memory _, (s.writeBackAll_lines s.cache.lines).symm ▸ h.lines⟩
/-- n undefined doublewords are n. -/
theorem drawWords_length {n : Nat} {s t : State} {ws : List Word} (h : drawWords n s = .ok ws t) : ws.length = n := by
  induction n generalizing s ws with
  | zero => cases h; rfl
  | succ n ih =>
    obtain ⟨w, u, -, h⟩ := run_bind_ok_iff.1 h
    obtain ⟨ws', u', hws, h⟩ := run_bind_ok_iff.1 h
    cases h
    rw [List.length_cons, ih hws]
/-- The line that a test command selects has eight doublewords. -/
theorem lineOf_length {k : Nat} {s t : State} {l : CacheLine} (hs : s.MemOk) (h : lineOf k s = .ok l t) : l.data.length = 8 := by
  rw [lineOf, run_bind_ok _ (run_get s)] at h
  cases hfind : s.cache.lines.find? (fun e => e.1 == k) with
  | some e =>
    rw [hfind] at h
    cases h
    exact hs.lines.length e (List.mem_of_find?_eq_some hfind)
  | none =>
    rw [hfind] at h
    obtain ⟨ws, u, hws, h⟩ := run_bind_ok_iff.1 h
    cases h
    exact drawWords_length hws
theorem lineOf_answers (k : Nat) (s : State) : ∃ l t, lineOf k s = .ok l t := by
  rw [lineOf, run_bind_ok _ (run_get s)]
  cases s.cache.lines.find? (fun e => e.1 == k) with
  | some e => exact ⟨_, _, rfl⟩
  | none =>
    obtain ⟨ws, h⟩ := drawWords_eq 8 s
    exact ⟨_, _, run_bind_ok _ h⟩
theorem cacheTestWrite_keepsMem : cacheTestWrite.KeepsMem := by
  intro s hs
  obtain ⟨l, t, hl⟩ := lineOf_answers s.test.lineKey s
  obtain ⟨j, rfl⟩ := lineOf_eq hl
  have ht : ({ s with freeCtr := j } : State).MemOk := ⟨hs.memory, hs.lines⟩
  cases hknown : mesiKnown s.test.mesi with
  | false =>
    rw [cacheTestWrite_unknown hknown]
    exact ⟨hs, trivial⟩
  | true =>
    cases hsyn : s.cache.synonym s.test.lineKey (s.test.written l) with
    | true =>
      rw [cacheTestWrite_synonym hknown hl hsyn]
      exact ⟨ht, trivial⟩
    | false =>
      by_cases hlock : mesiLocked s.test.mesi = true ∧ 3 ≤ s.cache.otherLocked s.test.lineKey
      · rw [cacheTestWrite_allLocked hknown hl hsyn hlock]
        exact ⟨ht, trivial⟩
      · rw [cacheTestWrite_ok hknown hl hsyn hlock]
        have hlen : (s.test.written l).data.length = 8 := by
          rw [TestRegs.written_data, List.length_set]
          exact lineOf_length hs hl
        exact ⟨hs.memory, hs.lines.putNew hlen hsyn⟩

/-! RESET (R640): part of the stores of an abandoned instruction. -/

theorem Memory.addr_lt {m : Memory} {lo : Nat} (h : m.wfFrom lo = true) {c : Host.Cell} (hc : c ∈ m) : c.1 < 0x100000000 := by
  induction m generalizing lo with
  | nil => exact absurd hc List.not_mem_nil
  | cons d rest ih =>
    simp only [Memory.wfFrom, Bool.and_eq_true, decide_eq_true_eq] at h
    obtain ⟨⟨⟨-, hlt⟩, -⟩, hrest⟩ := h
    rcases List.mem_cons.1 hc with rfl | hc
    · exact hlt
    · exact ih hrest hc
theorem Memory.partly_wf (done : Nat → Bool) {old new : Memory} (hold : old.wf = true) (hnew : new.wf = true) :
    (Memory.partly done old new).wf = true := by
  have hall : ∀ c ∈ old ++ new, c.1 < 0x100000000 := fun c hc =>
    (List.mem_append.1 hc).elim (Memory.addr_lt hold) (Memory.addr_lt hnew)
  refine List.foldlRecOn (motive := fun m : Memory => m.wf = true) _ _ hold fun m hm c hc => ?_
  split
  · exact Memory.write_wf hm (hall c hc) _
  · exact hm

end Sys2Proof.Machine
end

section
/-! SUPPORT. The actions of the instructions keep memories and cache lines well formed, in the order of the model. -/
namespace Sys2Proof.Machine
open Sys2Proof

/-! Free values, registers, segment registers and EIP. -/

@[simp] theorem drawBit_keepsMem : drawBit.KeepsMem := .quiet fun _ => ⟨_, _, rfl, rfl⟩
@[simp] theorem drawWord_keepsMem : drawWord.KeepsMem := .quiet fun _ => ⟨_, _, rfl, rfl⟩
@[simp] theorem drawByte_keepsMem : drawByte.KeepsMem := .quiet fun _ => ⟨_, _, rfl, rfl⟩
@[simp] theorem getReg_keepsMem (r : Reg) : (getReg r).KeepsMem := .quiet fun _ => ⟨_, _, rfl, rfl⟩
@[simp] theorem setReg_keepsMem (r : Reg) (v : Word) : (setReg r v).KeepsMem := .quiet fun _ => ⟨_, _, rfl, rfl⟩
@[simp] theorem setRegN_keepsMem {n : Nat} (r : Reg) (v : BitVec n) : (setRegN r v).KeepsMem :=
  .quiet fun _ => ⟨_, _, rfl, rfl⟩
@[simp] theorem getReg8_keepsMem (r : Reg8) : (getReg8 r).KeepsMem := .quiet fun _ => ⟨_, _, rfl, rfl⟩
@[simp] theorem setReg8_keepsMem (r : Reg8) (v : Byte) : (setReg8 r v).KeepsMem := .quiet fun _ => ⟨_, _, rfl, rfl⟩
@[simp] theorem getRegV_keepsMem (sz : OSize) (r : Reg) : (getRegV sz r).KeepsMem := .quiet fun _ => ⟨_, _, rfl, rfl⟩
@[simp] theorem branched_keepsMem : branched.KeepsMem := .quiet fun _ => ⟨_, _, rfl, rfl⟩
@[simp] theorem loadEip_keepsMem (sz : OSize) (t : Word) : (loadEip sz t).KeepsMem :=
  .get fun _ => .check trivial <| .view fun _ => rfl
@[simp] theorem loadSeg_keepsMem (r : SegReg) (sel : Word16) : (loadSeg r sel).KeepsMem :=
  .get fun _ => .ite (setSeg_within _ _) <|
    .ite (.bind (checkStackSel_within trivial trivial trivial _ _) fun ⟨_, _⟩ => .bind (markAccessed_within _ _) fun _ =>
      setSeg_within _ _) <|
    .ite (setSeg_within _ _) <|
    .bind (readDesc_within trivial _) fun ⟨_, _⟩ => .check trivial <| .check trivial <| .check trivial <|
      .bind (markAccessed_within _ _) fun _ => setSeg_within _ _
/-- A check alone leaves the memory as it is; where it stops, what it met stays. -/
theorem checkOnly_keepsMem {α : Type} {a : Act α} (h : a.KeepsMem) : (checkOnly a).KeepsMem := by
  intro s hs
  unfold checkOnly
  cases ha : a s with
  | ok x t => exact ⟨hs.memory, hs.lines⟩
  | error e t => exact h.error hs ha

/-! Returning from an exception or interrupt (R338 to R340, R504). -/

@[simp] theorem writeFlags_keepsMem (w : Word) (sz : OSize) (isIret : Bool) : (writeFlags w sz isIret).KeepsMem :=
  .view fun _ => rfl
@[simp] theorem checkReturnSel_keepsMem (sel : Word16) (off : Word) : (checkReturnSel sel off).KeepsMem :=
  .get fun _ => .check trivial <| .check trivial <| .bind (readDesc_within trivial _) fun ⟨_, _⟩ => .check trivial <|
    .check trivial <| .check trivial <| .check trivial <| .check trivial <| .pure _
@[simp] theorem outerReturn_keepsMem (sz : OSize) (sel : Word16) (off a : Word) (d : BitVec 64) (k extra : Nat)
    (fl : Option Word) : (outerReturn sz sel off a d k extra fl).KeepsMem := by
  refine .get fun s => .bind (before_within _ (memRead_within _ _ _ _)) fun _ => .bind (memRead_within _ _ _ _)
    fun _ => .bind (checkStackSel_within trivial trivial trivial _ _) fun ⟨_, _⟩ => .bind (markAccessed_within _ _) fun _ =>
    .bind (markAccessed_within _ _) fun _ => ?_
  cases fl with
  | none => exact .view fun _ => rfl
  | some w => exact .bind (writeFlags_keepsMem _ _ _) fun _ => .view fun _ => rfl
@[simp] theorem returnToV86_keepsMem (off : Word) (sel : Word16) (fl : Word) : (returnToV86 off sel fl).KeepsMem :=
  .bind (peekItem_within _ _ _) fun _ => .bind (peekItem_within _ _ _) fun _ => .bind (peekItem_within _ _ _) fun _ =>
    .bind (peekItem_within _ _ _) fun _ => .bind (peekItem_within _ _ _) fun _ => .bind (peekItem_within _ _ _) fun _ =>
    .view fun _ => rfl
@[simp] theorem realReturn_keepsMem (sz : OSize) : (realReturn sz).KeepsMem :=
  .bind (peekItem_within _ _ _) fun _ => .bind (peekItem_within _ _ _) fun _ => .bind (peekItem_within _ _ _) fun _ =>
    .get fun _ => .check trivial <| .bind (dropStack_within _ _ _) fun _ => .bind (.view fun _ => rfl) fun _ =>
    writeFlags_keepsMem _ _ _
@[simp] theorem protReturn_keepsMem (sz : OSize) : (protReturn sz).KeepsMem :=
  .get fun _ => .checkRefuse <| .bind (peekItem_within _ _ _) fun _ => .bind (peekItem_within _ _ _) fun _ =>
    .bind (peekItem_within _ _ _) fun _ => .get fun _ => .ite (returnToV86_keepsMem _ _ _) <|
    .bind (checkReturnSel_keepsMem _ _) fun ⟨_, _⟩ => .ite
    (.bind (markAccessed_within _ _) fun _ => .bind (dropStack_within _ _ _) fun _ => .bind (.view fun _ => rfl) fun _ =>
      writeFlags_keepsMem _ _ _)
    (outerReturn_keepsMem _ _ _ _ _ _ _ _)
@[simp] theorem interruptReturn_keepsMem (sz : OSize) : (interruptReturn sz).KeepsMem := by
  refine .get fun _ => .check trivial <| .ite (.bind (realReturn_keepsMem _) fun _ => ?_)
    (.bind (protReturn_keepsMem _) fun _ => ?_)
  all_goals exact .bind transferred_within fun _ => .view fun _ => rfl
@[simp] theorem retFar_keepsMem (sz : OSize) (n : Word16) : (retFar sz n).KeepsMem :=
  .bind (peekItem_within _ _ _) fun _ => .bind (peekItem_within _ _ _) fun _ => .get fun _ => .ite
    (.check trivial <| .bind (dropStack_within _ _ _) fun _ => .bind (.view fun _ => rfl) fun _ => transferred_within)
    (.bind (checkReturnSel_keepsMem _ _) fun ⟨_, _⟩ => .ite
      (.bind (markAccessed_within _ _) fun _ => .bind (dropStack_within _ _ _) fun _ => .bind (.view fun _ => rfl) fun _ =>
        transferred_within)
      (.bind (outerReturn_keepsMem _ _ _ _ _ _ _ _) fun _ => transferred_within))
@[simp] theorem softInt_keepsMem (n : Byte) : (softInt n).KeepsMem := .get fun _ => deliver_within _ _ _ _ _

/-! Flags (R281, R297 to R300, R311). -/

@[simp] theorem getFlags_keepsMem : getFlags.KeepsMem := .quiet fun _ => ⟨_, _, rfl, rfl⟩
@[simp] theorem addA_keepsMem {n : Nat} (a b : BitVec n) : (addA a b).KeepsMem := .quiet fun _ => ⟨_, _, rfl, rfl⟩
@[simp] theorem adcA_keepsMem {n : Nat} (a b : BitVec n) : (adcA a b).KeepsMem := .quiet fun _ => ⟨_, _, rfl, rfl⟩
@[simp] theorem subA_keepsMem {n : Nat} (a b : BitVec n) : (subA a b).KeepsMem := .quiet fun _ => ⟨_, _, rfl, rfl⟩
@[simp] theorem sbbA_keepsMem {n : Nat} (a b : BitVec n) : (sbbA a b).KeepsMem := .quiet fun _ => ⟨_, _, rfl, rfl⟩
@[simp] theorem andA_keepsMem {n : Nat} (a b : BitVec n) : (andA a b).KeepsMem := .quiet fun _ => ⟨_, _, rfl, rfl⟩
@[simp] theorem orA_keepsMem {n : Nat} (a b : BitVec n) : (orA a b).KeepsMem := .quiet fun _ => ⟨_, _, rfl, rfl⟩
@[simp] theorem xorA_keepsMem {n : Nat} (a b : BitVec n) : (xorA a b).KeepsMem := .quiet fun _ => ⟨_, _, rfl, rfl⟩
@[simp] theorem incA_keepsMem {n : Nat} (a : BitVec n) : (incA a).KeepsMem := .quiet fun _ => ⟨_, _, rfl, rfl⟩
@[simp] theorem decA_keepsMem {n : Nat} (a : BitVec n) : (decA a).KeepsMem := .quiet fun _ => ⟨_, _, rfl, rfl⟩
@[simp] theorem negA_keepsMem {n : Nat} (a : BitVec n) : (negA a).KeepsMem := .quiet fun _ => ⟨_, _, rfl, rfl⟩
@[simp] theorem notA_keepsMem {n : Nat} (a : BitVec n) : (notA a).KeepsMem := .quiet fun _ => ⟨_, _, rfl, rfl⟩
@[simp] theorem freeFlagsA_keepsMem : freeFlagsA.KeepsMem := .quiet fun _ => ⟨_, _, rfl, rfl⟩
@[simp] theorem mulFlagsA_keepsMem (ovf : Bool) : (mulFlagsA ovf).KeepsMem := .quiet fun _ => ⟨_, _, rfl, rfl⟩
@[simp] theorem bitFlagsA_keepsMem (bit : Bool) : (bitFlagsA bit).KeepsMem := .quiet fun _ => ⟨_, _, rfl, rfl⟩

/-! Operands (R282). -/

@[simp] theorem locateMem_keepsMem (m : Mem) (n al : Nat) (kind : Acc) : (locateMem m n al kind).KeepsMem :=
  .get fun _ => segAccess_within _ _ _ _ _
@[simp] theorem locate8_keepsMem (d : RM8) (kind : Acc) : (locate8 d kind).KeepsMem := by
  cases d with
  | reg r => exact .pure _
  | mem m => exact .bind (locateMem_keepsMem _ _ _ _) fun _ => .pure _
@[simp] theorem locateN_keepsMem (n : Nat) (d : RMv) (kind : Acc) : (locateN n d kind).KeepsMem := by
  cases d with
  | reg r => exact .pure _
  | mem m => exact .bind (locateMem_keepsMem _ _ _ _) fun _ => .pure _
@[simp] theorem locateV_keepsMem (sz : OSize) (d : RMv) (kind : Acc) : (locateV sz d kind).KeepsMem :=
  locateN_keepsMem _ _ _
@[simp] theorem readPlace_keepsMem (n : Nat) (p : Place) : (readPlace n p).KeepsMem := by
  cases p with
  | reg r => exact .quiet fun _ => ⟨_, _, rfl, rfl⟩
  | reg8 r => exact .quiet fun _ => ⟨_, _, rfl, rfl⟩
  | mem pas => exact .bind (physRead_within _) fun _ => .pure _
@[simp] theorem writePlace_keepsMem {n : Nat} (p : Place) (v : BitVec n) : (writePlace p v).KeepsMem := by
  cases p with
  | reg r => exact setRegN_keepsMem _ _
  | reg8 r => exact .quiet fun _ => ⟨_, _, rfl, rfl⟩
  | mem pas => exact physWrite_within _ _
@[simp] theorem readRM8_keepsMem (d : RM8) : (readRM8 d).KeepsMem :=
  .bind (locate8_keepsMem _ _) fun _ => readPlace_keepsMem _ _
@[simp] theorem readRMv_keepsMem (sz : OSize) (d : RMv) : (readRMv sz d).KeepsMem :=
  .bind (locateV_keepsMem _ _ _) fun _ => readPlace_keepsMem _ _
@[simp] theorem readRM16_keepsMem (d : RMv) : (readRM16 d).KeepsMem :=
  .bind (locateN_keepsMem _ _ _) fun _ => readPlace_keepsMem _ _
@[simp] theorem readRM32_keepsMem (d : RMv) : (readRM32 d).KeepsMem :=
  .bind (locateN_keepsMem _ _ _) fun _ => readPlace_keepsMem _ _
@[simp] theorem writeRM8_keepsMem (d : RM8) (v : Byte) : (writeRM8 d v).KeepsMem :=
  .bind (locate8_keepsMem _ _) fun _ => writePlace_keepsMem _ _
@[simp] theorem writeRMv_keepsMem (sz : OSize) (d : RMv) (v : BitVec (osBits sz)) : (writeRMv sz d v).KeepsMem :=
  .bind (locateV_keepsMem _ _ _) fun _ => writePlace_keepsMem _ _
theorem rmw8_keepsMem {f : Byte → Act Byte} (hf : ∀ a, (f a).KeepsMem) (d : RM8) : (rmw8 d f).KeepsMem :=
  .bind (locate8_keepsMem _ _) fun _ => .bind (readPlace_keepsMem _ _) fun _ => .bind (hf _) fun _ => writePlace_keepsMem _ _
theorem rmwV_keepsMem {sz : OSize} {f : BitVec (osBits sz) → Act (BitVec (osBits sz))} (hf : ∀ a, (f a).KeepsMem)
    (d : RMv) : (rmwV sz d f).KeepsMem :=
  .bind (locateV_keepsMem _ _ _) fun _ => .bind (readPlace_keepsMem _ _) fun _ => .bind (hf _) fun _ =>
    writePlace_keepsMem _ _

/-! Arithmetic and logical instructions (R283 to R300). -/

section
variable {op : Byte → Byte → Act Byte} (hop : ∀ a b, (op a b).KeepsMem)
include hop
theorem aluEbGb_keepsMem (d : RM8) (r : Reg8) : (aluEbGb op d r).KeepsMem :=
  rmw8_keepsMem (fun _ => .bind (getReg8_keepsMem _) fun _ => hop _ _) d
theorem aluGbEb_keepsMem (r : Reg8) (e : RM8) : (aluGbEb op r e).KeepsMem :=
  .bind (readRM8_keepsMem _) fun _ => .bind (getReg8_keepsMem _) fun _ => .bind (hop _ _) fun _ => setReg8_keepsMem _ _
theorem aluAlIb_keepsMem (i : Byte) : (aluAlIb op i).KeepsMem :=
  .bind (getReg8_keepsMem _) fun _ => .bind (hop _ _) fun _ => setReg8_keepsMem _ _
theorem aluEbIb_keepsMem (d : RM8) (i : Byte) : (aluEbIb op d i).KeepsMem := rmw8_keepsMem (fun _ => hop _ _) d
end
section
variable {sz : OSize} {op : BitVec (osBits sz) → BitVec (osBits sz) → Act (BitVec (osBits sz))}
  (hop : ∀ a b, (op a b).KeepsMem)
include hop
theorem aluEvGv_keepsMem (d : RMv) (r : Reg) : (aluEvGv sz op d r).KeepsMem :=
  rmwV_keepsMem (fun _ => .bind (getRegV_keepsMem _ _) fun _ => hop _ _) d
theorem aluGvEv_keepsMem (r : Reg) (e : RMv) : (aluGvEv sz op r e).KeepsMem :=
  .bind (readRMv_keepsMem _ _) fun _ => .bind (getRegV_keepsMem _ _) fun _ => .bind (hop _ _) fun _ => setRegN_keepsMem _ _
theorem aluEvIbs_keepsMem (d : RMv) (i : Byte) : (aluEvIbs sz op d i).KeepsMem := rmwV_keepsMem (fun _ => hop _ _) d
end
section
variable {i : Imm} {op : BitVec (osBits i.osize) → BitVec (osBits i.osize) → Act (BitVec (osBits i.osize))}
  (hop : ∀ a b, (op a b).KeepsMem)
include hop
theorem aluAxIv_keepsMem : (aluAxIv i op).KeepsMem :=
  .bind (getRegV_keepsMem _ _) fun _ => .bind (hop _ _) fun _ => setRegN_keepsMem _ _
theorem aluEvIv_keepsMem (d : RMv) : (aluEvIv d i op).KeepsMem := rmwV_keepsMem (fun _ => hop _ _) d
end
@[simp] theorem setProduct_keepsMem {n : Nat} (p : BitVec (n + n)) : (setProduct p).KeepsMem :=
  .bind (setRegN_keepsMem _ _) fun _ => setRegN_keepsMem _ _
@[simp] theorem getDividend_keepsMem (sz : OSize) : (getDividend sz).KeepsMem := .quiet fun _ => ⟨_, _, rfl, rfl⟩
@[simp] theorem getAx_keepsMem : getAx.KeepsMem := .quiet fun _ => ⟨_, _, rfl, rfl⟩
@[simp] theorem setDiv8_keepsMem (r : Option (Byte × Byte)) : (setDiv8 r).KeepsMem := by
  cases r with
  | none => exact .raise trivial
  | some x => exact .bind (setReg8_keepsMem _ _) fun _ => .bind (setReg8_keepsMem _ _) fun _ => freeFlagsA_keepsMem
@[simp] theorem setDivV_keepsMem {n : Nat} (r : Option (BitVec n × BitVec n)) : (setDivV r).KeepsMem := by
  cases r with
  | none => exact .raise trivial
  | some x => exact .bind (setRegN_keepsMem _ _) fun _ => .bind (setRegN_keepsMem _ _) fun _ => freeFlagsA_keepsMem

/-! Bit tests and shifts (R310 to R327). -/

@[simp] theorem bitAtPlace_keepsMem (op : BitOp) (sz : OSize) (p : Place) (k : Nat) : (bitAtPlace op sz p k).KeepsMem :=
  .bind (readPlace_keepsMem _ _) fun _ => .bind (bitFlagsA_keepsMem _) fun _ => writePlace_keepsMem _ _
@[simp] theorem bitImm_keepsMem (op : BitOp) (sz : OSize) (d : RMv) (i : Byte) : (bitImm op sz d i).KeepsMem :=
  .bind (locateV_keepsMem _ _ _) fun _ => bitAtPlace_keepsMem _ _ _ _
@[simp] theorem bitReg_keepsMem (op : BitOp) (sz : OSize) (d : RMv) (r : Reg) : (bitReg op sz d r).KeepsMem := by
  cases d with
  | reg b => exact .get fun _ => bitAtPlace_keepsMem _ _ _ _
  | mem m => exact .get fun _ => .bind (segAccess_within _ _ _ _ _) fun _ => bitAtPlace_keepsMem _ _ _ _
@[simp] theorem shiftPlace_keepsMem (op : Shift) (n : Nat) (p : Place) : (shiftPlace op n p).KeepsMem :=
  .get fun _ => .bind (readPlace_keepsMem _ _) fun _ => .bind drawBit_keepsMem fun _ => .bind drawBit_keepsMem fun _ =>
    .bind drawBit_keepsMem fun _ => .bind (.view fun _ => rfl) fun _ => writePlace_keepsMem _ _
theorem shiftAt_keepsMem {loc : Act Place} (hloc : loc.KeepsMem) (op : Shift) (n : Nat) : (shiftAt op n loc).KeepsMem :=
  .get fun _ => .ite (checkOnly_keepsMem hloc) (.bind hloc fun _ => shiftPlace_keepsMem _ _ _)
theorem shiftEb_keepsMem (op : Shift) (d : RM8) : (shiftEb op d).KeepsMem := shiftAt_keepsMem (locate8_keepsMem _ _) _ _
theorem shiftEv_keepsMem (op : Shift) (sz : OSize) (d : RMv) : (shiftEv op sz d).KeepsMem :=
  shiftAt_keepsMem (locateV_keepsMem _ _ _) _ _

/-! Data transfer and stack instructions (R361 to R374). -/

@[simp] theorem readPfx_keepsMem (f : Pfx → Pfx) : (readPfx f).KeepsMem := .quiet fun _ => ⟨_, _, rfl, rfl⟩
@[simp] theorem locateMoffs_keepsMem (o : Moffs) (n : Nat) (kind : Acc) : (locateMoffs o n kind).KeepsMem :=
  .get fun _ => segAccess_within _ _ _ _ _
@[simp] theorem storeSel_keepsMem (sz : OSize) (d : RMv) (sel : Word16) : (storeSel sz d sel).KeepsMem := by
  cases d with
  | reg r =>
    cases sz with
    | w16 => exact setRegN_keepsMem _ _
    | w32 => exact .bind drawWord16_within fun _ => setReg_keepsMem _ _
  | mem m => exact .bind (locateMem_keepsMem _ _ _ _) fun _ => writePlace_keepsMem _ _
@[simp] theorem shadowIfSs_keepsMem (r : SegReg) : (shadowIfSs r).KeepsMem := .ite (.view fun _ => rfl) (.pure _)
@[simp] theorem pushSeg_keepsMem (sz : OSize) (r : SegReg) : (pushSeg sz r).KeepsMem :=
  .get fun _ => .bind (selItem_within _ _) fun _ => push_within _ _
@[simp] theorem popSeg_keepsMem (sz : OSize) (r : SegReg) : (popSeg sz r).KeepsMem :=
  .bind (pop_within _) fun _ => .bind (loadSeg_keepsMem _ _) fun _ => shadowIfSs_keepsMem _
@[simp] theorem v86Sensitive_keepsMem : v86Sensitive.KeepsMem := .get fun _ => .ite (.raise trivial) (.pure _)

/-! Control transfer (R330 to R347). -/

@[simp] theorem farSystem_keepsMem (typ : BitVec 4) (bad : Exc) : (farSystem typ bad).KeepsMem :=
  .ite (.refuse _) <| .ite (.refuse _) <| .ite (.refuse _) (.raise trivial)
@[simp] theorem checkFar_keepsMem (sel : Word16) (off : Word) : (checkFar sel off).KeepsMem :=
  .get fun _ => .ite (.check trivial <| .pure _) <| .check trivial <| .bind (readDesc_within trivial _) fun ⟨_, _⟩ => .ite
    (.check trivial <| .check trivial <| .check trivial <| .check trivial <| .pure _)
    (.ite (farSystem_keepsMem _ _) (.raise trivial))
@[simp] theorem commitFar_keepsMem (t : FarDest) : (commitFar t).KeepsMem := by
  obtain ⟨cs, eip, desc⟩ := t
  cases desc with
  | none => exact .bind (.view fun _ => rfl) fun _ => branched_keepsMem
  | some x => exact .bind (markAccessed_within _ _) fun _ => .bind (.view fun _ => rfl) fun _ => branched_keepsMem
@[simp] theorem relTarget_keepsMem (disp : Word) : (relTarget disp).KeepsMem := .quiet fun _ => ⟨_, _, rfl, rfl⟩
@[simp] theorem jumpNear_keepsMem (sz : OSize) (t : Word) : (jumpNear sz t).KeepsMem :=
  .bind (loadEip_keepsMem _ _) fun _ => branched_keepsMem
@[simp] theorem callNear_keepsMem (sz : OSize) (t : Word) : (callNear sz t).KeepsMem :=
  .get fun _ => .bind (loadEip_keepsMem _ _) fun _ => .bind (push_within _ _) fun _ => branched_keepsMem
@[simp] theorem jumpFar_keepsMem (sel : Word16) (off : Word) : (jumpFar sel off).KeepsMem :=
  .bind (checkFar_keepsMem _ _) fun _ => commitFar_keepsMem _
@[simp] theorem callFar_keepsMem (sz : OSize) (sel : Word16) (off : Word) : (callFar sz sel off).KeepsMem := by
  refine .bind (checkFar_keepsMem _ _) fun ⟨cs, eip, desc⟩ => .get fun _ => .bind (pushPlaces_within _ _ _) fun _ =>
    .bind (selItem_within _ _) fun _ => ?_
  cases desc with
  | none => exact .bind (pushCommit_within _ _ _) fun _ => commitFar_keepsMem _
  | some x =>
    exact .bind (markAccessed_within _ _) fun _ => .bind (pushCommit_within _ _ _) fun _ => commitFar_keepsMem _
@[simp] theorem readFarPtr_keepsMem (sz : OSize) (m : Mem) (later : List Ref) : (readFarPtr sz m later).KeepsMem :=
  .get fun _ => .bind (before_within _ (memRead_within _ _ _ _)) fun _ =>
    .bind (before_within _ (memRead_within _ _ _ _)) fun _ => .pure _
@[simp] theorem retNear_keepsMem (sz : OSize) (n : Word16) : (retNear sz n).KeepsMem :=
  .bind (peekStack_within _ _) fun _ => .bind (loadEip_keepsMem _ _) fun _ => .bind (dropStack_within _ _ _) fun _ =>
    transferred_within
@[simp] theorem countDown_keepsMem (az : ASize) : (countDown az).KeepsMem := by
  cases az with
  | a16 => exact .bind (getReg_keepsMem _) fun _ => .bind (setRegN_keepsMem _ _) fun _ => .pure _
  | a32 => exact .bind (getReg_keepsMem _) fun _ => .bind (setReg_keepsMem _ _) fun _ => .pure _
@[simp] theorem loopIf_keepsMem (sz : OSize) (az : ASize) (d : Byte) (cond : Flags → Bool) : (loopIf sz az d cond).KeepsMem :=
  .bind (countDown_keepsMem _) fun _ => .bind getFlags_keepsMem fun _ =>
    .ite (.bind (relTarget_keepsMem _) fun _ => loadEip_keepsMem _ _) (.pure _)

/-! Floating point and MMX (R400 to R415). -/

@[simp] theorem pendingError_keepsMem : pendingError.KeepsMem := .get fun _ => .ite (.check trivial <| .refuse _) (.pure _)
@[simp] theorem escAvailable_keepsMem : escAvailable.KeepsMem := .get fun _ => .ite (.raise trivial) (.pure _)
@[simp] theorem waitCheck_keepsMem : waitCheck.KeepsMem := .get fun _ => .check trivial pendingError_keepsMem
@[simp] theorem mmxAvailable_keepsMem : mmxAvailable.KeepsMem :=
  .get fun _ => .check trivial <| .check trivial pendingError_keepsMem
@[simp] theorem getMm_keepsMem (r : MmReg) : (getMm r).KeepsMem := .quiet fun _ => ⟨_, _, rfl, rfl⟩
@[simp] theorem setMm_keepsMem (r : MmReg) (v : BitVec 64) : (setMm r v).KeepsMem := .quiet fun _ => ⟨_, _, rfl, rfl⟩
@[simp] theorem mmxDone_keepsMem (tag : Word16) : (mmxDone tag).KeepsMem := .quiet fun _ => ⟨_, _, rfl, rfl⟩
@[simp] theorem envBytes_keepsMem (f : Fpu) (form : EnvForm) : (envBytes f form).KeepsMem := by
  cases form <;> exact .quiet fun _ => ⟨_, _, rfl, rfl⟩
@[simp] theorem loadEnv_keepsMem (form : EnvForm) (bs : List Byte) (f : Fpu) : (loadEnv form bs f).KeepsMem := by
  cases form <;> exact .quiet fun _ => ⟨_, _, rfl, rfl⟩
@[simp] theorem fnsave_keepsMem (sz : OSize) (m : Mem) : (fnsave sz m).KeepsMem :=
  .bind escAvailable_keepsMem fun _ => .get fun _ => .bind (locateMem_keepsMem _ _ _ _) fun _ =>
    .bind (envBytes_keepsMem _ _) fun _ => .bind (physWrite_within _ _) fun _ => .view fun _ => rfl
@[simp] theorem fnstenv_keepsMem (sz : OSize) (m : Mem) : (fnstenv sz m).KeepsMem :=
  .bind escAvailable_keepsMem fun _ => .get fun _ => .bind (locateMem_keepsMem _ _ _ _) fun _ =>
    .bind (envBytes_keepsMem _ _) fun _ => .bind (physWrite_within _ _) fun _ => .view fun _ => rfl
@[simp] theorem frstor_keepsMem (sz : OSize) (m : Mem) : (frstor sz m).KeepsMem :=
  .bind escAvailable_keepsMem fun _ => .get fun _ => .bind (locateMem_keepsMem _ _ _ _) fun _ =>
    .bind (physRead_within _) fun _ => .bind (loadEnv_keepsMem _ _ _) fun _ => .view fun _ => rfl
@[simp] theorem readMm64_keepsMem (e : RMmm) : (readMm64 e).KeepsMem := by
  cases e with
  | reg r => exact getMm_keepsMem _
  | mem m => exact .bind (locateMem_keepsMem _ _ _ _) fun _ => .bind (physRead_within _) fun _ => .pure _
@[simp] theorem writeMm64_keepsMem (d : RMmm) (v : BitVec 64) : (writeMm64 d v).KeepsMem := by
  cases d with
  | reg r => exact setMm_keepsMem _ _
  | mem m => exact .bind (locateMem_keepsMem _ _ _ _) fun _ => physWrite_within _ _

/-! I/O and strings (R143, R381 to R390, R530). -/

@[simp] theorem ioMapAllows_keepsMem (base : Word) (k n : Nat) : (ioMapAllows base k n).KeepsMem := by
  induction n generalizing k with
  | zero => exact .pure _
  | succ m ih => exact .bind (linRead_within _ _) fun _ => .check trivial (ih _)
@[simp] theorem ioPermit_keepsMem (port : Word16) (n : Nat) : (ioPermit port n).KeepsMem :=
  .get fun _ => .ite (.get fun _ => .check trivial <| .check trivial <| .bind (linRead_within _ _) fun _ => .check trivial <|
    ioMapAllows_keepsMem _ _ _) (.pure _)
@[simp] theorem cfgRead_keepsMem (i : Byte) : (cfgRead i).KeepsMem := by
  refine .get fun s => ?_
  split
  · exact .pure _
  · exact .pure _
  · exact .pure _
  · exact drawByte_keepsMem
@[simp] theorem consumeIndex_keepsMem : consumeIndex.KeepsMem := .quiet fun _ => ⟨_, _, rfl, rfl⟩
@[simp] theorem externalRead_keepsMem (port : Word16) (n : Nat) : (externalRead port n).KeepsMem :=
  .quiet fun _ => ⟨_, _, rfl, rfl⟩
@[simp] theorem externalWrite_keepsMem (port : Word16) (n : Nat) (v : Word) : (externalWrite port n v).KeepsMem :=
  .quiet fun _ => ⟨_, _, rfl, rfl⟩
theorem State.cfgWrite_memView (s : State) (i v : Byte) : (s.cfgWrite i v).memView = s.memView := by
  unfold State.cfgWrite
  split
  · rfl
  · split
    · split <;> rfl
    · rfl
  · rfl
  · rfl
@[simp] theorem cfgPortRead_keepsMem (port : Word16) : (cfgPortRead port).KeepsMem :=
  .get fun _ => .ite (.bind (cfgRead_keepsMem _) fun _ => .bind consumeIndex_keepsMem fun _ => .pure _)
    (externalRead_keepsMem _ _)
@[simp] theorem cfgPortWrite_keepsMem (port : Word16) (v : Word) : (cfgPortWrite port v).KeepsMem :=
  .get fun _ => .ite
    (.ite (.view fun _ => rfl) (.bind consumeIndex_keepsMem fun _ => externalWrite_keepsMem _ _ _))
    (.ite (.bind (.view fun s => s.cfgWrite_memView _ _) fun _ => consumeIndex_keepsMem) (externalWrite_keepsMem _ _ _))
@[simp] theorem ioBounds_keepsMem (port : Word16) (n : Nat) : (ioBounds port n).KeepsMem :=
  .checkRefuse <| .ite (.refuse _) (.pure _)
@[simp] theorem noteIo_keepsMem (write : Bool) (port : Word16) (n : Nat) (v : Word) (index : Option Word) :
    (noteIo write port n v index).KeepsMem := .quiet fun _ => ⟨_, _, rfl, rfl⟩
@[simp] theorem ioRead_keepsMem (port : Word16) (n : Nat) (index : Option Word) : (ioRead port n index).KeepsMem :=
  .bind (ioBounds_keepsMem _ _) fun _ => .ite
    (.bind (cfgPortRead_keepsMem _) fun _ => .bind (noteIo_keepsMem _ _ _ _ _) fun _ => .pure _)
    (.bind (externalRead_keepsMem _ _) fun _ => .bind (noteIo_keepsMem _ _ _ _ _) fun _ => .pure _)
@[simp] theorem ioWrite_keepsMem (port : Word16) (n : Nat) (v : Word) (index : Option Word) :
    (ioWrite port n v index).KeepsMem :=
  .bind (ioBounds_keepsMem _ _) fun _ => .ite
    (.bind (cfgPortWrite_keepsMem _ _) fun _ => noteIo_keepsMem _ _ _ _ _)
    (.bind (externalWrite_keepsMem _ _ _) fun _ => noteIo_keepsMem _ _ _ _ _)
@[simp] theorem portDx_keepsMem : portDx.KeepsMem := .quiet fun _ => ⟨_, _, rfl, rfl⟩
@[simp] theorem inPort_keepsMem (port : Word16) (n : Nat) : (inPort port n).KeepsMem :=
  .bind (ioPermit_keepsMem _ _) fun _ => ioRead_keepsMem _ _ _
@[simp] theorem outPort_keepsMem (port : Word16) (n : Nat) (v : Word) : (outPort port n v).KeepsMem :=
  .bind (ioPermit_keepsMem _ _) fun _ => ioWrite_keepsMem _ _ _ _
@[simp] theorem indexReg_keepsMem (az : ASize) (r : Reg) : (indexReg az r).KeepsMem := .quiet fun _ => ⟨_, _, rfl, rfl⟩
@[simp] theorem stepIndex_keepsMem (az : ASize) (r : Reg) (n : Nat) : (stepIndex az r n).KeepsMem :=
  .quiet fun _ => ⟨_, _, rfl, rfl⟩
theorem repeated_keepsMem {iter : Act Unit} (h : iter.KeepsMem) (az : ASize) : (repeated az iter).KeepsMem :=
  .get fun _ => .ite h <| .ite (.pure _) <| .bind h fun _ => .bind (countDown_keepsMem _) fun _ =>
    .ite (.view fun _ => rfl) (.pure _)
theorem repeatedIo_keepsMem {iter : Act Unit} (h : iter.KeepsMem) (write : Bool) (az : ASize) :
    (repeatedIo write az iter).KeepsMem :=
  .get fun _ => .ite (.view fun _ => rfl) (repeated_keepsMem h _)
@[simp] theorem movsItem_keepsMem (az : ASize) (n : Nat) : (movsItem az n).KeepsMem :=
  .get fun _ => .bind (indexReg_keepsMem _ _) fun _ => .bind (before_within _ (memRead_within _ _ _ _)) fun _ =>
    .bind (indexReg_keepsMem _ _) fun _ => .bind (memWrite_within _ _ _ _ _) fun _ => .bind (stepIndex_keepsMem _ _ _)
    fun _ => stepIndex_keepsMem _ _ _
@[simp] theorem stosItem_keepsMem (az : ASize) (n : Nat) : (stosItem az n).KeepsMem :=
  .bind (indexReg_keepsMem _ _) fun _ => .bind (getReg_keepsMem _) fun _ => .bind (memWrite_within _ _ _ _ _) fun _ =>
    stepIndex_keepsMem _ _ _
@[simp] theorem insItem_keepsMem (az : ASize) (n : Nat) : (insItem az n).KeepsMem :=
  .bind portDx_keepsMem fun _ => .bind (ioPermit_keepsMem _ _) fun _ => .bind (indexReg_keepsMem _ _) fun _ =>
    .bind (segAccess_within _ _ _ _ _) fun _ => .bind (getReg_keepsMem _) fun _ => .bind (ioRead_keepsMem _ _ _) fun _ =>
    .bind (physWrite_within _ _) fun _ => stepIndex_keepsMem _ _ _
@[simp] theorem outsItem_keepsMem (az : ASize) (n : Nat) : (outsItem az n).KeepsMem :=
  .bind portDx_keepsMem fun _ => .bind (ioPermit_keepsMem _ _) fun _ => .get fun _ => .bind (indexReg_keepsMem _ _) fun _ =>
    .bind (memRead_within _ _ _ _) fun _ => .bind (getReg_keepsMem _) fun _ => .bind (ioWrite_keepsMem _ _ _ _) fun _ =>
    stepIndex_keepsMem _ _ _

/-! System instructions (R420 to R443). -/

@[simp] theorem requireCpl0_keepsMem : requireCpl0.KeepsMem := .get fun _ => .ite (.raise trivial) (.pure _)
@[simp] theorem readTableReg_keepsMem (sz : OSize) (m : Mem) : (readTableReg sz m).KeepsMem :=
  .get fun _ => .bind (before_within _ (memRead_within _ _ _ _)) fun _ => .bind (memRead_within _ _ _ _) fun _ =>
    .pure _
@[simp] theorem storeTableReg_keepsMem (sz : OSize) (m : Mem) (t : TableReg) : (storeTableReg sz m t).KeepsMem := by
  refine .get fun _ => .bind (before_within _ (segAccess_within _ _ _ _ _)) fun _ =>
    .bind (segAccess_within _ _ _ _ _) fun _ => ?_
  cases sz with
  | w32 => exact .bind (.pure _) fun _ => .bind (physWrite_within _ _) fun _ => physWrite_within _ _
  | w16 =>
    exact .bind (.bind drawByte_keepsMem fun _ => .pure _) fun _ => .bind (physWrite_within _ _) fun _ =>
      physWrite_within _ _
@[simp] theorem protectedOnly_keepsMem : protectedOnly.KeepsMem := .get fun _ => .ite (.raise trivial) (.pure _)
@[simp] theorem systemDesc_keepsMem (sel : Word16) (ok : BitVec 4 → Bool) : (systemDesc sel ok).KeepsMem :=
  .check trivial <| .bind (readDesc_within trivial _) fun ⟨_, _⟩ => .check trivial <| .check trivial <| .pure _
@[simp] theorem accessedSet_keepsMem : accessedSet.KeepsMem := .get fun _ => .ite (.pure _) (drawChoice_within _)
@[simp] theorem tlbEntryAt_keepsMem (l : List (Nat × TlbEntry)) (k : Nat) : (tlbEntryAt l k).KeepsMem := by
  unfold tlbEntryAt
  split
  · exact .pure _
  · exact .bind drawWord_keepsMem fun _ => .bind drawWord_keepsMem fun _ => .pure _
@[simp] theorem l2HitBits_keepsMem (hits : List Nat) : (l2HitBits hits).KeepsMem := by
  cases hits with
  | nil => exact .bind drawWord_keepsMem fun _ => .pure _
  | cons k ks => exact .bind (drawChoice_within _) fun _ => .pure _

@[simp] theorem lookedUp_keepsMem (s : State) (hits : List Nat) : (lookedUp s hits).KeepsMem := by
  unfold lookedUp
  split
  · exact .bind (tlbEntryAt_keepsMem _ _) fun _ => .pure _
  · exact .pure _
@[simp] theorem tlbReadL1_keepsMem : tlbReadL1.KeepsMem :=
  .get fun _ => .bind (tlbEntryAt_keepsMem _ _) fun _ => .view fun _ => rfl
@[simp] theorem tlbReadL2_keepsMem : tlbReadL2.KeepsMem :=
  .bind accessedSet_keepsMem fun _ => .get fun _ => .bind (l2HitBits_keepsMem _) fun _ => .bind (tlbEntryAt_keepsMem _ _)
    fun _ => .bind (lookedUp_keepsMem _ _) fun _ => .bind drawBit_keepsMem fun _ => .view fun _ => rfl
@[simp] theorem tlbTest_keepsMem : tlbTest.KeepsMem := by
  refine .get fun s => ?_
  split
  · exact .view fun _ => rfl
  · exact .bind accessedSet_keepsMem fun _ => .view fun _ => rfl
  · exact tlbReadL1_keepsMem
  · exact tlbReadL1_keepsMem
  · exact tlbReadL2_keepsMem
  · exact tlbReadL2_keepsMem
  · exact .refuse _

/-! The cache test operations (R181). -/

@[simp] theorem unlistedLine_keepsMem (filled dirty : Bool) : (cacheTestRead.unlistedLine filled dirty).KeepsMem :=
  .quiet fun _ => ⟨_, _, rfl, rfl⟩
@[simp] theorem cacheTestRead_keepsMem : cacheTestRead.KeepsMem := by
  refine .get fun s => .bind drawWord_keepsMem fun _ => ?_
  dsimp only
  split
  · exact .bind (.pure _) fun _ => .view fun _ => rfl
  · exact .bind (unlistedLine_keepsMem _ _) fun _ => .view fun _ => rfl
@[simp] theorem cacheTest_keepsMem : cacheTest.KeepsMem := by
  refine .get fun s => ?_
  split
  · exact .upd fun _ => State.cacheFlushKeep_memOk
  · exact cacheTestWrite_keepsMem
  · exact cacheTestRead_keepsMem
  · exact .pure _

/-! Moves to and from control, debug and test registers (R428 to R430). -/

@[simp] theorem writeCr0_keepsMem (w : Word) : (writeCr0 w).KeepsMem :=
  .checkRefuse <| .check trivial <| .upd fun _ hs => ⟨hs.memory, hs.lines⟩
@[simp] theorem writeCr4_keepsMem (w : Word) : (writeCr4 w).KeepsMem := .checkRefuse <| .view fun _ => rfl
@[simp] theorem writeCr_keepsMem (n : Nat) (w : Word) : (writeCr n w).KeepsMem := by
  unfold writeCr
  split
  · exact writeCr0_keepsMem w
  · exact .view fun _ => rfl
  · exact .view fun _ => rfl
  · exact writeCr4_keepsMem w
  · exact .raise trivial
@[simp] theorem readCr_keepsMem (n : Nat) : (readCr n).KeepsMem := by
  refine .get fun s => ?_
  split
  · exact .pure _
  · exact .pure _
  · exact .pure _
  · exact .pure _
  · exact .raise trivial
@[simp] theorem debugMoveCheck_keepsMem (n : Bits3) : (debugMoveCheck n).KeepsMem :=
  .bind requireCpl0_keepsMem fun _ => .checkRefuse <| .get fun _ => .ite (.raise trivial) (.pure _)
@[simp] theorem writeTr_keepsMem (n : Nat) (w : Word) : (writeTr n w).KeepsMem := by
  unfold writeTr
  split
  · exact .view fun _ => rfl
  · exact .view fun _ => rfl
  · exact .bind (.view fun _ => rfl) fun _ => cacheTest_keepsMem
  · exact .bind (.view fun _ => rfl) fun _ => tlbTest_keepsMem
  · exact .view fun _ => rfl

/-! Counters, model specific registers and flags (R435 to R443). -/

@[simp] theorem setEdxEax_keepsMem (hi lo : Word) : (setEdxEax hi lo).KeepsMem := .quiet fun _ => ⟨_, _, rfl, rfl⟩
@[simp] theorem readMsr_keepsMem (i : Nat) : (readMsr i).KeepsMem := by
  refine .get fun s => ?_
  split
  · exact .quiet fun _ => ⟨_, _, rfl, rfl⟩
  · exact .quiet fun _ => ⟨_, _, rfl, rfl⟩
  · exact .quiet fun _ => ⟨_, _, rfl, rfl⟩
  · exact .pure _
  · exact .pure _
  · exact .quiet fun _ => ⟨_, _, rfl, rfl⟩
  · exact .quiet fun _ => ⟨_, _, rfl, rfl⟩
  · exact .raise trivial
theorem writeMsr_keepsMem (i : Nat) (hi lo : Word) : (writeMsr i hi lo).KeepsMem := by
  unfold writeMsr
  split
  · exact writeTr_keepsMem _ _
  · exact writeTr_keepsMem _ _
  · exact writeTr_keepsMem _ _
  · exact .view fun _ => rfl
  · exact .view fun _ => rfl
  · exact .view fun _ => rfl
  · exact .view fun _ => rfl
  · exact .raise trivial
@[simp] theorem ifSensitive_keepsMem : ifSensitive.KeepsMem := .get fun _ => .check trivial v86Sensitive_keepsMem

/-! System Management Mode (R460 to R471, R549 to R577). -/

@[simp] theorem smmInsn_keepsMem : smmInsn.KeepsMem := .get fun _ => .ite (.raise trivial) (.pure _)
@[simp] theorem savePack_keepsMem (m : Mem) (g : Seg) : (savePack m g).KeepsMem :=
  .bind (locateMem_keepsMem _ _ _ _) fun _ => .get fun _ => physWrite_within _ _
@[simp] theorem loadPack_keepsMem (m : Mem) : (loadPack m).KeepsMem :=
  .bind (locateMem_keepsMem _ _ _ _) fun _ => .bind (physRead_within _) fun _ => .get fun _ => .pure _
@[simp] theorem ioFields_keepsMem (r : Option IoRecord) : (ioFields r).KeepsMem := by
  refine .bind drawBit_keepsMem fun _ => .bind drawBit_keepsMem fun _ => .bind drawWord_keepsMem fun _ =>
    .bind drawWord_keepsMem fun _ => .bind drawWord_keepsMem fun _ => ?_
  split
  · exact .pure _
  · split <;> exact .pure _
@[simp] theorem headerRows_keepsMem (s : State) (smint nested halted : Bool) (curIp nextIp : Word) (io : Option IoRecord) :
    (headerRows s smint nested halted curIp nextIp io).KeepsMem :=
  .bind (ioFields_keepsMem _) fun _ => .ite
    (.bind drawBit_keepsMem fun _ => .bind drawWord_keepsMem fun _ => .bind drawWord16_within fun _ => .pure _)
    (.bind (.pure _) fun _ => .bind drawWord_keepsMem fun _ => .bind drawWord16_within fun _ => .pure _)
@[simp] theorem writeRows_keepsMem (a : Word) (rows : List Word) : (writeRows a rows).KeepsMem := by
  induction rows generalizing a with
  | nil => exact .pure _
  | cons w rest ih => exact .bind (physWriteN_within _ _ _) fun _ => ih _
@[simp] theorem readRows_keepsMem (a : Word) (n : Nat) : (readRows a n).KeepsMem := by
  induction n generalizing a with
  | zero => exact .pure _
  | succ m ih => exact .bind (physReadN_within _ _) fun _ => .bind (ih _) fun _ => .pure _
@[simp] theorem enterSmm_keepsMem (smint : Bool) (curIp nextIp : Word) (io : Option IoRecord) :
    (enterSmm smint curIp nextIp io).KeepsMem :=
  .get fun _ => .bind (.view fun _ => rfl) fun _ => .bind (headerRows_keepsMem _ _ _ _ _ _ _) fun _ => .get fun _ =>
    .bind (writeRows_keepsMem _ _) fun _ => .upd fun _ hs => ⟨hs.memory, hs.lines⟩
@[simp] theorem exitSmm_keepsMem : exitSmm.KeepsMem :=
  .get fun _ => .bind (readRows_keepsMem _ _) fun _ => .get fun _ => .checkRefuse <| .upd fun _ hs => ⟨hs.memory, hs.lines⟩

end Sys2Proof.Machine
end

section
/-! SUPPORT. Every instruction, its exceptions delivered, leaves memories and cache lines well formed: first those whose meaning
is written out in their own definition, then all of them. -/
namespace Sys2Proof.Machine
open Sys2Proof

/-! Outcomes: what a step may end in. -/

/-- Outcome `o`, where it is a next state, is one whose memories and cache lines are well formed. -/
def memOutcome (o : Host.Outcome State Fault Refusal) : Prop := ∀ ⦃t⦄, o = .next t → t.MemOk

theorem memOutcome_next {t : State} (h : t.MemOk) : memOutcome (.next t) := fun _ e => by cases e; exact h
theorem memOutcome_fault (x : Fault) : memOutcome (.fault x) := fun _ e => nomatch e
theorem memOutcome_refused (r : Refusal) : memOutcome (.refused r) := fun _ e => nomatch e
theorem memOutcome.mapNext {o : Host.Outcome State Fault Refusal} (h : memOutcome o) {f : State → State}
    (hf : ∀ s, s.MemOk → (f s).MemOk) : memOutcome (mapNext f o) := by
  cases o with
  | next s => exact memOutcome_next (hf s (h rfl))
  | fault x => exact memOutcome_fault x
  | refused r => exact memOutcome_refused r

/-- What an abandoned action leaves in memory and cache stays. -/
theorem rollback_memOk {s t : State} (ht : t.MemOk) : (rollback s t).MemOk := ⟨ht.memory, ht.lines⟩
theorem State.enteredHandler_memOk {s : State} (h : s.MemOk) : s.enteredHandler.MemOk := ⟨h.memory, h.lines⟩

/-- An event with its consequences (R491): a handler, or shutdown. -/
theorem deliverAll_memOk (fuel : Nat) (kind : Kind) (n : Byte) (e : Word) (c : Option Word16) (fault : Bool)
    {s : State} (hs : s.MemOk) : memOutcome (deliverAll fuel kind n e c fault s) := by
  have hdeliver : ∀ kind n c fault, (deliver kind n e c fault).KeepsMem := fun _ _ _ _ => deliver_within _ _ _ _ _
  induction fuel generalizing kind n c fault s with
  | zero => exact memOutcome_fault _
  | succ k ih =>
    unfold deliverAll
    split
    · rename_i t h
      exact memOutcome_next ((hdeliver _ _ _ _).ok hs h)
    · exact memOutcome_refused _
    · rename_i x s2 h
      have hback : (rollback s s2).MemOk := rollback_memOk ((hdeliver _ _ _ _).error hs h).1
      split
      · exact memOutcome_next ⟨hback.memory, hback.lines⟩
      · exact ih _ _ _ _ hback
theorem debugException_memOk (hits : BitVec 4) (bs fault : Bool) (e : Word) {s : State} (hs : s.MemOk) :
    memOutcome (debugException hits bs fault e s) :=
  (deliverAll_memOk _ _ _ _ _ _ (by exact ⟨hs.memory, hs.lines⟩)).mapNext fun _ => State.enteredHandler_memOk
theorem deliverFault_memOk (x : Exc) {s : State} (hs : s.MemOk) : memOutcome (deliverFault x s) := by
  unfold deliverFault
  split
  · exact debugException_memOk _ _ _ _ hs
  · exact (deliverAll_memOk _ _ _ _ _ _ hs).mapNext fun _ => State.enteredHandler_memOk
/-- An instruction that keeps the memory: it completes, or its exception is delivered. -/
theorem runInstr_memOk {s : State} (hs : s.MemOk) {a : Act Unit} (ha : a.KeepsMem) : memOutcome (runInstr a s) := by
  intro t ht
  obtain h | ⟨x, u, hu, h⟩ := runInstr_next ht
  · exact ha.ok hs h
  · exact deliverFault_memOk x (rollback_memOk (ha.error hs hu).1) h
/-- WAIT with a second instruction: both in one step, or the step ends after WAIT. -/
theorem waitThen_memOk {s : State} (hs : s.MemOk) {part : Act Unit} (hp : part.KeepsMem) : memOutcome (waitThen part s) := by
  unfold waitThen
  split
  · rename_i u s1 h
    have h1 : s1.MemOk := waitCheck_keepsMem.ok hs h
    split
    · exact runInstr_memOk (by exact ⟨h1.memory, h1.lines⟩) hp
    · exact memOutcome_next ⟨h1.memory, h1.lines⟩
  · exact runInstr_memOk hs waitCheck_keepsMem

section
variable {s : State} (hs : s.MemOk)
include hs

/-! Arithmetic (R295 to R300). -/

theorem execXaddEbGb_memOk (d : RM8) (r : Reg8) : memOutcome (execXaddEbGb d r s) :=
  runInstr_memOk hs <| .bind (locate8_keepsMem _ _) fun _ => .bind (readPlace_keepsMem _ _) fun _ =>
    .bind (getReg8_keepsMem _) fun _ => .bind (addA_keepsMem _ _) fun _ => .bind (setReg8_keepsMem _ _) fun _ =>
    writePlace_keepsMem _ _
theorem execXaddEvGv_memOk (sz : OSize) (d : RMv) (r : Reg) : memOutcome (execXaddEvGv sz d r s) :=
  runInstr_memOk hs <| .bind (locateV_keepsMem _ _ _) fun _ => .bind (readPlace_keepsMem _ _) fun _ =>
    .bind (getRegV_keepsMem _ _) fun _ => .bind (addA_keepsMem _ _) fun _ => .bind (setRegN_keepsMem _ _) fun _ =>
    writePlace_keepsMem _ _
theorem execCmpxchgEbGb_memOk (d : RM8) (r : Reg8) : memOutcome (execCmpxchgEbGb d r s) :=
  runInstr_memOk hs <| .bind (locate8_keepsMem _ _) fun _ => .bind (readPlace_keepsMem _ _) fun _ =>
    .bind (getReg8_keepsMem _) fun _ => .bind (subA_keepsMem _ _) fun _ => .ite
    (.bind (getReg8_keepsMem _) fun _ => writePlace_keepsMem _ _)
    (.bind (writePlace_keepsMem _ _) fun _ => setReg8_keepsMem _ _)
theorem execCmpxchgEvGv_memOk (sz : OSize) (d : RMv) (r : Reg) : memOutcome (execCmpxchgEvGv sz d r s) :=
  runInstr_memOk hs <| .bind (locateV_keepsMem _ _ _) fun _ => .bind (readPlace_keepsMem _ _) fun _ =>
    .bind (getRegV_keepsMem _ _) fun _ => .bind (subA_keepsMem _ _) fun _ => .ite
    (.bind (getRegV_keepsMem _ _) fun _ => writePlace_keepsMem _ _)
    (.bind (writePlace_keepsMem _ _) fun _ => setRegN_keepsMem _ _)
theorem execMulEb_memOk (d : RM8) : memOutcome (execMulEb d s) :=
  runInstr_memOk hs <| .bind (readRM8_keepsMem _) fun _ => .bind (getReg8_keepsMem _) fun _ =>
    .bind (setRegN_keepsMem _ _) fun _ => mulFlagsA_keepsMem _
theorem execMulEv_memOk (sz : OSize) (d : RMv) : memOutcome (execMulEv sz d s) :=
  runInstr_memOk hs <| .bind (readRMv_keepsMem _ _) fun _ => .bind (getRegV_keepsMem _ _) fun _ =>
    .bind (setProduct_keepsMem _) fun _ => mulFlagsA_keepsMem _
theorem execImulEb_memOk (d : RM8) : memOutcome (execImulEb d s) :=
  runInstr_memOk hs <| .bind (readRM8_keepsMem _) fun _ => .bind (getReg8_keepsMem _) fun _ =>
    .bind (setRegN_keepsMem _ _) fun _ => mulFlagsA_keepsMem _
theorem execImulEv_memOk (sz : OSize) (d : RMv) : memOutcome (execImulEv sz d s) :=
  runInstr_memOk hs <| .bind (readRMv_keepsMem _ _) fun _ => .bind (getRegV_keepsMem _ _) fun _ =>
    .bind (setProduct_keepsMem _) fun _ => mulFlagsA_keepsMem _
theorem execDivEb_memOk (d : RM8) : memOutcome (execDivEb d s) :=
  runInstr_memOk hs <| .bind (readRM8_keepsMem _) fun _ => .bind getAx_keepsMem fun _ =>
    setDiv8_keepsMem _
theorem execDivEv_memOk (sz : OSize) (d : RMv) : memOutcome (execDivEv sz d s) :=
  runInstr_memOk hs <| .bind (readRMv_keepsMem _ _) fun _ => .bind (getDividend_keepsMem _) fun _ =>
    setDivV_keepsMem _
theorem execIdivEb_memOk (d : RM8) : memOutcome (execIdivEb d s) :=
  runInstr_memOk hs <| .bind (readRM8_keepsMem _) fun _ => .bind getAx_keepsMem fun _ =>
    setDiv8_keepsMem _
theorem execIdivEv_memOk (sz : OSize) (d : RMv) : memOutcome (execIdivEv sz d s) :=
  runInstr_memOk hs <| .bind (readRMv_keepsMem _ _) fun _ => .bind (getDividend_keepsMem _) fun _ =>
    setDivV_keepsMem _

/-! Data transfer and the stack (R361 to R374). -/

theorem execMovEbGb_memOk (d : RM8) (r : Reg8) : memOutcome (execMovEbGb d r s) :=
  runInstr_memOk hs <| .bind (getReg8_keepsMem _) fun _ => writeRM8_keepsMem _ _
theorem execMovEvGv_memOk (sz : OSize) (d : RMv) (r : Reg) : memOutcome (execMovEvGv sz d r s) :=
  runInstr_memOk hs <| .bind (getRegV_keepsMem _ _) fun _ => writeRMv_keepsMem _ _ _
theorem execMovGbEb_memOk (d : Reg8) (e : RM8) : memOutcome (execMovGbEb d e s) :=
  runInstr_memOk hs <| .bind (readRM8_keepsMem _) fun _ => setReg8_keepsMem _ _
theorem execMovGvEv_memOk (sz : OSize) (d : Reg) (e : RMv) : memOutcome (execMovGvEv sz d e s) :=
  runInstr_memOk hs <| .bind (readRMv_keepsMem _ _) fun _ => setRegN_keepsMem _ _
theorem execMovAlOb_memOk (o : Moffs) : memOutcome (execMovAlOb o s) :=
  runInstr_memOk hs <| .bind (locateMoffs_keepsMem _ _ _) fun _ => .bind (readPlace_keepsMem _ _) fun _ =>
    setReg8_keepsMem _ _
theorem execMovAxOv_memOk (sz : OSize) (o : Moffs) : memOutcome (execMovAxOv sz o s) :=
  runInstr_memOk hs <| .bind (locateMoffs_keepsMem _ _ _) fun _ => .bind (readPlace_keepsMem _ _) fun _ =>
    setRegN_keepsMem _ _
theorem execMovObAl_memOk (o : Moffs) : memOutcome (execMovObAl o s) :=
  runInstr_memOk hs <| .bind (locateMoffs_keepsMem _ _ _) fun _ => .bind (getReg8_keepsMem _) fun _ =>
    writePlace_keepsMem _ _
theorem execMovOvAx_memOk (sz : OSize) (o : Moffs) : memOutcome (execMovOvAx sz o s) :=
  runInstr_memOk hs <| .bind (locateMoffs_keepsMem _ _ _) fun _ => .bind (getRegV_keepsMem _ _) fun _ =>
    writePlace_keepsMem _ _
theorem execMovEwSw_memOk (sz : OSize) (d : RMv) (r : SegReg) : memOutcome (execMovEwSw sz d r s) :=
  runInstr_memOk hs <| .get fun _ => storeSel_keepsMem _ _ _
theorem execMovSwEw_memOk (d : SegReg) (e : RMv) : memOutcome (execMovSwEw d e s) :=
  runInstr_memOk hs <| .bind (readRM16_keepsMem _) fun _ => .bind (loadSeg_keepsMem _ _) fun _ =>
    shadowIfSs_keepsMem _
theorem execPushR_memOk (sz : OSize) (r : Reg) : memOutcome (execPushR sz r s) :=
  runInstr_memOk hs <| .bind (getReg_keepsMem _) fun _ => push_within _ _
theorem execPushEv_memOk (sz : OSize) (d : RMv) : memOutcome (execPushEv sz d s) :=
  runInstr_memOk hs <| .get fun _ => .bind (before_within _ (readRMv_keepsMem _ _)) fun _ =>
    push_within _ _
theorem execPopR_memOk (sz : OSize) (r : Reg) : memOutcome (execPopR sz r s) :=
  runInstr_memOk hs <| .bind (pop_within _) fun _ => setRegN_keepsMem _ _
theorem execPopEv_memOk (sz : OSize) (d : RMv) : memOutcome (execPopEv sz d s) :=
  runInstr_memOk hs <| .get fun _ => .bind (before_within _ (peekStack_within _ _)) fun _ =>
    .bind (dropStack_within _ _ _) fun _ => writeRMv_keepsMem _ _ _
theorem execPusha_memOk (sz : OSize) : memOutcome (execPusha sz s) :=
  runInstr_memOk hs <| .get fun _ => pushMany_within _ _
theorem execPopa_memOk (sz : OSize) : memOutcome (execPopa sz s) :=
  runInstr_memOk hs <| .bind (peekItem_within _ _ _) fun _ => .bind (peekItem_within _ _ _) fun _ =>
    .bind (peekItem_within _ _ _) fun _ => .bind (peekItem_within _ _ _) fun _ => .bind (peekItem_within _ _ _)
    fun _ => .bind (peekItem_within _ _ _) fun _ => .bind (peekItem_within _ _ _) fun _ =>
    .bind (peekItem_within _ _ _) fun _ => .bind (dropStack_within _ _ _) fun _ => .bind (setRegN_keepsMem _ _)
    fun _ => .bind (setRegN_keepsMem _ _) fun _ => .bind (setRegN_keepsMem _ _) fun _ => .bind (setRegN_keepsMem _ _)
    fun _ => .bind (setRegN_keepsMem _ _) fun _ => .bind (setRegN_keepsMem _ _) fun _ => setRegN_keepsMem _ _
theorem execPushf_memOk (sz : OSize) : memOutcome (execPushf sz s) :=
  runInstr_memOk hs <| .bind v86Sensitive_keepsMem fun _ => .bind getFlags_keepsMem fun _ =>
    push_within _ _
theorem execPopf_memOk (sz : OSize) : memOutcome (execPopf sz s) :=
  runInstr_memOk hs <| .bind v86Sensitive_keepsMem fun _ => .bind (pop_within _) fun _ =>
    writeFlags_keepsMem _ _ _
theorem execXchgEbGb_memOk (d : RM8) (r : Reg8) : memOutcome (execXchgEbGb d r s) :=
  runInstr_memOk hs <| .bind (locate8_keepsMem _ _) fun _ => .get fun _ =>
    .bind (readPlace_keepsMem _ _) fun _ => .bind (getReg8_keepsMem _) fun _ => .bind (writePlace_keepsMem _ _) fun _ =>
    setReg8_keepsMem _ _
theorem execXchgEvGv_memOk (sz : OSize) (d : RMv) (r : Reg) : memOutcome (execXchgEvGv sz d r s) :=
  runInstr_memOk hs <| .bind (locateV_keepsMem _ _ _) fun _ => .get fun _ =>
    .bind (readPlace_keepsMem _ _) fun _ => .bind (getRegV_keepsMem _ _) fun _ => .bind (writePlace_keepsMem _ _) fun _ =>
    setRegN_keepsMem _ _
theorem execXchgAx_memOk (sz : OSize) (r : Reg) : memOutcome (execXchgAx sz r s) :=
  runInstr_memOk hs <| .bind (getRegV_keepsMem _ _) fun _ => .bind (getRegV_keepsMem _ _) fun _ =>
    .bind (setRegN_keepsMem _ _) fun _ => setRegN_keepsMem _ _
theorem execXlat_memOk (az : ASize) : memOutcome (execXlat az s) :=
  runInstr_memOk hs <| .get fun _ => .bind (memRead_within _ _ _ _) fun _ => setReg8_keepsMem _ _

/-! Control transfer (R333 to R344). -/

theorem execJmpRel8_memOk (sz : OSize) (d : Byte) : memOutcome (execJmpRel8 sz d s) :=
  runInstr_memOk hs <| .bind (relTarget_keepsMem _) fun _ => jumpNear_keepsMem _ _
theorem execJmpRel_memOk (d : Imm) : memOutcome (execJmpRel d s) :=
  runInstr_memOk hs <| .bind (relTarget_keepsMem _) fun _ => jumpNear_keepsMem _ _
theorem execJmpEv_memOk (sz : OSize) (d : RMv) : memOutcome (execJmpEv sz d s) :=
  runInstr_memOk hs <| .bind (readRMv_keepsMem _ _) fun _ => jumpNear_keepsMem _ _
theorem execJmpMp_memOk (sz : OSize) (m : Mem) : memOutcome (execJmpMp sz m s) :=
  runInstr_memOk hs <| .bind (readFarPtr_keepsMem _ _ _) fun _ => jumpFar_keepsMem _ _
theorem execCallRel_memOk (d : Imm) : memOutcome (execCallRel d s) :=
  runInstr_memOk hs <| .bind (relTarget_keepsMem _) fun _ => callNear_keepsMem _ _
theorem execCallEv_memOk (sz : OSize) (d : RMv) : memOutcome (execCallEv sz d s) :=
  runInstr_memOk hs <| .get fun _ => .bind (before_within _ (readRMv_keepsMem _ _)) fun _ =>
    callNear_keepsMem _ _
theorem execCallMp_memOk (sz : OSize) (m : Mem) : memOutcome (execCallMp sz m s) :=
  runInstr_memOk hs <| .get fun _ => .bind (readFarPtr_keepsMem _ _ _) fun _ => callFar_keepsMem _ _ _
theorem execIntN_memOk (n : Byte) : memOutcome (execIntN n s) :=
  runInstr_memOk hs <| .bind v86Sensitive_keepsMem fun _ => softInt_keepsMem n
theorem execInto_memOk : memOutcome (execInto s) :=
  runInstr_memOk hs <| .bind getFlags_keepsMem fun _ => .ite (softInt_keepsMem _) (.pure _)
theorem execBound_memOk (sz : OSize) (r : Reg) (m : Mem) : memOutcome (execBound sz r m s) :=
  runInstr_memOk hs <| .get fun _ => .bind (before_within _ (memRead_within _ _ _ _)) fun _ =>
    .bind (memRead_within _ _ _ _) fun _ => .bind (getRegV_keepsMem _ _) fun _ => .ite (.raise trivial) (.pure _)

/-! Floating point and MMX (R401, R413 to R415). -/

theorem execEsc_memOk (op ext : Bits3) (rm : RMmm) : memOutcome (execEsc op ext rm s) :=
  runInstr_memOk hs <| .bind escAvailable_keepsMem fun _ => .ite
    (.bind pendingError_keepsMem fun _ => .refuse _) (.refuse _)
theorem execEmms_memOk : memOutcome (execEmms s) :=
  runInstr_memOk hs <| .bind mmxAvailable_keepsMem fun _ => mmxDone_keepsMem _
theorem execMovdPE_memOk (d : MmReg) (e : RMv) : memOutcome (execMovdPE d e s) :=
  runInstr_memOk hs <| .bind mmxAvailable_keepsMem fun _ => .bind (readRM32_keepsMem _) fun _ =>
    .bind (setMm_keepsMem _ _) fun _ => mmxDone_keepsMem _
theorem execMovdEP_memOk (d : RMv) (r : MmReg) : memOutcome (execMovdEP d r s) :=
  runInstr_memOk hs <| .bind mmxAvailable_keepsMem fun _ => .bind (locateN_keepsMem _ _ _) fun _ =>
    .bind (getMm_keepsMem _) fun _ => .bind (writePlace_keepsMem _ _) fun _ => mmxDone_keepsMem _
theorem execMovqPQ_memOk (d : MmReg) (e : RMmm) : memOutcome (execMovqPQ d e s) :=
  runInstr_memOk hs <| .bind mmxAvailable_keepsMem fun _ => .bind (readMm64_keepsMem _) fun _ =>
    .bind (setMm_keepsMem _ _) fun _ => mmxDone_keepsMem _
theorem execMovqQP_memOk (d : RMmm) (r : MmReg) : memOutcome (execMovqQP d r s) :=
  runInstr_memOk hs <| .bind mmxAvailable_keepsMem fun _ => .bind (getMm_keepsMem _) fun _ =>
    .bind (writeMm64_keepsMem _ _) fun _ => mmxDone_keepsMem _

/-! Input and output (R381, R382). -/

theorem execInAlIb_memOk (p : Byte) : memOutcome (execInAlIb p s) :=
  runInstr_memOk hs <| .bind (inPort_keepsMem _ _) fun _ => setReg8_keepsMem _ _
theorem execInAxIb_memOk (sz : OSize) (p : Byte) : memOutcome (execInAxIb sz p s) :=
  runInstr_memOk hs <| .bind (inPort_keepsMem _ _) fun _ => setRegN_keepsMem _ _
theorem execOutIbAl_memOk (p : Byte) : memOutcome (execOutIbAl p s) :=
  runInstr_memOk hs <| .bind (getReg8_keepsMem _) fun _ => outPort_keepsMem _ _ _
theorem execOutIbAx_memOk (sz : OSize) (p : Byte) : memOutcome (execOutIbAx sz p s) :=
  runInstr_memOk hs <| .bind (getReg_keepsMem _) fun _ => outPort_keepsMem _ _ _
theorem execInAlDx_memOk : memOutcome (execInAlDx s) :=
  runInstr_memOk hs <| .bind portDx_keepsMem fun _ => .bind (inPort_keepsMem _ _) fun _ =>
    setReg8_keepsMem _ _
theorem execInAxDx_memOk (sz : OSize) : memOutcome (execInAxDx sz s) :=
  runInstr_memOk hs <| .bind portDx_keepsMem fun _ => .bind (inPort_keepsMem _ _) fun _ =>
    setRegN_keepsMem _ _
theorem execOutDxAl_memOk : memOutcome (execOutDxAl s) :=
  runInstr_memOk hs <| .bind portDx_keepsMem fun _ => .bind (getReg8_keepsMem _) fun _ =>
    outPort_keepsMem _ _ _
theorem execOutDxAx_memOk (sz : OSize) : memOutcome (execOutDxAx sz s) :=
  runInstr_memOk hs <| .bind portDx_keepsMem fun _ => .bind (getReg_keepsMem _) fun _ =>
    outPort_keepsMem _ _ _

/-! System instructions (R421 to R443). -/

theorem execLgdt_memOk (sz : OSize) (m : Mem) : memOutcome (execLgdt sz m s) :=
  runInstr_memOk hs <| .bind requireCpl0_keepsMem fun _ => .bind (readTableReg_keepsMem _ _) fun _ =>
    .view fun _ => rfl
theorem execLidt_memOk (sz : OSize) (m : Mem) : memOutcome (execLidt sz m s) :=
  runInstr_memOk hs <| .bind requireCpl0_keepsMem fun _ => .bind (readTableReg_keepsMem _ _) fun _ =>
    .view fun _ => rfl
theorem execSgdt_memOk (sz : OSize) (m : Mem) : memOutcome (execSgdt sz m s) :=
  runInstr_memOk hs <| .get fun _ => storeTableReg_keepsMem _ _ _
theorem execSidt_memOk (sz : OSize) (m : Mem) : memOutcome (execSidt sz m s) :=
  runInstr_memOk hs <| .get fun _ => storeTableReg_keepsMem _ _ _
theorem execLldt_memOk (e : RMv) : memOutcome (execLldt e s) :=
  runInstr_memOk hs <| .bind protectedOnly_keepsMem fun _ => .bind requireCpl0_keepsMem fun _ =>
    .bind (readRM16_keepsMem _) fun _ => .ite (.view fun _ => rfl) <| .bind (systemDesc_keepsMem _ _) fun ⟨_, _⟩ =>
    .view fun _ => rfl
theorem execSldt_memOk (sz : OSize) (d : RMv) : memOutcome (execSldt sz d s) :=
  runInstr_memOk hs <| .bind protectedOnly_keepsMem fun _ => .get fun _ => storeSel_keepsMem _ _ _
theorem execLtr_memOk (e : RMv) : memOutcome (execLtr e s) :=
  runInstr_memOk hs <| .bind protectedOnly_keepsMem fun _ => .bind requireCpl0_keepsMem fun _ =>
    .bind (readRM16_keepsMem _) fun _ => .check trivial <| .bind (systemDesc_keepsMem _ _) fun ⟨_, _⟩ =>
    .bind (linWrite_within _ _ _) fun _ => .view fun _ => rfl
theorem execStr_memOk (sz : OSize) (d : RMv) : memOutcome (execStr sz d s) :=
  runInstr_memOk hs <| .bind protectedOnly_keepsMem fun _ => .get fun _ => storeSel_keepsMem _ _ _
theorem execInvlpg_memOk (m : Mem) : memOutcome (execInvlpg m s) :=
  runInstr_memOk hs <| .bind requireCpl0_keepsMem fun _ => .view fun _ => rfl
theorem execInvd_memOk : memOutcome (execInvd s) :=
  runInstr_memOk hs <| .bind requireCpl0_keepsMem fun _ => .get fun _ => .checkRefuse <|
    .upd fun _ => State.cacheInvalidate_memOk
theorem execWbinvd_memOk : memOutcome (execWbinvd s) :=
  runInstr_memOk hs <| .bind requireCpl0_keepsMem fun _ => .upd fun _ => State.cacheFlush_memOk
theorem execMovRCr_memOk (r : Reg) (n : Bits3) : memOutcome (execMovRCr r n s) :=
  runInstr_memOk hs <| .bind requireCpl0_keepsMem fun _ => .bind (readCr_keepsMem _) fun _ =>
    .bind (setReg_keepsMem _ _) fun _ => freeFlagsA_keepsMem
theorem execMovCrR_memOk (n : Bits3) (r : Reg) : memOutcome (execMovCrR n r s) :=
  runInstr_memOk hs <| .bind requireCpl0_keepsMem fun _ => .bind (getReg_keepsMem _) fun _ =>
    .bind (writeCr_keepsMem _ _) fun _ => freeFlagsA_keepsMem
theorem execMovRDr_memOk (r : Reg) (n : Bits3) : memOutcome (execMovRDr r n s) :=
  runInstr_memOk hs <| .bind (debugMoveCheck_keepsMem _) fun _ => .get fun _ =>
    .bind (setReg_keepsMem _ _) fun _ => freeFlagsA_keepsMem
theorem execMovDrR_memOk (n : Bits3) (r : Reg) : memOutcome (execMovDrR n r s) :=
  runInstr_memOk hs <| .bind (debugMoveCheck_keepsMem _) fun _ => .bind (getReg_keepsMem _) fun _ =>
    .bind (.view fun _ => rfl) fun _ => freeFlagsA_keepsMem
theorem execMovRTr_memOk (r : Reg) (n : Bits3) : memOutcome (execMovRTr r n s) :=
  runInstr_memOk hs <| .bind requireCpl0_keepsMem fun _ => .check trivial <| .get fun _ =>
    .bind (setReg_keepsMem _ _) fun _ => freeFlagsA_keepsMem
theorem execMovTrR_memOk (n : Bits3) (r : Reg) : memOutcome (execMovTrR n r s) :=
  runInstr_memOk hs <| .bind requireCpl0_keepsMem fun _ => .check trivial <| .bind (getReg_keepsMem _) fun _ =>
    .bind (writeTr_keepsMem _ _) fun _ => freeFlagsA_keepsMem
theorem execRdtsc_memOk : memOutcome (execRdtsc s) :=
  runInstr_memOk hs <| .get fun _ => .check trivial <| setEdxEax_keepsMem _ _
theorem execRdpmc_memOk : memOutcome (execRdpmc s) :=
  runInstr_memOk hs <| .get fun _ => .check trivial <| .ite (setEdxEax_keepsMem _ _) <|
    .ite (setEdxEax_keepsMem _ _) (.raise trivial)
theorem execRdmsr_memOk : memOutcome (execRdmsr s) :=
  runInstr_memOk hs <| .bind requireCpl0_keepsMem fun _ => .bind (getReg_keepsMem _) fun _ =>
    .bind (readMsr_keepsMem _) fun _ => setEdxEax_keepsMem _ _
theorem execWrmsr_memOk : memOutcome (execWrmsr s) :=
  runInstr_memOk hs <| .bind requireCpl0_keepsMem fun _ => .get fun _ => writeMsr_keepsMem _ _ _
theorem execHlt_memOk : memOutcome (execHlt s) :=
  runInstr_memOk hs <| .bind requireCpl0_keepsMem fun _ => .view fun _ => rfl
theorem execCli_memOk : memOutcome (execCli s) :=
  runInstr_memOk hs <| .bind ifSensitive_keepsMem fun _ => .view fun _ => rfl
theorem execSti_memOk : memOutcome (execSti s) :=
  runInstr_memOk hs <| .bind ifSensitive_keepsMem fun _ => .view fun _ => rfl
theorem execCpuid_memOk : memOutcome (execCpuid s) :=
  runInstr_memOk hs <| .get fun _ => .check trivial <| .bind (setReg_keepsMem _ _) fun _ =>
    .bind (setReg_keepsMem _ _) fun _ => .bind (setReg_keepsMem _ _) fun _ => setReg_keepsMem _ _

/-! System Management Mode (R461 to R470). -/

theorem execSvdc_memOk (m : Mem) (r : SegReg) : memOutcome (execSvdc m r s) :=
  runInstr_memOk hs <| .bind smmInsn_keepsMem fun _ => .checkRefuse <| .get fun _ => savePack_keepsMem _ _
theorem execRsdc_memOk (r : SegReg) (m : Mem) : memOutcome (execRsdc r m s) :=
  runInstr_memOk hs <| .bind smmInsn_keepsMem fun _ => .check trivial <| .bind (loadPack_keepsMem _) fun _ =>
    setSeg_within _ _
theorem execSvldt_memOk (m : Mem) : memOutcome (execSvldt m s) :=
  runInstr_memOk hs <| .bind smmInsn_keepsMem fun _ => .get fun _ => savePack_keepsMem _ _
theorem execRsldt_memOk (m : Mem) : memOutcome (execRsldt m s) :=
  runInstr_memOk hs <| .bind smmInsn_keepsMem fun _ => .bind (loadPack_keepsMem _) fun _ => .view fun _ => rfl
theorem execSvts_memOk (m : Mem) : memOutcome (execSvts m s) :=
  runInstr_memOk hs <| .bind smmInsn_keepsMem fun _ => .get fun _ => savePack_keepsMem _ _
theorem execRsts_memOk (m : Mem) : memOutcome (execRsts m s) :=
  runInstr_memOk hs <| .bind smmInsn_keepsMem fun _ => .bind (loadPack_keepsMem _) fun _ => .view fun _ => rfl
theorem execSmint_memOk : memOutcome (execSmint s) :=
  runInstr_memOk hs <| .get fun _ => .check trivial <| .checkRefuse <| enterSmm_keepsMem _ _ _ _
theorem execRsm_memOk : memOutcome (execRsm s) :=
  runInstr_memOk hs <| .bind smmInsn_keepsMem fun _ => .get fun _ => .checkRefuse <| exitSmm_keepsMem
theorem execRdshr_memOk (d : RMv) : memOutcome (execRdshr d s) :=
  runInstr_memOk hs <| .bind smmInsn_keepsMem fun _ => .bind (locateN_keepsMem _ _ _) fun _ => .get fun _ =>
    writePlace_keepsMem _ _
theorem execWrshr_memOk (e : RMv) : memOutcome (execWrshr e s) :=
  runInstr_memOk hs <| .bind smmInsn_keepsMem fun _ => .bind (readRM32_keepsMem _) fun _ => .view fun _ => rfl

/-! All instructions. -/

theorem exec_memOk (i : Instr) : memOutcome (exec i s) := by
  have keeps {a : Act Unit} (ha : a.KeepsMem) : memOutcome (runInstr a s) := runInstr_memOk hs ha
  cases i with
  -- Prefixes.
  | segEs | segCs | segSs | segDs | segFs | segGs | opsize | adsize | lock | repne | rep =>
    dsimp only [exec]
    exact keeps (readPfx_keepsMem _)
  -- Arithmetic, logic, bits and shifts.
  | addEbGb d r | orEbGb d r | adcEbGb d r | sbbEbGb d r | andEbGb d r | subEbGb d r | xorEbGb d r =>
    exact keeps (aluEbGb_keepsMem (by simp) d r)
  | addEvGv sz d r | orEvGv sz d r | adcEvGv sz d r | sbbEvGv sz d r | andEvGv sz d r | subEvGv sz d r
    | xorEvGv sz d r =>
    exact keeps (aluEvGv_keepsMem (by simp) d r)
  | addGbEb r d | orGbEb r d | adcGbEb r d | sbbGbEb r d | andGbEb r d | subGbEb r d | xorGbEb r d =>
    exact keeps (aluGbEb_keepsMem (by simp) r d)
  | addGvEv sz r d | orGvEv sz r d | adcGvEv sz r d | sbbGvEv sz r d | andGvEv sz r d | subGvEv sz r d
    | xorGvEv sz r d =>
    exact keeps (aluGvEv_keepsMem (by simp) r d)
  | addAlIb k | orAlIb k | adcAlIb k | sbbAlIb k | andAlIb k | subAlIb k | xorAlIb k =>
    dsimp only [exec]
    exact keeps (aluAlIb_keepsMem (by simp) k)
  | addAxIv k | orAxIv k | adcAxIv k | sbbAxIv k | andAxIv k | subAxIv k | xorAxIv k =>
    dsimp only [exec]
    exact keeps (aluAxIv_keepsMem (i := k) (by simp))
  | addEbIb d k | orEbIb d k | adcEbIb d k | sbbEbIb d k | andEbIb d k | subEbIb d k | xorEbIb d k =>
    exact keeps (aluEbIb_keepsMem (by simp) d k)
  | addEvIv d k | orEvIv d k | adcEvIv d k | sbbEvIv d k | andEvIv d k | subEvIv d k | xorEvIv d k =>
    dsimp only [exec]
    exact keeps (aluEvIv_keepsMem (by simp) d)
  | addEvIbs sz d k | orEvIbs sz d k | adcEvIbs sz d k | sbbEvIbs sz d k | andEvIbs sz d k | subEvIbs sz d k
    | xorEvIbs sz d k =>
    exact keeps (aluEvIbs_keepsMem (by simp) d k)
  | incR sz r | decR sz r =>
    dsimp only [exec]
    exact keeps (rmwV_keepsMem (by simp) (.reg r))
  | incEb d | decEb d | negEb d | notEb d => exact keeps (rmw8_keepsMem (by simp) d)
  | incEv sz d | decEv sz d | negEv sz d | notEv sz d => exact keeps (rmwV_keepsMem (by simp) d)
  | btsEvGv sz d r | btrEvGv sz d r | btcEvGv sz d r => exact keeps (bitReg_keepsMem _ sz d r)
  | btsEvIb sz d k | btrEvIb sz d k | btcEvIb sz d k => exact keeps (bitImm_keepsMem _ sz d k)
  | rolEbCl d | rorEbCl d | rclEbCl d | rcrEbCl d | shlEbCl d | shrEbCl d | sarEbCl d =>
    exact keeps (shiftEb_keepsMem _ d)
  | rolEvCl sz d | rorEvCl sz d | rclEvCl sz d | rcrEvCl sz d | shlEvCl sz d | shrEvCl sz d | sarEvCl sz d =>
    exact keeps (shiftEv_keepsMem _ sz d)
  | xaddEbGb d r => exact execXaddEbGb_memOk hs d r
  | xaddEvGv sz d r => exact execXaddEvGv_memOk hs sz d r
  | cmpxchgEbGb d r => exact execCmpxchgEbGb_memOk hs d r
  | cmpxchgEvGv sz d r => exact execCmpxchgEvGv_memOk hs sz d r
  | mulEb d => exact execMulEb_memOk hs d
  | mulEv sz d => exact execMulEv_memOk hs sz d
  | imulEb d => exact execImulEb_memOk hs d
  | imulEv sz d => exact execImulEv_memOk hs sz d
  | divEb d => exact execDivEb_memOk hs d
  | divEv sz d => exact execDivEv_memOk hs sz d
  | idivEb d => exact execIdivEb_memOk hs d
  | idivEv sz d => exact execIdivEv_memOk hs sz d
  -- Data transfer and the stack.
  | pushEs sz | pushCs sz | pushSs sz | pushDs sz | pushFs sz | pushGs sz => exact keeps (pushSeg_keepsMem sz _)
  | popEs sz | popSs sz | popDs sz | popFs sz | popGs sz => exact keeps (popSeg_keepsMem sz _)
  | pushIv k => exact keeps (push_within _ _)
  | pushIbs sz k => exact keeps (push_within _ _)
  | movRIb r k => exact keeps (setReg8_keepsMem r k)
  | movRIv r k => exact keeps (setRegN_keepsMem r _)
  | movEbIb d k => exact keeps (writeRM8_keepsMem d k)
  | movEvIv d k => exact keeps (writeRMv_keepsMem _ d _)
  | nop =>
    dsimp only [exec]
    exact keeps (.pure _)
  | movEbGb d r => exact execMovEbGb_memOk hs d r
  | movEvGv sz d r => exact execMovEvGv_memOk hs sz d r
  | movGbEb d r => exact execMovGbEb_memOk hs d r
  | movGvEv sz d r => exact execMovGvEv_memOk hs sz d r
  | movAlOb o => exact execMovAlOb_memOk hs o
  | movAxOv sz o => exact execMovAxOv_memOk hs sz o
  | movObAl o => exact execMovObAl_memOk hs o
  | movOvAx sz o => exact execMovOvAx_memOk hs sz o
  | movEwSw sz d r => exact execMovEwSw_memOk hs sz d r
  | movSwEw d r => exact execMovSwEw_memOk hs d r
  | pushR sz r => exact execPushR_memOk hs sz r
  | pushEv sz d => exact execPushEv_memOk hs sz d
  | popR sz r => exact execPopR_memOk hs sz r
  | popEv sz d => exact execPopEv_memOk hs sz d
  | pusha sz => exact execPusha_memOk hs sz
  | popa sz => exact execPopa_memOk hs sz
  | pushf sz => exact execPushf_memOk hs sz
  | popf sz => exact execPopf_memOk hs sz
  | xchgEbGb d r => exact execXchgEbGb_memOk hs d r
  | xchgEvGv sz d r => exact execXchgEvGv_memOk hs sz d r
  | xchgAx sz r => exact execXchgAx_memOk hs sz r
  | xlat az => exact execXlat_memOk hs az
  -- Control transfer.
  | jmpPtr p => exact keeps (jumpFar_keepsMem _ _)
  | callPtr p => exact keeps (callFar_keepsMem _ _ _)
  | ret sz => exact keeps (retNear_keepsMem sz _)
  | retIw sz n => exact keeps (retNear_keepsMem sz n)
  | retf sz => exact keeps (retFar_keepsMem sz _)
  | retfIw sz n => exact keeps (retFar_keepsMem sz n)
  | iret sz => exact keeps (interruptReturn_keepsMem sz)
  | int3 => exact keeps (softInt_keepsMem 3#8)
  | loop sz az k | loope sz az k | loopne sz az k => exact keeps (loopIf_keepsMem sz az k _)
  | jmpRel8 sz k => exact execJmpRel8_memOk hs sz k
  | jmpRel k => exact execJmpRel_memOk hs k
  | jmpEv sz d => exact execJmpEv_memOk hs sz d
  | jmpMp sz m => exact execJmpMp_memOk hs sz m
  | callRel k => exact execCallRel_memOk hs k
  | callEv sz d => exact execCallEv_memOk hs sz d
  | callMp sz m => exact execCallMp_memOk hs sz m
  | intN n => exact execIntN_memOk hs n
  | into => exact execInto_memOk hs
  | bound sz r m => exact execBound_memOk hs sz r m
  -- Floating point and MMX.
  | wait => exact keeps waitCheck_keepsMem
  | fnsave sz m => exact keeps (fnsave_keepsMem sz m)
  | fnstenv sz m => exact keeps (fnstenv_keepsMem sz m)
  | frstor sz m => exact keeps (frstor_keepsMem sz m)
  | fsave sz m => exact waitThen_memOk hs (fnsave_keepsMem sz m)
  | fstenv sz m => exact waitThen_memOk hs (fnstenv_keepsMem sz m)
  | esc op ext rm => exact execEsc_memOk hs op ext rm
  | emms => exact execEmms_memOk hs
  | movdPE d r => exact execMovdPE_memOk hs d r
  | movdEP d r => exact execMovdEP_memOk hs d r
  | movqPQ d r => exact execMovqPQ_memOk hs d r
  | movqQP d r => exact execMovqQP_memOk hs d r
  -- Input, output and strings.
  | insb az => exact keeps (repeatedIo_keepsMem (insItem_keepsMem az _) _ az)
  | insv sz az => exact keeps (repeatedIo_keepsMem (insItem_keepsMem az _) _ az)
  | outsb az => exact keeps (repeatedIo_keepsMem (outsItem_keepsMem az _) _ az)
  | outsv sz az => exact keeps (repeatedIo_keepsMem (outsItem_keepsMem az _) _ az)
  | movsb az => exact keeps (repeated_keepsMem (movsItem_keepsMem az _) az)
  | movsv sz az => exact keeps (repeated_keepsMem (movsItem_keepsMem az _) az)
  | stosb az => exact keeps (repeated_keepsMem (stosItem_keepsMem az _) az)
  | stosv sz az => exact keeps (repeated_keepsMem (stosItem_keepsMem az _) az)
  | inAlIb p => exact execInAlIb_memOk hs p
  | inAxIb sz p => exact execInAxIb_memOk hs sz p
  | outIbAl p => exact execOutIbAl_memOk hs p
  | outIbAx sz p => exact execOutIbAx_memOk hs sz p
  | inAlDx => exact execInAlDx_memOk hs
  | inAxDx sz => exact execInAxDx_memOk hs sz
  | outDxAl => exact execOutDxAl_memOk hs
  | outDxAx sz => exact execOutDxAx_memOk hs sz
  -- The system and System Management Mode.
  | lgdt sz m => exact execLgdt_memOk hs sz m
  | lidt sz m => exact execLidt_memOk hs sz m
  | sgdt sz m => exact execSgdt_memOk hs sz m
  | sidt sz m => exact execSidt_memOk hs sz m
  | lldt r => exact execLldt_memOk hs r
  | sldt sz d => exact execSldt_memOk hs sz d
  | ltr r => exact execLtr_memOk hs r
  | str sz d => exact execStr_memOk hs sz d
  | invlpg m => exact execInvlpg_memOk hs m
  | invd => exact execInvd_memOk hs
  | wbinvd => exact execWbinvd_memOk hs
  | movRCr r n => exact execMovRCr_memOk hs r n
  | movCrR n r => exact execMovCrR_memOk hs n r
  | movRDr r n => exact execMovRDr_memOk hs r n
  | movDrR n r => exact execMovDrR_memOk hs n r
  | movRTr r n => exact execMovRTr_memOk hs r n
  | movTrR n r => exact execMovTrR_memOk hs n r
  | rdtsc => exact execRdtsc_memOk hs
  | rdpmc => exact execRdpmc_memOk hs
  | rdmsr => exact execRdmsr_memOk hs
  | wrmsr => exact execWrmsr_memOk hs
  | hlt => exact execHlt_memOk hs
  | cli => exact execCli_memOk hs
  | sti => exact execSti_memOk hs
  | cpuid => exact execCpuid_memOk hs
  | svdc m r => exact execSvdc_memOk hs m r
  | rsdc d m => exact execRsdc_memOk hs d m
  | svldt m => exact execSvldt_memOk hs m
  | rsldt m => exact execRsldt_memOk hs m
  | svts m => exact execSvts_memOk hs m
  | rsts m => exact execRsts_memOk hs m
  | smint => exact execSmint_memOk hs
  | rsm => exact execRsm_memOk hs
  | rdshr d => exact execRdshr_memOk hs d
  | wrshr r => exact execWrshr_memOk hs r
end

end Sys2Proof.Machine
end

section
/-! SUPPORT, and O54. Fetching and running an instruction, the events of the boundary, and the end of a step leave memories and
cache lines well formed. -/
namespace Sys2Proof.Machine
open Sys2Proof

/-! Fetch and decode (R261). -/

@[simp] theorem fetchPlace_keepsMem (off : Word) : (fetchPlace off).KeepsMem :=
  .bind (segCheck_within _ _ _ _) fun _ => .get fun _ => .bind (linAccess_within _ _ _ _ _) fun _ => .pure _
@[simp] theorem fetchPhys_keepsMem (pa : Word) : (fetchPhys pa).KeepsMem := by
  refine .bind (physReadByte_within _) fun _ => .get fun s => ?_
  split
  · exact .pure _
  · exact .bind (drawChoice_within _) fun _ => .pure _
@[simp] theorem fetchByte_keepsMem (k : Nat) : (fetchByte k).KeepsMem :=
  .get fun _ => .checkRefuse <| .bind (fetchPlace_keepsMem _) fun _ => .bind (busPoint_within _) fun _ =>
    fetchPhys_keepsMem _
/-- What was looked at beyond a WAIT is dropped with the state or kept with it. -/
theorem lookBeyond_keepsMem {a : Act Fetched} (h : a.KeepsMem) : (lookBeyond a).KeepsMem := by
  intro s hs
  unfold lookBeyond
  cases ha : a s with
  | ok f t =>
    dsimp only
    by_cases hw : f.instr = .wait
    · rw [if_pos hw]
      exact hs
    · rw [if_neg hw]
      exact h.ok hs ha
  | error e t => exact hs
@[simp] theorem checkPrefixes_keepsMem (n : Nat) (lockOk repOk branch : Bool) :
    (checkPrefixes n lockOk repOk branch).KeepsMem :=
  .get fun _ => .check trivial <| .check trivial <| .checkRefuse <| .ite (.refuse _) (.pure _)
@[simp] theorem lateStop_keepsMem (w : LateStop) (n : Nat) : (lateStop w n).KeepsMem := by
  refine .bind (checkPrefixes_keepsMem _ _ _ _) fun _ => ?_
  cases w with
  | invalidOperand => exact .raise trivial
  | reservedRegField => exact .get fun _ => .ite (.refuse _) (.raise trivial)
@[simp] theorem fetchDecode_keepsMem (c : Ctx) (got : List Byte) (room : Nat) : (fetchDecode c got room).KeepsMem := by
  induction room generalizing got with
  | zero =>
    unfold fetchDecode
    split
    · exact .pure _
    · exact .raise trivial
    · exact .pure _
    · exact .raise trivial
    · exact .refuse _
    · exact lateStop_keepsMem _ _
  | succ k ih =>
    unfold fetchDecode
    split
    · exact .pure _
    · exact .bind (fetchByte_keepsMem _) fun _ => ih _
    · exact lookBeyond_keepsMem <| .bind (fetchByte_keepsMem _) fun _ => ih _
    · exact .raise trivial
    · exact .refuse _
    · exact lateStop_keepsMem _ _
@[simp] theorem fetchInstr_keepsMem : fetchInstr.KeepsMem := .get fun _ => fetchDecode_keepsMem _ _ _

/-! Running one instruction (R261, R594). -/

theorem afterExec_memOk {o : Host.Outcome State Fault Refusal} (ho : memOutcome o) (i : Instr) (start : Word) (n : Nat)
    (tf : Bool) : memOutcome (afterExec i start n tf o) := by
  cases o with
  | next s =>
    have hs : s.MemOk := ho rfl
    dsimp only [afterExec]
    by_cases hentered : s.cur.entered = true
    · rw [if_pos hentered]
      exact memOutcome_next hs
    · rw [if_neg hentered]
      split
      · exact memOutcome_refused _
      · exact memOutcome_next ⟨hs.memory, hs.lines⟩
  | fault x => exact memOutcome_fault x
  | refused r => exact memOutcome_refused r
theorem runDecoded_memOk (i : Instr) (n : Nat) {s : State} (hs : s.MemOk) : memOutcome (runDecoded i n s) := by
  unfold runDecoded
  split
  · exact afterExec_memOk (exec_memOk (by exact ⟨hs.memory, hs.lines⟩) i) _ _ _ _
  · exact memOutcome_refused _
  · exact deliverFault_memOk _ hs
theorem runFetched_memOk (fuel : Nat) {s : State} (hs : s.MemOk) : memOutcome (runFetched fuel s) := by
  induction fuel generalizing s with
  | zero =>
    unfold runFetched
    split
    · exact memOutcome_refused _
    · rename_i hfetch
      exact deliverFault_memOk _ (rollback_memOk (fetchInstr_keepsMem.error hs hfetch).1)
    · rename_i f t hfetch
      split
      · exact deliverFault_memOk _ hs
      · exact runDecoded_memOk _ _ (fetchInstr_keepsMem.ok hs hfetch)
  | succ k ih =>
    unfold runFetched
    split
    · exact memOutcome_refused _
    · rename_i hfetch
      exact deliverFault_memOk _ (rollback_memOk (fetchInstr_keepsMem.error hs hfetch).1)
    · rename_i f t hfetch
      have ht : t.MemOk := fetchInstr_keepsMem.ok hs hfetch
      split
      · dsimp only
        split
        · exact memOutcome_refused _
        · split
          · rename_i u hu
            exact ih (exec_memOk (by exact ⟨ht.memory, ht.lines⟩) _ hu)
          · exact memOutcome_fault _
          · exact memOutcome_refused _
      · exact runDecoded_memOk _ _ ht
/-- The instruction at CS:EIP, with its prefixes and its exceptions. -/
theorem runInstruction_memOk {s : State} (hs : s.MemOk) : memOutcome (runInstruction s) :=
  runFetched_memOk _ ⟨hs.memory, hs.lines⟩

/-! The instruction boundary (R498). -/

@[simp] theorem currentIp_keepsMem : currentIp.KeepsMem := by
  refine .get fun s => ?_
  split
  · exact .pure _
  · exact drawWord_keepsMem
@[simp] theorem smiEntry_keepsMem : smiEntry.KeepsMem :=
  .get fun _ => .bind currentIp_keepsMem fun _ => .bind (enterSmm_keepsMem _ _ _ _) fun _ => .view fun _ => rfl
@[simp] theorem shutdownFrame_keepsMem : shutdownFrame.KeepsMem := .quiet fun _ => ⟨_, _, rfl, rfl⟩

/-- RESET empties the cache. -/
theorem State.resetPin_memOk {s : State} (h : s.memoryOk = true) : s.resetPin.MemOk :=
  ⟨h, (State.cacheOk_iff _).1 (State.resetFor_cacheOk s.part)⟩

section
variable {s : State} (hs : s.MemOk)
include hs

theorem State.sampled_memOk (p : Pins) : (s.sampled p).MemOk := by
  have h := State.busDo_memOk hs (p.bus.headD [])
  exact ⟨h.memory, h.lines⟩
/-- At the end of a step other agents do what they still do in it. -/
theorem State.tick_memOk (executed : Bool) : (s.tick executed).MemOk := by
  have h := State.busRest_memOk hs
  exact ⟨h.memory, h.lines⟩
theorem State.flushPin_memOk (p : Pins) : (s.flushPin p).MemOk := by
  unfold State.flushPin
  split
  · exact State.cacheFlush_memOk hs
  · exact hs
/-- RESET in an instruction leaves part of its stores in memory (R640). -/
theorem State.abandoned_memoryOk : s.abandoned.memoryOk = true := by
  have hrest := State.busRest_memOk hs
  unfold State.abandoned
  dsimp only
  split
  · exact hrest.memory
  · split
    · rename_i t ht
      have hdone := (runInstruction_memOk hrest ht).memory
      have hold := hrest.memory
      rw [State.memoryOk, Bool.and_eq_true] at hdone hold ⊢
      exact ⟨Memory.partly_wf _ hold.1 hdone.1, Memory.partly_wf _ hold.2 hdone.2⟩
    · exact hrest.memory
theorem takeNmi_memOk (e : Word) : memOutcome (takeNmi e s) :=
  (deliverAll_memOk _ _ _ _ _ _ (by exact ⟨hs.memory, hs.lines⟩)).mapNext fun _ => State.enteredHandler_memOk
theorem takeNmiShutdown_memOk : memOutcome (takeNmiShutdown s) := by
  unfold takeNmiShutdown
  split
  · rename_i h
    exact takeNmi_memOk (shutdownFrame_keepsMem.ok hs h) _
  · exact memOutcome_next hs
theorem takeIntr_memOk (n : Byte) : memOutcome (takeIntr n s) :=
  (deliverAll_memOk _ _ _ _ _ _ (by exact ⟨hs.memory, hs.lines⟩)).mapNext fun _ => State.enteredHandler_memOk
theorem takeSmi_memOk : memOutcome (takeSmi s) := by
  unfold takeSmi
  split
  · rename_i h
    exact memOutcome_next (State.enteredHandler_memOk (smiEntry_keepsMem.ok hs h))
  · exact memOutcome_refused _
  · rename_i h
    exact deliverFault_memOk _ (rollback_memOk (smiEntry_keepsMem.error hs h).1)

/-! The boundary in its order (R498). -/

theorem boundaryIntr_memOk (p : Pins) : memOutcome (boundaryIntr p s) := by
  have tick : ∀ b, ∀ s : State, s.MemOk → (s.tick b).MemOk := fun b _ h => State.tick_memOk h b
  unfold boundaryIntr
  split
  · exact (takeNmi_memOk hs _).mapNext (tick _)
  split
  · exact (takeNmiShutdown_memOk hs).mapNext (tick _)
  split
  · exact (takeIntr_memOk hs _).mapNext (tick _)
  split
  · exact memOutcome_next (tick _ s hs)
  · exact (runInstruction_memOk hs).mapNext (tick _)
theorem boundaryEvents_memOk (p : Pins) : memOutcome (boundaryEvents p s) := by
  have hflush := State.flushPin_memOk hs p
  unfold boundaryEvents
  split
  · exact (debugException_memOk _ _ _ _ (by exact ⟨hs.memory, hs.lines⟩)).mapNext fun _ h => State.tick_memOk h _
  dsimp only
  split
  · exact (takeSmi_memOk hflush).mapNext fun _ h => State.tick_memOk h _
  · exact boundaryIntr_memOk hflush p
theorem boundaryReset_memOk (p : Pins) : memOutcome (boundaryReset p s) := by
  unfold boundaryReset
  split
  · exact memOutcome_next (State.tick_memOk hs _)
  split
  · exact memOutcome_next (State.tick_memOk (by exact ⟨hs.memory, hs.lines⟩) _)
  split
  · exact memOutcome_next (State.tick_memOk (by exact ⟨hs.memory, hs.lines⟩) _)
  · exact boundaryEvents_memOk (by exact ⟨hs.memory, hs.lines⟩) p
theorem boundary_memOk (p : Pins) : memOutcome (boundary p s) := by
  unfold boundary
  split
  · exact memOutcome_next (State.resetPin_memOk (State.abandoned_memoryOk hs))
  split
  · exact memOutcome_refused _
  · exact boundaryReset_memOk (by exact ⟨hs.memory, hs.lines⟩) p
/-- One step from well formed memories and cache lines. -/
theorem step_memOk : memOutcome (step s) := boundary_memOk (State.sampled_memOk hs _) _
end

/-- Settles O54: every action keeps both memories canonical and the cache lines well formed, where it answers and where it stops,
and so does what other bus agents do in the step. -/
theorem stepKeepsMemory : Obligations.StepKeepsMemory := by
  intro s t hmem hcache hstep
  exact (State.memOk_iff t).1 (step_memOk ((State.memOk_iff s).2 ⟨hmem, hcache⟩) hstep)

end Sys2Proof.Machine
end

section
/-! SUPPORT, and O57. Without alignment checking (CR0.AM = 0) every chain of exceptions ends (R491): its exceptions get closer to
shutdown with each delivery, so that no step ends in the model's fault. -/
namespace Sys2Proof.Machine
open Sys2Proof

/-- The contract of a delivery without alignment checking: CR0.AM stays 0, and its faults are the six of `deliveryFault`. -/
def unalignedContract : Contract where
  inv s := s.cr0.getLsbD 18 = false
  stop
    | .exc e => deliveryFault e = true
    | .refuse _ => True
  frame {s t} h hs := by
    have hcr0 : t.cr0 = s.cr0 := congrArg (fun v => v.2.2.2) h
    rw [hcr0]
    exact hs
  store {s} p v hs := by
    have hcr0 : (s.storeByte p v).cr0 = s.cr0 := congrArg ModeView.cr0 (s.storeByte_modeView p v)
    rw [hcr0]
    exact hs
  bus {s} hs := by
    have hcr0 : s.busNext.cr0 = s.cr0 := congrArg ModeView.cr0 s.busNext_modeView
    rw [hcr0]
    exact hs
  refuse _ := trivial
  raise h := h
  align {s la al} hs h := by
    rw [State.misaligned, hs] at h
    cases h

/-! The length of a chain of exceptions (R491). -/

/-- How many deliveries may follow an event that cannot be delivered: #DF leads to shutdown, a page fault to #DF, a contributory
exception to one of these, any other event to one of all those. -/
def deliveryRank (kind : Kind) (v : Byte) : Nat :=
  if kind = .exception then
    if v = 8#8 then 1 else if v = 14#8 then 2 else if contributory v then 3 else 4
  else 4

theorem deliveryFault_cases {e : Exc} (h : deliveryFault e = true) :
    e.vec = 8#8 ∨ e.vec = 14#8 ∨ contributory e.vec = true := by
  simp only [deliveryFault, List.contains_eq_mem, decide_eq_true_eq, List.mem_cons, List.not_mem_nil, or_false] at h
  rcases h with h | h | h | h | h | h
  · exact .inl h
  · exact .inr (.inr (h ▸ rfl))
  · exact .inr (.inr (h ▸ rfl))
  · exact .inr (.inr (h ▸ rfl))
  · exact .inr (.inr (h ▸ rfl))
  · exact .inr (.inl h)
section
variable {v : Byte}
theorem deliveryRank_external {kind : Kind} (h : kind ≠ .exception) (v : Byte) : deliveryRank kind v = 4 := if_neg h
theorem deliveryRank_pageFault : deliveryRank .exception 14#8 = 2 := rfl
theorem deliveryRank_contributory (h : contributory v = true) : deliveryRank .exception v = 3 := by
  have h8 : v ≠ 8#8 := by rintro rfl; exact absurd h (by decide)
  have h14 : v ≠ 14#8 := by rintro rfl; exact absurd h (by decide)
  rw [deliveryRank, if_pos rfl, if_neg h8, if_neg h14, if_pos h]
theorem deliveryRank_other (h8 : v ≠ 8#8) (h14 : v ≠ 14#8) (h : contributory v ≠ true) : deliveryRank .exception v = 4 := by
  rw [deliveryRank, if_pos rfl, if_neg h8, if_neg h14, if_neg h]
/-- Only what leads to shutdown at once has rank 1. -/
theorem one_lt_deliveryRank {kind : Kind} (h : ¬ (kind = .exception ∧ v = 8#8)) : 1 < deliveryRank kind v := by
  unfold deliveryRank
  split_ifs with hk h8
  · exact absurd ⟨hk, h8⟩ h
  all_goals decide
end
/-- What a fault of a delivery becomes is closer to shutdown than what was to be delivered. -/
theorem second_deliveryRank {kind : Kind} {v : Byte} {x y : Exc} (hx : deliveryFault x = true)
    (h : second kind v x = some y) : deliveryRank .exception y.vec < deliveryRank kind v := by
  simp only [second, Bool.and_eq_true, Bool.or_eq_true, decide_eq_true_eq, beq_iff_eq] at h
  have hdouble : deliveryRank .exception Exc.doubleFault.vec = 1 := rfl
  split_ifs at h with hend hboth hpage
  · cases h
    exact hdouble ▸ one_lt_deliveryRank hend
  · cases h
    exact hdouble ▸ one_lt_deliveryRank hend
  cases h
  by_cases hk : kind = .exception
  swap
  · rw [deliveryRank_external hk]
    rcases deliveryFault_cases hx with h | h | h
    · rw [h]; decide
    · rw [h]; decide
    · rw [deliveryRank_contributory h]; decide
  subst hk
  rcases deliveryFault_cases hx with h | h | h
  · rw [h]
    exact one_lt_deliveryRank hend
  · have h14 : v ≠ 14#8 := fun hv => hpage ⟨⟨rfl, hv⟩, .inr h⟩
    rw [h, deliveryRank_pageFault]
    by_cases hc : contributory v = true
    · rw [deliveryRank_contributory hc]; decide
    · rw [deliveryRank_other (fun hv => hend ⟨rfl, hv⟩) h14 hc]; decide
  · have h14 : v ≠ 14#8 := fun hv => hpage ⟨⟨rfl, hv⟩, .inl h⟩
    have hc : contributory v ≠ true := fun hv => hboth ⟨⟨rfl, hv⟩, h⟩
    rw [deliveryRank_contributory h, deliveryRank_other (fun hv => hend ⟨rfl, hv⟩) h14 hc]
    decide
theorem deliveryRank_le (kind : Kind) (v : Byte) : deliveryRank kind v ≤ 4 := by
  unfold deliveryRank
  split_ifs <;> decide

/-! Outcomes that are no fault of the model. -/

/-- Outcome `o` is a next state or a refusal. -/
def noFault (o : Host.Outcome State Fault Refusal) : Prop := ∀ f, o ≠ .fault f

theorem noFault_next (t : State) : noFault (.next t) := fun _ h => nomatch h
theorem noFault_refused (r : Refusal) : noFault (.refused r) := fun _ h => nomatch h
theorem noFault.mapNext {o : Host.Outcome State Fault Refusal} (h : noFault o) (f : State → State) : noFault (mapNext f o) := by
  cases o with
  | next s => exact noFault_next _
  | fault x => exact absurd rfl (h x)
  | refused r => exact noFault_refused r

/-- A chain of exceptions no longer than its rank ends in a handler or in shutdown. -/
theorem deliverAll_noFault {fuel : Nat} {kind : Kind} {v : Byte} (hfuel : deliveryRank kind v ≤ fuel) (e : Word)
    (c : Option Word16) (fault : Bool) {s : State} (hs : s.cr0.getLsbD 18 = false) :
    noFault (deliverAll fuel kind v e c fault s) := by
  induction fuel generalizing kind v c fault s with
  | zero =>
    have hpos : 0 < deliveryRank kind v := by unfold deliveryRank; split_ifs <;> decide
    omega
  | succ k ih =>
    unfold deliverAll
    split
    · exact noFault_next _
    · exact noFault_refused _
    · rename_i x s2 hrun
      have hstop : deliveryFault x = true := ((deliver_within (R := unalignedContract) _ _ _ _ _).error hs hrun).2
      split
      · exact noFault_next _
      · rename_i y hy
        exact ih (Nat.le_of_lt_succ (Nat.lt_of_lt_of_le (second_deliveryRank hstop hy) hfuel)) _ _ (by exact hs)

section
variable {s : State} (hs : s.cr0.getLsbD 18 = false)
include hs

theorem deliver8_noFault (kind : Kind) (v : Byte) (e : Word) (c : Option Word16) (fault : Bool) :
    noFault (deliverAll deliveryFuel kind v e c fault s) :=
  deliverAll_noFault ((deliveryRank_le kind v).trans (by decide)) e c fault hs
theorem debugException_noFault (hits : BitVec 4) (bs fault : Bool) (e : Word) : noFault (debugException hits bs fault e s) :=
  (deliver8_noFault (by exact hs) _ _ _ _ _).mapNext _
theorem deliverFault_noFault (x : Exc) : noFault (deliverFault x s) := by
  unfold deliverFault
  split
  · exact debugException_noFault hs _ _ _ _
  · exact (deliver8_noFault hs _ _ _ _ _).mapNext _
theorem runInstr_noFault (a : Act Unit) : noFault (runInstr a s) := by
  cases h : a s with
  | ok x t =>
    rw [runInstr_ok h]
    exact noFault_next t
  | error e t =>
    cases e with
    | refuse r =>
      rw [runInstr_refuse h]
      exact noFault_refused r
    | exc x =>
      rw [runInstr_exc h]
      exact deliverFault_noFault (by exact hs) x
theorem waitThen_noFault (part : Act Unit) : noFault (waitThen part s) := by
  unfold waitThen
  split
  · rename_i u s1 h
    have hcr0 : s1.cr0 = s.cr0 := congrArg ModeView.cr0 (waitCheck_keepsMode.view h)
    split
    · exact runInstr_noFault (by rw [← hcr0] at hs; exact hs) part
    · exact noFault_next _
  · exact runInstr_noFault hs _
end

/-- Every instruction is one action, or WAIT with a second instruction. -/
theorem exec_cases (i : Instr) (s : State) : (∃ a, exec i s = runInstr a s) ∨ ∃ part, exec i s = waitThen part s := by
  cases i
  all_goals dsimp only [exec]
  case fsave | fstenv => exact .inr ⟨_, rfl⟩
  all_goals exact .inl ⟨_, rfl⟩
theorem exec_noFault (i : Instr) {s : State} (hs : s.cr0.getLsbD 18 = false) : noFault (exec i s) := by
  obtain ⟨a, h⟩ | ⟨part, h⟩ := exec_cases i s
  · rw [h]
    exact runInstr_noFault hs a
  · rw [h]
    exact waitThen_noFault hs part

/-! Fetching and running an instruction, and the events of the boundary. -/

theorem afterExec_noFault {o : Host.Outcome State Fault Refusal} (h : noFault o) (i : Instr) (start : Word) (n : Nat)
    (tf : Bool) : noFault (afterExec i start n tf o) := by
  cases o with
  | next s =>
    dsimp only [afterExec]
    split_ifs
    · exact noFault_next _
    · exact noFault_refused _
    · exact noFault_next _
  | fault x => exact absurd rfl (h x)
  | refused r => exact noFault_refused r
/-- The fetch of an instruction leaves CR0 as it is. -/
theorem fetchInstr_cr0 {s t : State} {f : Fetched} (h : fetchInstr s = .ok f t) : t.cr0 = s.cr0 :=
  congrArg ModeView.cr0 (fetchInstr_keepsMode.view h)

theorem runDecoded_noFault (i : Instr) (n : Nat) {s : State} (hs : s.cr0.getLsbD 18 = false) : noFault (runDecoded i n s) := by
  unfold runDecoded
  split
  · exact afterExec_noFault (exec_noFault i (by exact hs)) _ _ _ _
  · exact noFault_refused _
  · exact deliverFault_noFault hs _
theorem runFetched_noFault (fuel : Nat) {s : State} (hs : s.cr0.getLsbD 18 = false) : noFault (runFetched fuel s) := by
  induction fuel generalizing s with
  | zero =>
    unfold runFetched
    split
    · exact noFault_refused _
    · exact deliverFault_noFault (by exact hs) _
    · rename_i f t hfetch
      split
      · exact deliverFault_noFault hs _
      · exact runDecoded_noFault _ _ (fetchInstr_cr0 hfetch ▸ hs)
  | succ k ih =>
    unfold runFetched
    split
    · exact noFault_refused _
    · exact deliverFault_noFault (by exact hs) _
    · rename_i f t hfetch
      have ht : t.cr0.getLsbD 18 = false := fetchInstr_cr0 hfetch ▸ hs
      split
      · rename_i hpfx
        dsimp only
        split
        · exact noFault_refused _
        · split
          · rename_i u hu
            have hcr0 : u.cr0 = t.cr0 := congrArg ModeView.cr0 (exec_pfx_modeView hpfx hu)
            exact ih (hcr0 ▸ ht)
          · rename_i x hx
            exact absurd hx (exec_noFault _ (by exact ht) x)
          · exact noFault_refused _
      · exact runDecoded_noFault _ _ ht

section
variable {s : State} (hs : s.cr0.getLsbD 18 = false)
include hs

theorem takeNmi_noFault (e : Word) : noFault (takeNmi e s) := (deliver8_noFault (by exact hs) _ _ _ _ _).mapNext _
theorem takeNmiShutdown_noFault : noFault (takeNmiShutdown s) := by
  unfold takeNmiShutdown
  split
  · rename_i h
    have hcr0 := congrArg ModeView.cr0 (shutdownFrame_keepsMode.view h)
    exact takeNmi_noFault (by rw [← hs]; exact congrArg (fun w => w.getLsbD 18) hcr0) _
  · exact noFault_next _
theorem takeSmi_noFault : noFault (takeSmi s) := by
  unfold takeSmi
  split
  · exact noFault_next _
  · exact noFault_refused _
  · exact deliverFault_noFault (by exact hs) _
theorem boundaryIntr_noFault (p : Pins) : noFault (boundaryIntr p s) := by
  unfold boundaryIntr
  split
  · exact (takeNmi_noFault hs _).mapNext _
  split
  · exact (takeNmiShutdown_noFault hs).mapNext _
  split
  · exact ((deliver8_noFault (by exact hs) _ _ _ _ _).mapNext _).mapNext _
  split
  · exact noFault_next _
  · exact (runFetched_noFault _ (by exact hs)).mapNext _
theorem boundaryEvents_noFault (p : Pins) : noFault (boundaryEvents p s) := by
  have hflush : (s.flushPin p).cr0.getLsbD 18 = false := by
    rw [← hs]
    exact congrArg (fun v => v.cr0.getLsbD 18) (s.flushPin_modeView p)
  unfold boundaryEvents
  split
  · exact (debugException_noFault (by exact hs) _ _ _ _).mapNext _
  dsimp only
  split
  · exact (takeSmi_noFault hflush).mapNext _
  · exact boundaryIntr_noFault hflush p
theorem boundary_noFault (p : Pins) : noFault (boundary p s) := by
  unfold boundary
  split
  · exact noFault_next _
  split
  · exact noFault_refused _
  unfold boundaryReset
  split
  · exact noFault_next _
  split
  · exact noFault_next _
  split
  · exact noFault_next _
  · exact boundaryEvents_noFault (by exact hs) p
end

/-- Settles O57: with CR0.AM = 0 each fault of a delivery has a lower rank than what was to be delivered, and no rank is above the
deliveries that the model follows. -/
theorem stepFaultNeedsAlignment : Obligations.StepFaultNeedsAlignment := by
  intro s f hfault
  by_contra ham
  rw [Bool.not_eq_true] at ham
  exact boundary_noFault (s := s.sampled s.pins) (by rw [State.sampled_cr0]; exact ham) s.pins f hfault

end Sys2Proof.Machine
end

section
/-! SUPPORT, and O16. The load of a segment register in real and V86 mode, by MOV and by POP (R152, R363, R367, R531). -/
namespace Sys2Proof.Machine
open Sys2Proof

/-- What the load makes of a register, in the words of the statement: 16 times the selector is the selector shifted (R152). -/
theorem State.loadReal_eq (s : State) (g : Seg) (sel : Word16) : s.loadReal g sel = s.realSeg g sel := by
  have hbase : sel.setWidth 32 <<< 4 = BitVec.ofNat 32 (16 * sel.toNat) := Seg.v86Load_base sel
  unfold State.loadReal State.realSeg Seg.realLoad
  rw [hbase]
  split <;> rfl
theorem loadSeg_realLike {s : State} (h : s.realLike = true) (r : SegReg) (sel : Word16) :
    loadSeg r sel s = .ok () (s.putSeg r (s.realSeg (s.segs.get r) sel)) := by
  rw [loadSeg, run_bind_ok _ (run_get s), if_pos h, State.loadReal_eq]
  rfl
/-- After a load of SS interrupts wait for one instruction (R658). -/
theorem shadowIfSs_ok (r : SegReg) (s : State) :
    shadowIfSs r s = .ok () { s with shadow := if r = .ss then .ss else s.shadow } := by
  unfold shadowIfSs
  split <;> rfl
theorem pop_ok {sz : OSize} {s t : State} {v : Word} (h : peekStack sz 0 s = .ok v t) : pop sz s = .ok v (t.popped sz 1 0) := by
  rw [pop, run_bind_ok _ h, run_bind_ok _ (dropStack_ok sz 1 0 t)]
  rfl
/-- Loading a register, whatever the selector was read by. -/
theorem loadThenShadow_realLike {s : State} (h : s.realLike = true) (r : SegReg) (sel : Word16) :
    (loadSeg r sel >>= fun _ => shadowIfSs r) s =
      .ok () { s.putSeg r (s.realSeg (s.segs.get r) sel) with shadow := if r = .ss then .ss else s.shadow } := by
  rw [run_bind_ok _ (loadSeg_realLike h r sel), shadowIfSs_ok]
  rfl

/-- Settles O16: MOV and POP read the selector, and load the register as `State.realSeg` says. -/
theorem realSegmentLoad : Obligations.RealSegmentLoad := by
  intro i r s s1 sel hload _ hreal
  have hrun := loadThenShadow_realLike hreal r sel
  rcases hload with ⟨e, rfl, hread⟩ | ⟨sz, s0, v, hmem, hpeek, rfl, rfl⟩
  · exact runInstr_ok ((run_bind_ok _ hread).trans hrun)
  · have hexec : exec i s = runInstr (popSeg sz r) s := by
      simp only [List.mem_cons, Prod.mk.injEq, List.not_mem_nil, or_false] at hmem
      rcases hmem with ⟨rfl, rfl⟩ | ⟨rfl, rfl⟩ | ⟨rfl, rfl⟩ | ⟨rfl, rfl⟩ | ⟨rfl, rfl⟩ <;> rfl
    rw [hexec]
    exact runInstr_ok ((run_bind_ok _ (pop_ok hpeek)).trans hrun)

end Sys2Proof.Machine
end

section
/-! SUPPORT, and O6, O7. XADD, XCHG and CMPXCHG (R295, R296, R372): on places that no other agent touches, and on a byte of memory
between whose read and write other agents act unless LOCK# is asserted (R163, R280). -/
namespace Sys2Proof.Machine
open Sys2Proof

/-! What other bus agents do has nothing to do with the flags. -/

section
variable (s : State) (f : Flags)
theorem State.setMainByte_flags (a : Word) (v : Byte) :
    ({ s with flags := f } : State).setMainByte a v = { s.setMainByte a v with flags := f } := by
  unfold State.setMainByte
  by_cases h : s.part.ram a = true
  · rw [if_pos h, if_pos h]
  · rw [if_neg h, if_neg h]
theorem State.setMainBytes_flags (a : Word) (bs : List Byte) :
    ({ s with flags := f } : State).setMainBytes a bs = { s.setMainBytes a bs with flags := f } := by
  induction bs generalizing s a with
  | nil => rfl
  | cons b rest ih =>
    rw [State.setMainBytes, State.setMainByte_flags, ih]
    rfl
theorem State.writeBackSector_flags (k i : Nat) (l : CacheLine) :
    ({ s with flags := f } : State).writeBackSector k i l = { s.writeBackSector k i l with flags := f } := by
  unfold State.writeBackSector
  by_cases hmod : ((if i = 0 then l.mesi0 else l.mesi1) == 0x8#4) = true
  · rw [if_pos hmod, if_pos hmod]
    by_cases hsmi : l.smi = true
    · rw [if_pos hsmi, if_pos hsmi]
    · rw [if_neg hsmi, if_neg hsmi]
      exact s.setMainBytes_flags f _ _
  · rw [if_neg hmod, if_neg hmod]
theorem State.inquiryWriteBack_flags (a : Word) :
    ({ s with flags := f } : State).inquiryWriteBack a = { s.inquiryWriteBack a with flags := f } := by
  unfold State.inquiryWriteBack
  cases s.cache.hit false false a with
  | none => rfl
  | some e => exact s.writeBackSector_flags f _ _ _
theorem State.busRead_flags (a : Word) : ({ s with flags := f } : State).busRead a = { s.busRead a with flags := f } := by
  rw [State.busRead, State.inquiryWriteBack_flags]
  rfl
theorem State.busWrite_flags (a : Word) (v : Byte) :
    ({ s with flags := f } : State).busWrite a v = { s.busWrite a v with flags := f } := by
  rw [State.busWrite, State.inquiryWriteBack_flags, State.setMainByte_flags]
  rfl
theorem State.busDo_flags (es : List BusEvent) :
    ({ s with flags := f } : State).busDo es = { s.busDo es with flags := f } := by
  induction es generalizing s with
  | nil => rfl
  | cons e rest ih =>
    cases e with
    | read a =>
      rw [State.busDo, State.busRead_flags, ih]
      rfl
    | write a v =>
      rw [State.busDo, State.busWrite_flags, ih]
      rfl
end
theorem State.busNext_nil {s : State} (h : s.bus = []) : s.busNext = s := by rw [State.busNext, h]
theorem State.busNext_cons {s : State} {es : List BusEvent} {rest : List (List BusEvent)} (h : s.bus = es :: rest) :
    s.busNext = ({ s with bus := rest } : State).busDo es := by rw [State.busNext, h]
theorem State.busNext_flags (s : State) (f : Flags) :
    ({ s with flags := f } : State).busNext = { s.busNext with flags := f } := by
  by_cases hbus : s.bus = []
  · rw [State.busNext_nil hbus, State.busNext_nil (s := { s with flags := f }) hbus]
  · obtain ⟨es, rest, hbus⟩ := List.exists_cons_of_ne_nil hbus
    rw [State.busNext_cons hbus, State.busNext_cons (s := { s with flags := f }) hbus]
    exact State.busDo_flags { s with bus := rest } f es
@[simp] theorem State.busNext_cfg (s : State) : s.busNext.cfg = s.cfg := by
  obtain ⟨_, _, _, _, h⟩ := s.busNext_eq; rw [h]
@[simp] theorem State.busNext_regs (s : State) : s.busNext.regs = s.regs := by
  obtain ⟨_, _, _, _, h⟩ := s.busNext_eq; rw [h]
@[simp] theorem State.busNext_keepsFlags (s : State) : s.busNext.flags = s.flags := by
  obtain ⟨_, _, _, _, h⟩ := s.busNext_eq; rw [h]
@[simp] theorem State.busNext_storeOk (s : State) (pas : List PA) : s.busNext.storeOk pas = s.storeOk pas := by
  obtain ⟨_, _, _, _, h⟩ := s.busNext_eq; rw [h]; rfl

/-! An access of one byte (R149, R163): other agents have the bus before the read, and before the write without LOCK#. -/

theorem indivisible_single (p : PA) : indivisible [p] = true := by simp [indivisible, Nat.mod_one]
theorem busPoint_true (s : State) : busPoint true s = .ok () s.busNext := rfl
theorem State.storeOk_single {s : State} {p : PA} (h : s.storeOk [p] = true) :
    s.cfg.anyRegionBad = false ∧ s.writeProtected p = false := by simpa [State.storeOk] using h
theorem readPlace_single {s : State} (h : s.cfg.anyRegionBad = false) (p : PA) :
    readPlace 8 (.mem [p]) s = .ok (s.busNext.physByte p.addr) s.busNext := by
  have hbad : s.busNext.cfg.anyRegionBad = false := by rw [State.busNext_cfg]; exact h
  have hread : physRead [p] s = .ok [s.busNext.physByte p.addr] s.busNext := by
    rw [physRead, indivisible_single, run_bind_ok _ (busPoint_true s)]
    exact run_bind_ok _ (physReadByte_ok hbad p.addr)
  rw [readPlace, run_bind_ok _ hread]
  simp [leNat]
/-- The state in which a byte is written: other agents have acted, unless the access is locked. -/
def State.beforeWrite (s : State) (p : PA) : State := if p.lock then s else s.busNext
theorem writePlace_single {s : State} {p : PA} (h : s.storeOk [p] = true) (v : Byte) :
    writePlace (.mem [p]) v s = .ok () ((s.beforeWrite p).storeByte p v) := by
  have hpoint : busPoint (indivisible [p] && !lockHeld [p]) s = .ok () (s.beforeWrite p) := by
    cases hl : p.lock <;> simp [indivisible_single, lockHeld, hl, State.beforeWrite, busPoint]
  have hok : (s.beforeWrite p).storeOk [p] = true := by
    unfold State.beforeWrite
    split
    · exact h
    · rw [State.busNext_storeOk]; exact h
  obtain ⟨hbad, hprot⟩ := State.storeOk_single hok
  have hbytes : bytesOf (8 / 8) v.toNat = [v] := by simp [bytesOf]
  rw [writePlace, hbytes, physWrite, run_bind_ok _ hpoint, indivisible_single]
  exact run_bind_ok _ (physWriteByte_ok hbad hprot v)
theorem State.beforeWrite_flags (s : State) (f : Flags) (p : PA) :
    ({ s with flags := f } : State).beforeWrite p = { s.beforeWrite p with flags := f } := by
  unfold State.beforeWrite
  split
  · rfl
  · exact s.busNext_flags f

@[simp] theorem State.storeOk_flags (s : State) (f : Flags) (pas : List PA) :
    ({ s with flags := f } : State).storeOk pas = s.storeOk pas := rfl
@[simp] theorem State.beforeWrite_keepsFlags (s : State) (p : PA) : (s.beforeWrite p).flags = s.flags := by
  unfold State.beforeWrite
  split
  · rfl
  · exact s.busNext_keepsFlags

/-! Which addresses carry LOCK# (R163): those of an instruction under LOCK, where locking is strong. -/

theorem physAddrs_lock {la : Word} {x1 x2 : Xlat} {page : BitVec 20} {n : Nat} {q : PA} (h : q ∈ physAddrs la x1 x2 page n) :
    q.lock = false := by
  induction n generalizing la with
  | zero => cases h
  | succ n ih =>
    rcases List.mem_cons.1 h with rfl | h
    · rfl
    · exact ih h
/-- What a check of a linear access goes through: the translations, the marks, and the addresses. -/
theorem linAccess_inv {la : Word} {n : Nat} {kind : Acc} {user : Bool} {al : Nat} {s t : State} {pas : List PA}
    (h : linAccess la n kind user al s = .ok pas t) : ∃ x1 x2 u, linXlat la n kind user s = .ok (x1, x2) u ∧
      ((x2 = none ∧ commitXlat la kind x1 u = .ok () t ∧ pas = physAddrs la x1 x1 (la.extractLsb' 12 20) n) ∨
      ∃ x v, x2 = some x ∧ commitXlat la kind x1 u = .ok () v ∧ commitXlat (lastPage la n ++ 0#12) kind x v = .ok () t ∧
        pas = physAddrs la x1 x (la.extractLsb' 12 20) n) := by
  obtain ⟨⟨x1, x2⟩, u, hx, h⟩ := run_bind_ok_iff.1 h
  refine ⟨x1, x2, u, hx, ?_⟩
  obtain ⟨w, _, hget, h⟩ := run_bind_ok_iff.1 h
  cases hget
  by_cases hmis : u.misaligned la al = true
  · rw [if_pos hmis] at h
    cases h
  rw [if_neg hmis] at h
  obtain ⟨⟨⟩, v, hc, h⟩ := run_bind_ok_iff.1 h
  cases x2 with
  | none =>
    cases h
    exact .inl ⟨rfl, hc, rfl⟩
  | some x =>
    obtain ⟨⟨⟩, w, hc', h⟩ := run_bind_ok_iff.1 h
    cases h
    exact .inr ⟨x, v, rfl, hc, hc', rfl⟩
theorem linAccess_lock {la : Word} {n : Nat} {kind : Acc} {user : Bool} {al : Nat} {s t : State} {pas : List PA}
    (h : linAccess la n kind user al s = .ok pas t) {q : PA} (hq : q ∈ pas) : q.lock = false := by
  obtain ⟨x1, x2, u, -, ⟨-, -, rfl⟩ | ⟨x, v, -, -, -, rfl⟩⟩ := linAccess_inv h
  · exact physAddrs_lock hq
  · exact physAddrs_lock hq
/-- What a program access through a segment goes through (R206, R591, R163). -/
theorem segAccess_inv {r : SegReg} {off : Word} {n : Nat} {kind : Acc} {al : Nat} {s t : State} {pas : List PA}
    (h : segAccess r off n kind al s = .ok pas t) : ∃ qs u,
      linAccess ((s.segs.get r).base + off) n kind (s.cpl == 3#2) al s = .ok qs u ∧
      t = { u with cur := { u.cur with hits := u.cur.hits ||| u.dataHits ((s.segs.get r).base + off) n kind } } ∧
      pas = if t.cur.pfx.lock then t.lockPas qs else qs := by
  obtain ⟨la, v, hcheck, h⟩ := run_bind_ok_iff.1 h
  obtain ⟨rfl, rfl, -⟩ := segCheck_inv hcheck
  rw [run_bind_ok _ (run_get v)] at h
  obtain ⟨qs, u, hlin, h⟩ := run_bind_ok_iff.1 h
  cases h
  exact ⟨qs, u, hlin, rfl, rfl⟩
theorem State.strongLock_iff (s : State) (a : Word) :
    s.strongLock a = true ↔ s.cfg.ccr1.getLsbD 4 = false ∧ s.cfg.effWl a = false := by
  rw [State.strongLock, Bool.and_eq_true, Bool.not_eq_true', Bool.not_eq_true']
/-- An operand's byte carries LOCK# under LOCK and strong locking. -/
theorem locateMem_lock_iff {m : Mem} {n al : Nat} {kind : Acc} {s t : State} {pas : List PA}
    (h : locateMem m n al kind s = .ok pas t) {p : PA} (hp : p ∈ pas) :
    p.lock = true ↔ s.cur.pfx.lock = true ∧ t.cfg.ccr1.getLsbD 4 = false ∧ t.cfg.effWl p.addr = false := by
  rw [locateMem, run_bind_ok _ (run_get s)] at h
  have hpfx : t.cur.pfx = s.cur.pfx := by rw [segAccess_accessOnly _ _ _ _ _ h]
  obtain ⟨qs, u, hlin, ht, rfl⟩ := segAccess_inv h
  rw [hpfx] at hp
  by_cases hlock : s.cur.pfx.lock = true
  · rw [if_pos hlock] at hp
    obtain ⟨q, -, rfl⟩ := List.mem_map.1 hp
    exact (t.strongLock_iff q.addr).trans (and_iff_right hlock).symm
  · rw [if_neg hlock] at hp
    simp [linAccess_lock hlin hp, hlock]

/-! XCHG takes its place under LOCK (R149). -/

theorem State.lockPlace_readable (s t : State) (p : Place) : s.placeReadable (t.lockPlace p) = s.placeReadable p := by
  cases p <;> rfl
theorem State.lockPlace_value (n : Nat) (s t : State) (p : Place) :
    s.placeValue n (t.lockPlace p) = s.placeValue n p := by
  cases p with
  | reg r => rfl
  | reg8 r => rfl
  | mem pas =>
    have haddr : addrs (t.lockPas pas) = addrs pas := by simp [addrs, State.lockPas]
    show BitVec.ofNat n _ = BitVec.ofNat n _
    rw [haddr]

/-! The instructions on a place that no other agent touches. -/

section
variable {s s1 : State} {p : Place} (hr : s1.placeReadable p = true)
include hr

section
variable {d : RM8} (hl : locate8 d .write s = .ok p s1)
include hl
theorem exec_xaddEbGb (r : Reg8) (hw : s1.placeWritable p = true) :
    exec (.xaddEbGb d r) s = .next (((aluNext .add (s1.placeValue 8 p) (s1.regs.get8 r) s1).2.putReg8 r
      (s1.placeValue 8 p)).putPlace p (aluNext .add (s1.placeValue 8 p) (s1.regs.get8 r) s1).1) := by
  refine runInstr_ok ?_
  rw [run_bind_ok _ hl, run_bind_ok _ (readPlace_ok 8 hr), run_bind_ok _ (run_getReg8 r s1), run_bind_ok _ (addA_ok _ _ s1),
    run_bind_ok _ (run_setReg8 r _ _)]
  exact writePlace_ok (by simp [hw]) _
theorem exec_xchgEbGb (r : Reg8) (hw : s1.placeWritable (s1.lockPlace p) = true) :
    exec (.xchgEbGb d r) s =
      .next ((s1.putPlace (s1.lockPlace p) (s1.regs.get8 r)).putReg8 r (s1.placeValue 8 p)) := by
  refine runInstr_ok ?_
  rw [run_bind_ok _ hl, run_bind_ok _ (run_get s1), run_bind_ok _ (readPlace_ok 8 (by rwa [State.lockPlace_readable])),
    run_bind_ok _ (run_getReg8 r s1), run_bind_ok _ (writePlace_ok hw _), State.lockPlace_value]
  rfl
theorem exec_cmpxchgEbGb (r : Reg8) (hw : s1.placeWritable p = true) :
    exec (.cmpxchgEbGb d r) s =
      .next (if s1.regs.get8 .al = s1.placeValue 8 p then
        (aluNext .sub (s1.regs.get8 .al) (s1.placeValue 8 p) s1).2.putPlace p (s1.regs.get8 r)
      else ((aluNext .sub (s1.regs.get8 .al) (s1.placeValue 8 p) s1).2.putPlace p (s1.placeValue 8 p)).putReg8 .al
        (s1.placeValue 8 p)) := by
  refine runInstr_ok ?_
  rw [run_bind_ok _ hl, run_bind_ok _ (readPlace_ok 8 hr), run_bind_ok _ (run_getReg8 .al s1),
    run_bind_ok _ (subA_ok _ _ s1)]
  by_cases heq : s1.regs.get8 .al = s1.placeValue 8 p
  · rw [if_pos heq, if_pos heq, run_bind_ok _ (run_getReg8 r _)]
    exact writePlace_ok (by simp [hw]) _
  · rw [if_neg heq, if_neg heq, run_bind_ok _ (writePlace_ok (by simp [hw]) _)]
    rfl
end

section
variable {sz : OSize} {d : RMv} (hl : locateV sz d .write s = .ok p s1)
include hl
theorem exec_xaddEvGv (r : Reg) (hw : s1.placeWritable p = true) :
    exec (.xaddEvGv sz d r) s =
      .next (((aluNext .add (s1.placeValue (osBits sz) p) ((s1.regs.get r).setWidth (osBits sz)) s1).2.putReg r
        (s1.placeValue (osBits sz) p)).putPlace p
        (aluNext .add (s1.placeValue (osBits sz) p) ((s1.regs.get r).setWidth (osBits sz)) s1).1) := by
  refine runInstr_ok ?_
  rw [run_bind_ok _ hl, run_bind_ok _ (readPlace_ok _ hr), run_bind_ok _ (run_getRegV sz r s1), run_bind_ok _ (addA_ok _ _ s1),
    run_bind_ok _ (run_setRegN r _ _)]
  exact writePlace_ok (by simp [hw]) _
theorem exec_xchgEvGv (r : Reg) (hw : s1.placeWritable (s1.lockPlace p) = true) :
    exec (.xchgEvGv sz d r) s =
      .next ((s1.putPlace (s1.lockPlace p) ((s1.regs.get r).setWidth (osBits sz))).putReg r
        (s1.placeValue (osBits sz) p)) := by
  refine runInstr_ok ?_
  rw [run_bind_ok _ hl, run_bind_ok _ (run_get s1), run_bind_ok _ (readPlace_ok _ (by rwa [State.lockPlace_readable])),
    run_bind_ok _ (run_getRegV sz r s1), run_bind_ok _ (writePlace_ok hw _), State.lockPlace_value]
  rfl
theorem exec_cmpxchgEvGv (r : Reg) (hw : s1.placeWritable p = true) :
    exec (.cmpxchgEvGv sz d r) s =
      .next (if s1.regs.eax.setWidth (osBits sz) = s1.placeValue (osBits sz) p then
        (aluNext .sub (s1.regs.eax.setWidth (osBits sz)) (s1.placeValue (osBits sz) p) s1).2.putPlace p
          ((s1.regs.get r).setWidth (osBits sz))
      else ((aluNext .sub (s1.regs.eax.setWidth (osBits sz)) (s1.placeValue (osBits sz) p) s1).2.putPlace p
        (s1.placeValue (osBits sz) p)).putReg .eax (s1.placeValue (osBits sz) p)) := by
  refine runInstr_ok ?_
  rw [run_bind_ok _ hl, run_bind_ok _ (readPlace_ok _ hr), run_bind_ok _ (run_getRegV sz .eax s1),
    run_bind_ok _ (subA_ok _ _ s1)]
  by_cases heq : s1.regs.eax.setWidth (osBits sz) = s1.placeValue (osBits sz) p
  · rw [if_pos heq]
    refine (congrFun (if_pos heq) _).trans ?_
    rw [run_bind_ok _ (run_getRegV sz r _)]
    exact writePlace_ok (by simp [hw]) _
  · rw [if_neg heq]
    refine (congrFun (if_neg heq) _).trans ?_
    rw [run_bind_ok _ (writePlace_ok (by simp [hw]) _)]
    rfl
end
end

/-! The instructions on a byte of memory, other agents acting. -/

section
variable {m : Mem} {s s1 : State} {p : PA} (hl : locateMem m 1 1 .write s = .ok [p] s1)
include hl

theorem locate8_mem : locate8 (.mem m) .write s = .ok (.mem [p]) s1 := run_bind_ok _ hl
theorem exec_xchgEbGb_single (r : Reg8) {q : PA} (hq : s1.lockPas [p] = [q]) (hok : s1.storeOk [q] = true) :
    exec (.xchgEbGb (.mem m) r) s = .next (((s1.busNext.beforeWrite q).storeByte q (s1.regs.get8 r)).putReg8 r
      (s1.busNext.physByte q.addr)) := by
  refine runInstr_ok ?_
  have hok' : s1.busNext.storeOk [q] = true := by rw [State.busNext_storeOk]; exact hok
  have hplace : s1.lockPlace (.mem [p]) = .mem [q] := congrArg Place.mem hq
  rw [run_bind_ok _ (locate8_mem hl), run_bind_ok _ (run_get s1), hplace,
    run_bind_ok _ (readPlace_single (State.storeOk_single hok).1 q), run_bind_ok _ (run_getReg8 r _),
    run_bind_ok _ (writePlace_single hok' _), State.busNext_regs]
  rfl
theorem exec_incEb_single (hok : s1.storeOk [p] = true) :
    exec (.incEb (.mem m)) s = .next (({ s1.busNext.beforeWrite p with
      flags := { (addFlags (s1.busNext.physByte p.addr) 1#8 false s1.flags).2 with cf := s1.flags.cf } }).storeByte p
      (s1.busNext.physByte p.addr + 1#8)) := by
  refine runInstr_ok ?_
  have hinc : incA (s1.busNext.physByte p.addr) s1.busNext = .ok (s1.busNext.physByte p.addr + 1#8)
      { s1.busNext with
        flags := { (addFlags (s1.busNext.physByte p.addr) 1#8 false s1.flags).2 with cf := s1.flags.cf } } := by
    rw [← State.busNext_keepsFlags s1]
    refine congrArg (EStateM.Result.ok · _) ?_
    show _ + 1#8 + (BitVec.ofBool false).setWidth 8 = _
    simp
  rw [rmw8, run_bind_ok _ (locate8_mem hl), run_bind_ok _ (readPlace_single (State.storeOk_single hok).1 p),
    run_bind_ok _ hinc, writePlace_single (by rw [State.storeOk_flags, State.busNext_storeOk]; exact hok),
    State.beforeWrite_flags]
theorem exec_cmpxchgEbGb_single (r : Reg8) (hok : s1.storeOk [p] = true) :
    exec (.cmpxchgEbGb (.mem m) r) s =
      .next (if s1.regs.get8 .al = s1.busNext.physByte p.addr then
        (aluNext .sub (s1.regs.get8 .al) (s1.busNext.physByte p.addr) (s1.busNext.beforeWrite p)).2.storeByte p
          (s1.regs.get8 r)
      else ((aluNext .sub (s1.regs.get8 .al) (s1.busNext.physByte p.addr) (s1.busNext.beforeWrite p)).2.storeByte p
        (s1.busNext.physByte p.addr)).putReg8 .al (s1.busNext.physByte p.addr)) := by
  have hwrite (a b v : Byte) : writePlace (.mem [p]) v (aluNext .sub a b s1.busNext).2 =
      .ok () ((aluNext .sub a b (s1.busNext.beforeWrite p)).2.storeByte p v) := by
    have hstate : (aluNext .sub a b s1.busNext).2.beforeWrite p = (aluNext .sub a b (s1.busNext.beforeWrite p)).2 := by
      rw [aluNext, State.beforeWrite_flags, aluNext, State.beforeWrite_keepsFlags]
    rw [writePlace_single (by rw [aluNext, State.storeOk_flags, State.busNext_storeOk]; exact hok), hstate]
  refine runInstr_ok ?_
  rw [run_bind_ok _ (locate8_mem hl), run_bind_ok _ (readPlace_single (State.storeOk_single hok).1 p),
    run_bind_ok _ (run_getReg8 .al _), run_bind_ok _ (subA_ok _ _ _), State.busNext_regs]
  by_cases heq : s1.regs.get8 .al = s1.busNext.physByte p.addr
  · rw [if_pos heq, if_pos heq, run_bind_ok _ (run_getReg8 r _), hwrite]
    show _ = EStateM.Result.ok () (State.storeByte _ p (s1.regs.get8 r))
    rw [← State.busNext_regs s1]
    rfl
  · rw [if_neg heq, if_neg heq, run_bind_ok _ (hwrite _ _ _)]
    rfl
end

/-! Two turns of the other agents on the bus: before the read, and before the write of an access without LOCK#. -/

section
variable {s t1 t2 : State} {e1 e2 : List BusEvent} {rest : List (List BusEvent)} (hbus : s.bus = e1 :: e2 :: rest)
include hbus
theorem State.busNext_busNext :
    s.busNext.busNext = ({ ({ s with bus := e2 :: rest } : State).busDo e1 with bus := rest } : State).busDo e2 := by
  rw [State.busNext_cons hbus]
  exact State.busNext_cons (State.busDo_bus _ _)
theorem State.busNext_beforeWrite (p : PA) :
    s.busNext.beforeWrite p = if p.lock then ({ s with bus := e2 :: rest } : State).busDo e1
      else ({ ({ s with bus := e2 :: rest } : State).busDo e1 with bus := rest } : State).busDo e2 := by
  rw [State.beforeWrite, State.busNext_busNext hbus, State.busNext_cons hbus]
end

/-- Settles O6: the instruction run on its two operands; on a byte of memory by the turns of the other agents. -/
theorem exchangeForms : Obligations.ExchangeForms := by
  refine ⟨fun d r s s1 p hl hr => ⟨exec_xaddEbGb hr hl r, exec_xchgEbGb hr hl r⟩,
    fun sz d r s s1 p hl hr => ⟨exec_xaddEvGv hr hl r, exec_xchgEvGv hr hl r⟩,
    fun sz r s => runInstr_ok rfl, fun m r s s1 p e1 e2 rest hl hbus => ?_⟩
  refine ⟨locateMem_lock_iff hl (List.mem_singleton_self p), fun hok => ?_, fun hok => ?_⟩
  · have hstrong : s1.strongLock p.addr = decide (s1.cfg.ccr1.getLsbD 4 = false ∧ s1.cfg.effWl p.addr = false) :=
      Bool.eq_iff_iff.2 ((s1.strongLock_iff p.addr).trans decide_eq_true_iff.symm)
    rw [exec_xchgEbGb_single hl r (by rw [← hstrong]; rfl) hok, State.busNext_beforeWrite hbus, State.busNext_cons hbus]
    simp only [decide_eq_true_eq]
  · rw [exec_incEb_single hl hok, State.busNext_beforeWrite hbus, State.busNext_cons hbus]

/-- Settles O7: the comparison run on its two operands; on a byte of memory by the turns of the other agents. -/
theorem compareExchange : Obligations.CompareExchange := by
  refine ⟨fun d r s s1 p hl hr hw => exec_cmpxchgEbGb hr hl r hw, fun sz d r s s1 p hl hr hw => exec_cmpxchgEvGv hr hl r hw,
    fun m r s s1 p e1 e2 rest hl hbus hok => ⟨locateMem_lock_iff hl (List.mem_singleton_self p), ?_⟩⟩
  rw [exec_cmpxchgEbGb_single hl r hok, State.busNext_beforeWrite hbus, State.busNext_cons hbus]

end Sys2Proof.Machine
end

section
/-! SUPPORT, and O29. IN and OUT of external ports (R381, R382), and the I/O permission map of a 32-bit TSS bit by bit (R530). -/
namespace Sys2Proof.Machine
open Sys2Proof

/-! One access, permitted or not (R143). -/

section
variable {port : Word16} {n : Nat} {s t : State}
theorem inPort_external (hp : ioPermit port n s = .ok () t) (h : externalPort port n = true) :
    inPort port n s = .ok (t.portValue port n) (t.portRead port n none) :=
  (run_bind_ok _ hp).trans (ioRead_external none h)
theorem outPort_external (hp : ioPermit port n s = .ok () t) (h : externalPort port n = true) (v : Word) :
    outPort port n v s = .ok () (t.portWritten port n v none) :=
  (run_bind_ok _ hp).trans (ioWrite_external none h v)
theorem inPort_denied {x : Stop} (hp : ioPermit port n s = .error x t) : inPort port n s = .error x t := run_bind_error _ hp
theorem outPort_denied {x : Stop} (hp : ioPermit port n s = .error x t) (v : Word) : outPort port n v s = .error x t :=
  run_bind_error _ hp
end

/-- An instruction whose access is not permitted raises the exception, the port being in the instruction or in DX. -/
theorem exec_port_denied {s t : State} {x : Exc} {sz : OSize} {p : Byte} {i : Instr} {port : Word16} {n : Nat}
    (hi : (i, port, n) ∈ [(Instr.inAlIb p, p.setWidth 16, 1), (.outIbAl p, p.setWidth 16, 1),
      (.inAxIb sz p, p.setWidth 16, osBytes sz), (.outIbAx sz p, p.setWidth 16, osBytes sz),
      (.inAlDx, s.regs.edx.setWidth 16, 1), (.outDxAl, s.regs.edx.setWidth 16, 1),
      (.inAxDx sz, s.regs.edx.setWidth 16, osBytes sz), (.outDxAx sz, s.regs.edx.setWidth 16, osBytes sz)])
    (hp : ioPermit port n s = .error (.exc x) t) : exec i s = deliverFault x (rollback s t) := by
  have hin := inPort_denied hp
  have hout := outPort_denied hp
  simp only [List.mem_cons, Prod.mk.injEq, List.not_mem_nil, or_false] at hi
  rcases hi with ⟨rfl, rfl, rfl⟩ | ⟨rfl, rfl, rfl⟩ | ⟨rfl, rfl, rfl⟩ | ⟨rfl, rfl, rfl⟩ | ⟨rfl, rfl, rfl⟩ |
    ⟨rfl, rfl, rfl⟩ | ⟨rfl, rfl, rfl⟩ | ⟨rfl, rfl, rfl⟩
  case inl => exact runInstr_exc (run_bind_error _ hin)
  case inr.inl => exact runInstr_exc (hout _)
  case inr.inr.inl => exact runInstr_exc (run_bind_error _ hin)
  case inr.inr.inr.inl => exact runInstr_exc (hout _)
  case inr.inr.inr.inr.inl => exact runInstr_exc ((run_bind_ok _ (run_portDx s)).trans (run_bind_error _ hin))
  case inr.inr.inr.inr.inr.inl => exact runInstr_exc (hout _)
  case inr.inr.inr.inr.inr.inr.inl => exact runInstr_exc ((run_bind_ok _ (run_portDx s)).trans (run_bind_error _ hin))
  case inr.inr.inr.inr.inr.inr.inr => exact runInstr_exc (hout _)

/-! The permission map, with paging off (R530). -/

theorem State.ioFree_iff (s : State) :
    s.ioFree = true ↔ s.pe = false ∨ s.flags.vm = false ∧ s.cpl ≤ s.flags.iopl := by simp [State.ioFree]
theorem ioPermit_free {s : State} (h : s.ioFree = true) (port : Word16) (n : Nat) : ioPermit port n s = .ok () s := by
  rw [ioPermit, run_bind_ok _ (run_get s), h]
  rfl
theorem ioPermit_map {s : State} (h : s.ioFree = false) (port : Word16) (n : Nat) :
    ioPermit port n s = ioMapCheck port n s := by
  rw [ioPermit, run_bind_ok _ (run_get s), h]
  rfl

section
variable {s : State} (hpg : s.pg = false) (hr : s.readOk = true)
include hpg hr

theorem linRead_off (la : Word) {n : Nat} (hn : n ≤ 4096) : linRead la n s = .ok (leNat (s.bytesAt (paRange la n))) s := by
  have hal : s.misaligned la 1 = false := by simp [State.misaligned, Nat.mod_one]
  rw [linRead, run_bind_ok _ (linAccess_off hpg la hn .read false 1 hal), run_bind_ok _ (physRead_ok hr _), addrs_plain]
  rfl
theorem linRead_byte_off (la : Word) : linRead la 1 s = .ok (s.physByte la).toNat s := by
  rw [linRead_off hpg hr la (by decide)]
  simp [paRange, State.bytesAt, leNat]
/-- The bits from number k are walked one after the other, each in its byte. -/
theorem ioMapAllows_off (base : Word) (k n : Nat) : ioMapAllows base k n s =
    if ∃ j, j < n ∧ (s.physByte (base + BitVec.ofNat 32 ((k + j) / 8))).getLsbD ((k + j) % 8) = true then
      .error (.exc (.gp 0#16)) s
    else .ok () s := by
  induction n generalizing k with
  | zero => simp [ioMapAllows]
  | succ m ih =>
    have hsplit : (∃ j, j < m + 1 ∧ (s.physByte (base + BitVec.ofNat 32 ((k + j) / 8))).getLsbD ((k + j) % 8) = true) ↔
        (s.physByte (base + BitVec.ofNat 32 (k / 8))).getLsbD (k % 8) = true ∨
        ∃ j, j < m ∧ (s.physByte (base + BitVec.ofNat 32 ((k + 1 + j) / 8))).getLsbD ((k + 1 + j) % 8) = true := by
      constructor
      · rintro ⟨_ | j, hj, hbit⟩
        · exact .inl hbit
        · exact .inr ⟨j, by omega, by rwa [Nat.add_assoc, Nat.add_comm 1 j]⟩
      · rintro (hbit | ⟨j, hj, hbit⟩)
        · exact ⟨0, by omega, hbit⟩
        · exact ⟨j + 1, by omega, by rwa [Nat.add_assoc, Nat.add_comm 1 j] at hbit⟩
    rw [ioMapAllows, run_bind_ok _ (linRead_byte_off hpg hr _), BitVec.ofNat_toNat, BitVec.setWidth_eq]
    by_cases hbit : (s.physByte (base + BitVec.ofNat 32 (k / 8))).getLsbD (k % 8) = true
    · rw [run_check_raise hbit, if_pos (hsplit.2 (.inl hbit))]
    · refine ((run_check_pass hbit).trans (ih (k + 1))).trans ?_
      exact if_congr ((or_iff_right hbit).symm.trans hsplit.symm) rfl rfl
/-- The map of a 32-bit TSS: its offset word, its bounds, and the bits of the access. -/
theorem ioMapCheck_off (port : Word16) (n : Nat) :
    let mb := leNat (s.bytesAt (paRange (s.tr.base + 0x66#32) 2))
    let denied := s.tr.attr.typ = 1#4 ∨ s.tr.attr.typ = 3#4 ∨ s.tr.limit.toNat < 0x67 ∨
      s.tr.limit.toNat < mb + (port.toNat + n - 1) / 8 ∨
      ∃ j, j < n ∧
        (s.physByte (s.tr.base + BitVec.ofNat 32 (mb + (port.toNat + j) / 8))).getLsbD ((port.toNat + j) % 8) = true
    (denied → ioMapCheck port n s = .error (.exc (.gp 0#16)) s) ∧ (¬ denied → ioMapCheck port n s = .ok () s) := by
  intro mb denied
  have hbits := ioMapAllows_off hpg hr (s.tr.base + BitVec.ofNat 32 mb) port.toNat n
  simp only [BitVec.add_assoc, ← BitVec.ofNat_add] at hbits
  have hrun : ioMapCheck port n s = if denied then .error (.exc (.gp 0#16)) s else .ok () s := by
    by_cases htyp : s.tr.attr.typ = 1#4 ∨ s.tr.attr.typ = 3#4
    · have hden : denied := htyp.elim .inl fun h3 => .inr (.inl h3)
      exact (run_check_raise (by simpa using htyp)).trans (if_pos hden).symm
    refine (run_check_pass (by simpa using htyp)).trans ?_
    by_cases hlim : s.tr.limit.toNat < 0x67
    · have hden : denied := .inr (.inr (.inl hlim))
      exact (run_check_raise (by simpa using hlim)).trans (if_pos hden).symm
    refine (run_check_pass (by simpa using hlim)).trans ((run_bind_ok _ (linRead_off hpg hr _ (by decide))).trans ?_)
    by_cases hend : s.tr.limit.toNat < mb + (port.toNat + n - 1) / 8
    · have hden : denied := .inr (.inr (.inr (.inl hend)))
      exact (run_check_raise (by simpa using hend)).trans (if_pos hden).symm
    refine ((run_check_pass (by simpa using hend)).trans hbits).trans ?_
    exact if_congr (by tauto) rfl rfl
  exact ⟨fun h => hrun.trans (if_pos h), fun h => hrun.trans (if_neg h)⟩
end

/-- Settles O29: the check of the port, then the cycle. -/
theorem inOutPorts : Obligations.InOutPorts := by
  intro s
  refine ⟨fun p s1 hp he => ?_, fun sz p s1 hp he => ?_, fun s1 hp he => ?_, fun sz s1 hp he => ?_,
    fun sz p i port n x s1 hi hp => exec_port_denied hi hp,
    fun port n h => ioPermit_free (s.ioFree_iff.2 h) port n, fun port n hpe h hpg hr => ?_⟩
  · exact ⟨runInstr_ok (run_bind_ok _ (inPort_external hp he)), runInstr_ok (outPort_external hp he _)⟩
  · exact ⟨runInstr_ok (run_bind_ok _ (inPort_external hp he)), runInstr_ok (outPort_external hp he _)⟩
  · exact ⟨runInstr_ok (run_bind_ok _ (inPort_external hp he)), runInstr_ok (outPort_external hp he _)⟩
  · exact ⟨runInstr_ok (run_bind_ok _ (inPort_external hp he)), runInstr_ok (outPort_external hp he _)⟩
  · have hfree : s.ioFree = false := by
      refine Bool.eq_false_iff.2 fun hf => ?_
      rcases s.ioFree_iff.1 hf with h0 | ⟨hvm, hle⟩
      · simp [hpe] at h0
      · rcases h with hv | hlt
        · simp [hvm] at hv
        · exact absurd hlt (BitVec.not_lt.2 hle)
    rw [ioPermit_map hfree]
    exact ioMapCheck_off hpg hr port n

end Sys2Proof.Machine
end

section
/-! SUPPORT, and O50. What an access leaves of memory where no other agent acts: every byte outside the table entries that it
walks (R216, R219); with paging off everything (R153). -/
namespace Sys2Proof.Machine
open Sys2Proof

/-! A byte that stays, whatever free values are drawn: absent memory answers a free byte (log 5). -/

/-- Nothing answers at the address but a free value. -/
def State.absent (s : State) (b : Word) : Bool := (s.lineAt b).isNone && !s.smmSelected b && s.part.nothing b
theorem State.memByte_freeCtr (s : State) (k : Nat) (b : Word) : ({ s with freeCtr := k } : State).memByte b =
    if !s.smmSelected b && s.part.nothing b then Config.absentByte k b else s.memByte b := by
  have hctr : ({ s with freeCtr := k } : State).memByte b = if s.smmSelected b then s.smm.read b.toNat
      else if s.part.nothing b then Config.absentByte k b else s.mem.read b.toNat := rfl
  rw [hctr, State.memByte, State.mainByte]
  cases s.smmSelected b
  · cases s.part.nothing b <;> rfl
  · rfl
theorem State.physByte_freeCtr (s : State) (k : Nat) (b : Word) :
    ({ s with freeCtr := k } : State).physByte b = if s.absent b then Config.absentByte k b else s.physByte b := by
  have hline : ({ s with freeCtr := k } : State).lineAt b = s.lineAt b := rfl
  cases h : s.lineAt b with
  | some e =>
    rw [State.physByte_hit (hline.trans h), State.physByte_hit h, State.absent, h]
    rfl
  | none =>
    rw [State.physByte_miss (hline.trans h), State.physByte_miss h, State.absent, h]
    exact s.memByte_freeCtr k b

/-- The byte at b is the same before and after, and absent in neither or in both. -/
structure KeepsByte (s t : State) (b : Word) : Prop where
  absent : t.absent b = s.absent b
  byte : s.absent b = false → t.physByte b = s.physByte b
theorem KeepsByte.refl (s : State) (b : Word) : KeepsByte s s b := ⟨rfl, fun _ => rfl⟩
theorem KeepsByte.trans {s t u : State} {b : Word} (h : KeepsByte s t b) (h' : KeepsByte t u b) : KeepsByte s u b :=
  ⟨h'.absent.trans h.absent, fun hs => (h'.byte (h.absent.trans hs)).trans (h.byte hs)⟩
theorem KeepsByte.same {s t : State} {b : Word} (h : KeepsByte s t b) : sameByte s t b := by
  rw [sameByte, State.physByte_freeCtr, h.absent]
  split
  · rename_i habs
    have hself := s.physByte_freeCtr s.freeCtr b
    rw [if_pos habs] at hself
    exact hself.symm
  · rename_i habs
    exact h.byte (Bool.eq_false_iff.2 habs)
theorem KeepsByte.freeCtr (s : State) (k : Nat) (b : Word) : KeepsByte s { s with freeCtr := k } b :=
  ⟨rfl, fun h => by rw [State.physByte_freeCtr, h]; rfl⟩
theorem KeepsByte.cur (s : State) (c : Current) (b : Word) : KeepsByte s { s with cur := c } b := ⟨rfl, fun _ => rfl⟩
theorem KeepsByte.storeByte {s : State} (hc : s.cacheOk = true) {p : PA} (v : Byte) {b : Word} (hb : b ≠ p.addr) :
    KeepsByte s (s.storeByte p v) b := by
  refine ⟨?_, fun _ => State.storeByte_physByte_other v hc p hb⟩
  rw [State.absent, State.absent, ← Option.not_isSome, State.storeByte_lineAt_isSome v hc, Option.not_isSome,
    State.storeByte_smmSelected, State.storeByte_part]

/-! Actions that touch no byte outside `E` where no other agent acts, and the rules to compose them. -/

/-- No other agent acts in s or after it, and no byte outside `E` changes. -/
structure Touched (E : List Word) (s t : State) : Prop where
  lines : t.cacheOk = true
  idle : t.busIdle = true
  bytes : ∀ b ∉ E, KeepsByte s t b
/-- Where `a` answers, it touches no byte outside `E`. -/
def Act.Touches {α : Type} (a : Act α) (E : List Word) : Prop :=
  ∀ ⦃s t : State⦄ ⦃x : α⦄, s.cacheOk = true → s.busIdle = true → a s = .ok x t → Touched E s t
theorem Touched.refl {s : State} (hc : s.cacheOk = true) (hb : s.busIdle = true) (E : List Word) : Touched E s s :=
  ⟨hc, hb, fun b _ => .refl s b⟩
theorem Touched.trans {E : List Word} {s t u : State} (h : Touched E s t) (h' : Touched E t u) : Touched E s u :=
  ⟨h'.lines, h'.idle, fun b hb => (h.bytes b hb).trans (h'.bytes b hb)⟩
theorem Touched.mono {E E' : List Word} {s t : State} (h : Touched E s t) (hsub : E ⊆ E') : Touched E' s t :=
  ⟨h.lines, h.idle, fun b hb => h.bytes b fun hm => hb (hsub hm)⟩

section
variable {α β : Type} {E : List Word}
theorem Act.Touches.pure (x : α) : (Pure.pure x : Act α).Touches E := fun _ _ _ hc hb h => by
  cases h
  exact .refl hc hb E
theorem Act.Touches.bind {a : Act α} {f : α → Act β} (ha : a.Touches E) (hf : ∀ x, (f x).Touches E) :
    (a >>= f).Touches E := fun _ _ _ hc hb h => by
  obtain ⟨x, u, hau, hfu⟩ := run_bind_ok_iff.1 h
  have hu := ha hc hb hau
  exact hu.trans (hf x hu.lines hu.idle hfu)
theorem Act.Touches.get {f : State → Act β} (hf : ∀ s, (f s).Touches E) :
    ((MonadState.get : Act State) >>= f).Touches E := fun s _ _ hc hb h => hf s hc hb h
theorem Act.Touches.ite {c : Prop} [Decidable c] {a b : Act α} (ha : a.Touches E) (hb : b.Touches E) :
    (if c then a else b).Touches E := by
  split
  · exact ha
  · exact hb
end

/-! Physical memory, in the order of the model. -/

section
variable {s t : State} (hb : s.busIdle = true)
include hb
theorem busPoint_idle_inv {c : Bool} {x : Unit} (h : busPoint c s = .ok x t) : t = s := by
  rw [busPoint_idle hb c] at h
  cases h
  rfl
theorem readBytes_idle {c : Bool} {pas : List PA} {bs : List Byte} (h : readBytes c pas s = .ok bs t) :
    t = s ∧ bs = s.bytesAt (addrs pas) := by
  induction pas generalizing bs t with
  | nil =>
    cases h
    exact ⟨rfl, rfl⟩
  | cons p rest ih =>
    obtain ⟨_, s1, hpoint, hread⟩ := run_bind_ok_iff.1 h
    obtain rfl := busPoint_idle_inv hb hpoint
    obtain ⟨v, s2, hbyte, hmore⟩ := run_bind_ok_iff.1 hread
    obtain ⟨rfl, rfl⟩ : s2 = s1 ∧ v = s1.physByte p.addr := by
      unfold physReadByte at hbyte
      split at hbyte
      · cases hbyte
      · cases hbyte
        exact ⟨rfl, rfl⟩
    obtain ⟨vs, s3, hrest, hend⟩ := run_bind_ok_iff.1 hmore
    obtain ⟨rfl, rfl⟩ := ih hrest
    cases hend
    exact ⟨rfl, rfl⟩
/-- Where no other agent acts, a read that answers changes nothing and answers the bytes that are there (R157). -/
theorem physRead_idle {pas : List PA} {bs : List Byte} (h : physRead pas s = .ok bs t) :
    t = s ∧ bs = s.bytesAt (addrs pas) := by
  obtain ⟨_, s1, hpoint, hread⟩ := run_bind_ok_iff.1 h
  obtain rfl := busPoint_idle_inv hb hpoint
  exact readBytes_idle hb hread
end

section
variable {E : List Word}
theorem busPoint_touches (c : Bool) : (busPoint c).Touches E := fun _ _ _ hc hb h => by
  obtain rfl := busPoint_idle_inv hb h
  exact .refl hc hb E
theorem physRead_touches (pas : List PA) : (physRead pas).Touches E := fun _ _ _ hc hb h => by
  obtain ⟨rfl, -⟩ := physRead_idle hb h
  exact .refl hc hb E
theorem physReadN_touches (pa : Word) (n : Nat) : (physReadN pa n).Touches E :=
  .bind (physRead_touches _) fun _ => .pure _
theorem physWriteByte_touches {p : PA} (hp : p.addr ∈ E) (v : Byte) : (physWriteByte p v).Touches E := fun s t _ hc hb h => by
  obtain rfl : t = s.storeByte p v := by
    unfold physWriteByte at h
    split at h
    · cases h
    split at h
    · cases h
    · cases h
      rfl
  have hidle : (s.storeByte p v).busIdle = true := by rw [State.busIdle, State.storeByte_bus]; exact hb
  exact ⟨State.storeByte_cacheOk v hc p, hidle, fun b hbE => .storeByte hc v fun heq => hbE (heq ▸ hp)⟩
theorem writeBytes_touches (c : Bool) {pas : List PA} (hp : addrs pas ⊆ E) (bs : List Byte) :
    (writeBytes c pas bs).Touches E := by
  induction pas generalizing bs with
  | nil => exact .pure _
  | cons p rest ih =>
    cases bs with
    | nil => exact .pure _
    | cons b bs =>
      obtain ⟨hfirst, hrest⟩ := List.cons_subset.1 hp
      exact .bind (busPoint_touches _) fun _ => .bind (physWriteByte_touches hfirst b) fun _ => ih hrest bs
theorem physWrite_touches {pas : List PA} (hp : addrs pas ⊆ E) (bs : List Byte) : (physWrite pas bs).Touches E :=
  .bind (busPoint_touches _) fun _ => writeBytes_touches _ hp _

/-! Paging: the entries that an access walks are marked, nothing else is. -/

theorem pageFault_touches {α : Type} (la : Word) (kind : Acc) (user present : Bool) :
    (pageFault la kind user present : Act α).Touches E := fun s _ _ _ _ h => by
  rw [pageFault_error] at h
  cases h
theorem pageWalk_touches (la : Word) (kind : Acc) (user : Bool) : (pageWalk la kind user).Touches E :=
  .get fun _ => .bind (physReadN_touches _ _) fun _ => .ite (pageFault_touches _ _ _ _) <|
    .bind (physReadN_touches _ _) fun _ => .ite (pageFault_touches _ _ _ _) <| .ite (pageFault_touches _ _ _ _) <| .pure _
theorem drawChoice_touches (n : Nat) : (drawChoice n).Touches E := fun s _ _ hc hb h => by
  cases h
  exact ⟨hc, hb, fun b _ => .freeCtr s _ b⟩
theorem translate_touches (la : Word) (kind : Acc) (user : Bool) : (translate la kind user).Touches E := by
  refine .get fun s => .ite (.pure _) ?_
  split
  · exact pageWalk_touches _ _ _
  · refine .bind (drawChoice_touches _) fun k => ?_
    split
    · exact .pure _
    · exact pageWalk_touches _ _ _
theorem linXlat_touches (la : Word) (n : Nat) (kind : Acc) (user : Bool) : (linXlat la n kind user).Touches E :=
  .bind (translate_touches _ _ _) fun _ => .ite (.pure _) <| .bind (translate_touches _ _ _) fun _ => .pure _
theorem markEntry_touches {a : Word} (ha : paRange a 4 ⊆ E) (wt : Bool) (bits : Word) : (markEntry a wt bits).Touches E := by
  refine .bind (physRead_touches _) fun _ => .ite (physWrite_touches ?_ _) (.pure _)
  rw [addrs, List.map_map]
  exact List.map_id'' (fun _ => rfl) _ ▸ ha
theorem commitXlat_touches (la : Word) (kind : Acc) {x : Xlat} (hx : x.entries ⊆ E) : (commitXlat la kind x).Touches E := by
  unfold Xlat.entries at hx
  unfold commitXlat
  split
  · exact .pure _
  · rename_i dteA dte pteA pte hwalk
    rw [hwalk] at hx
    obtain ⟨hdte, hpte⟩ := List.append_subset.1 hx
    refine .bind (markEntry_touches hdte _ _) fun _ => .bind (markEntry_touches hpte _ _) fun _ => fun s t _ hc hb h => ?_
    cases h
    dsimp only
    split
    · exact .refl hc hb E
    · exact ⟨hc, hb, fun b _ => ⟨rfl, fun _ => rfl⟩⟩
end
/-- An access touches the entries that its translations walked. -/
theorem linAccess_touches (la : Word) (n : Nat) (kind : Acc) (user : Bool) (al : Nat) {s t : State} {pas : List PA}
    (hc : s.cacheOk = true) (hb : s.busIdle = true) (h : linAccess la n kind user al s = .ok pas t) :
    Touched (s.marks la n kind user) s t := by
  obtain ⟨x1, x2, u, hx, h⟩ := linAccess_inv h
  have hu : Touched (s.marks la n kind user) s u := linXlat_touches la n kind user hc hb hx
  refine hu.trans ?_
  rw [State.marks, hx]
  obtain ⟨rfl, hcommit, -⟩ | ⟨x, v, rfl, hcommit1, hcommit2, -⟩ := h
  · exact commitXlat_touches la kind (List.Subset.refl _) hu.lines hu.idle hcommit
  · have hv := commitXlat_touches la kind (List.subset_append_left x1.entries x.entries) hu.lines hu.idle hcommit1
    exact hv.trans (commitXlat_touches _ kind (List.subset_append_right _ _) hv.lines hv.idle hcommit2)

/-! The addresses of an access. -/

@[simp] theorem physAddrs_length (la : Word) (x1 x2 : Xlat) (page : BitVec 20) (n : Nat) :
    (physAddrs la x1 x2 page n).length = n := by
  induction n generalizing la with
  | zero => rfl
  | succ n ih => rw [physAddrs, List.length_cons, ih]
theorem linAccess_length {la : Word} {n : Nat} {kind : Acc} {user : Bool} {al : Nat} {s t : State} {pas : List PA}
    (h : linAccess la n kind user al s = .ok pas t) : pas.length = n := by
  obtain ⟨x1, x2, u, -, ⟨-, -, rfl⟩ | ⟨x, v, -, -, -, rfl⟩⟩ := linAccess_inv h
  · exact physAddrs_length _ _ _ _ _
  · exact physAddrs_length _ _ _ _ _
@[simp] theorem State.addrs_lockPas (s : State) (pas : List PA) : addrs (s.lockPas pas) = addrs pas := by
  rw [addrs, State.lockPas, List.map_map]
  rfl
@[simp] theorem addrs_length (pas : List PA) : (addrs pas).length = pas.length := List.length_map _
/-- With paging off an access changes nothing, and its addresses are the linear ones (R153). -/
theorem linAccess_off_inv {la : Word} {n : Nat} {kind : Acc} {user : Bool} {al : Nat} {s t : State} {pas : List PA}
    (hpg : s.pg = false) (h : linAccess la n kind user al s = .ok pas t) :
    t = s ∧ (n ≤ 4096 → addrs pas = paRange la n) := by
  refine ⟨?_, fun hn => ?_⟩
  · obtain ⟨x1, x2, u, hx, h⟩ := linAccess_inv h
    rw [linXlat_off hpg] at hx
    cases hx
    obtain ⟨-, hcommit, -⟩ | ⟨x, v, hx2, hcommit1, hcommit2, -⟩ := h
    · cases hcommit
      rfl
    · cases hcommit1
      obtain rfl : x = flatXlat (lastPage la n ++ 0#12) := by
        split at hx2
        · cases hx2
        · exact (Option.some.inj hx2).symm
      cases hcommit2
      rfl
  · have hal : s.misaligned la al = false := by
      refine Bool.eq_false_iff.2 fun hmis => ?_
      have herr : linAccess la n kind user al s = .error (.exc .ac) s :=
        (run_bind_ok _ (linXlat_off hpg la n kind user)).trans (run_check_raise hmis)
      rw [herr] at h
      cases h
    rw [linAccess_off hpg la hn kind user al hal] at h
    cases h
    exact addrs_plain _

/-! What an access leaves of the machine, in a form that composes. -/

/-- What an access that may mark `E` leaves of the machine: `accessFrame`, with `Touched` for the bytes. -/
structure AccessFrame (E : List Word) (s t : State) : Prop where
  same : sameButAccess s t
  touched : s.cacheOk = true → s.busIdle = true → Touched E s t
  flat : s.pg = false → onlyHits s t
theorem AccessFrame.accessFrame {E : List Word} {s t : State} (h : AccessFrame E s t) : accessFrame s t E :=
  ⟨h.same, fun hc hb b hbE => ((h.touched hc hb).bytes b hbE).same, h.flat⟩
theorem AccessFrame.refl (E : List Word) (s : State) : AccessFrame E s s :=
  ⟨.refl s, fun hc hb => .refl hc hb E, fun _ => rfl⟩
theorem sameButAccess.pg {s t : State} (h : sameButAccess s t) : t.pg = s.pg := by rw [h]; rfl
theorem onlyHits.trans {s t u : State} (h : onlyHits s t) (h' : onlyHits t u) : onlyHits s u := by
  rw [onlyHits] at h h' ⊢
  rw [h', h]
theorem AccessFrame.trans {E E' : List Word} {s t u : State} (h : AccessFrame E s t) (h' : AccessFrame E' t u) :
    AccessFrame (E ++ E') s u := by
  refine ⟨h.same.trans h'.same, fun hc hb => ?_, fun hpg => (h.flat hpg).trans (h'.flat (h.same.pg.trans hpg))⟩
  have ht := h.touched hc hb
  exact (ht.mono (List.subset_append_left _ _)).trans
    ((h'.touched ht.lines ht.idle).mono (List.subset_append_right _ _))

/-- The frame of a program access through a segment. -/
theorem segAccess_frame {r : SegReg} {off : Word} {n : Nat} {kind : Acc} {al : Nat} {s t : State} {pas : List PA}
    (h : segAccess r off n kind al s = .ok pas t) : AccessFrame (s.segMarks r off n kind) s t := by
  obtain ⟨qs, u, hlin, ht, -⟩ := segAccess_inv h
  refine ⟨segAccess_accessOnly _ _ _ _ _ h, fun hc hb => ?_, fun hpg => ?_⟩
  · obtain ⟨hlines, hidle, hbytes⟩ := linAccess_touches _ _ _ _ _ hc hb hlin
    rw [ht]
    exact ⟨hlines, hidle, fun b hbE => (hbytes b hbE).trans (.cur u _ b)⟩
  · obtain ⟨rfl, -⟩ := linAccess_off_inv hpg hlin
    rw [ht]
    rfl
theorem segAccess_addrs {r : SegReg} {off : Word} {n : Nat} {kind : Acc} {al : Nat} {s t : State} {pas : List PA}
    (h : segAccess r off n kind al s = .ok pas t) :
    pas.length = n ∧ (s.pg = false → n ≤ 4096 → addrs pas = paRange ((s.segs.get r).base + off) n) := by
  obtain ⟨qs, u, hlin, ht, hpas⟩ := segAccess_inv h
  have haddrs : addrs pas = addrs qs := by
    rw [hpas]
    split
    · exact State.addrs_lockPas _ _
    · rfl
  refine ⟨?_, fun hpg hn => haddrs.trans ((linAccess_off_inv hpg hlin).2 hn)⟩
  rw [← addrs_length, haddrs, addrs_length]
  exact linAccess_length hlin
theorem locateMem_frame {m : Mem} {n al : Nat} {kind : Acc} {s t : State} {pas : List PA}
    (h : locateMem m n al kind s = .ok pas t) : AccessFrame (s.operandMarks (some m) n kind) s t := segAccess_frame h
theorem locateMem_addrs {m : Mem} {n al : Nat} {kind : Acc} {s t : State} {pas : List PA}
    (h : locateMem m n al kind s = .ok pas t) (hpg : s.pg = false) (hn : n ≤ 4096) :
    addrs pas = paRange ((s.segs.get (s.dataSeg (defaultSeg m))).base + effAddr s.regs m) n := (segAccess_addrs h).2 hpg hn

/-! The stack (R365). -/

theorem before_ok_inv {α : Type} {later : List Ref} {a : Act α} {s t : State} {x : α} (h : before later a s = .ok x t) :
    a s = .ok x t := by
  unfold before at h
  split at h
  · repeat' split at h
    all_goals cases h
  · exact h
theorem osBytes_le (sz : OSize) : osBytes sz ≤ 4096 := by cases sz <;> decide
/-- An access leaves the stack where it is. -/
theorem sameButAccess.pushOff {s t : State} (h : sameButAccess s t) (sz : OSize) (k : Nat) :
    pushOff t.segs.ss sz t.stackPtr k = pushOff s.segs.ss sz s.stackPtr k := by rw [h]; rfl
theorem sameButAccess.ssBase {s t : State} (h : sameButAccess s t) : t.segs.ss.base = s.segs.ss.base := by rw [h]
/-- The places of pushed items, one after the other. -/
theorem pushPlaces_cons_inv {sz : OSize} {k : Nat} {v : Word} {vals : List Word} {s t : State} {pl : List (List PA)}
    (h : pushPlaces sz k (v :: vals) s = .ok pl t) : ∃ pas u more,
      segAccess .ss (pushOff s.segs.ss sz s.stackPtr k) (osBytes sz) .write (osBytes sz) s = .ok pas u ∧
      pushPlaces sz (k + 1) vals u = .ok more t ∧ pl = pas :: more := by
  rw [pushPlaces, run_bind_ok _ (run_get s)] at h
  obtain ⟨pas, u, hfirst, h⟩ := run_bind_ok_iff.1 h
  obtain ⟨more, w, hrest, h⟩ := run_bind_ok_iff.1 h
  cases h
  exact ⟨pas, u, more, before_ok_inv hfirst, hrest, rfl⟩
theorem pushPlaces_frame {sz : OSize} {k : Nat} {vals : List Word} {s t : State} {pl : List (List PA)}
    (h : pushPlaces sz k vals s = .ok pl t) : AccessFrame (s.pushMarks sz k vals) s t := by
  induction vals generalizing s k pl with
  | nil =>
    cases h
    exact .refl _ _
  | cons v rest ih =>
    obtain ⟨pas, u, more, hfirst, hrest, rfl⟩ := pushPlaces_cons_inv h
    have hframe := (segAccess_frame hfirst).trans (ih hrest)
    rw [State.pushMarks, hfirst]
    exact hframe
theorem pushPlaces_addrs {sz : OSize} {k : Nat} {vals : List Word} {s t : State} {pl : List (List PA)}
    (h : pushPlaces sz k vals s = .ok pl t) : pl.length = vals.length ∧
      (s.pg = false → ∀ j, j < vals.length → (pl[j]?).map addrs =
        some (paRange (s.segs.ss.base + pushOff s.segs.ss sz s.stackPtr (k + j)) (osBytes sz))) := by
  induction vals generalizing s k pl with
  | nil =>
    cases h
    exact ⟨rfl, fun _ j hj => absurd hj (Nat.not_lt_zero j)⟩
  | cons v rest ih =>
    obtain ⟨pas, u, more, hfirst, hrest, rfl⟩ := pushPlaces_cons_inv h
    obtain ⟨hlen, haddrs⟩ := ih hrest
    have hsame := (segAccess_frame hfirst).same
    refine ⟨congrArg (· + 1) hlen, fun hpg j hj => ?_⟩
    cases j with
    | zero => exact congrArg some ((segAccess_addrs hfirst).2 hpg (osBytes_le sz))
    | succ j =>
      have hj' := haddrs (hsame.pg.trans hpg) j (Nat.lt_of_succ_lt_succ hj)
      rw [hsame.pushOff, hsame.ssBase, Nat.add_assoc, Nat.add_comm 1 j] at hj'
      exact hj'
/-- An item read from the stack: the access, and the read of its bytes. -/
theorem peekStack_inv {sz : OSize} {k : Nat} {s t : State} {v : Word} (h : peekStack sz k s = .ok v t) : ∃ pas u bs,
    segAccess .ss (popOff s.segs.ss sz s.stackPtr k) (osBytes sz) .read (osBytes sz) s = .ok pas u ∧
    physRead pas u = .ok bs t ∧ v = BitVec.ofNat 32 (leNat bs) := by
  rw [peekStack, run_bind_ok _ (run_get s)] at h
  obtain ⟨x, w, hread, h⟩ := run_bind_ok_iff.1 h
  cases h
  obtain ⟨pas, u, hseg, hread⟩ := run_bind_ok_iff.1 hread
  obtain ⟨bs, z, hbytes, hread⟩ := run_bind_ok_iff.1 hread
  cases hread
  exact ⟨pas, u, bs, hseg, hbytes, rfl⟩
theorem peekStack_accessOnly (sz : OSize) (k : Nat) : (peekStack sz k).AccessOnly :=
  .get fun _ => .bind (memRead_accessOnly _ _ _ _) fun _ => .pure _
theorem onlyHits.busIdle {s t : State} (h : onlyHits s t) : t.busIdle = s.busIdle := by rw [h]; rfl
theorem onlyHits.bytesAt {s t : State} (h : onlyHits s t) (pas : List Word) : t.bytesAt pas = s.bytesAt pas := by rw [h]; rfl
theorem peekStack_frame {sz : OSize} {k : Nat} {s t : State} {v : Word} (h : peekStack sz k s = .ok v t)
    (hb : s.busIdle = true) :
    AccessFrame (s.segMarks .ss (popOff s.segs.ss sz s.stackPtr k) (osBytes sz) .read) s t := by
  obtain ⟨pas, u, bs, hseg, hread, -⟩ := peekStack_inv h
  have hframe := segAccess_frame hseg
  refine ⟨peekStack_accessOnly sz k h, fun hc _ => ?_, fun hpg => ?_⟩
  · have hu := hframe.touched hc hb
    obtain ⟨rfl, -⟩ := physRead_idle hu.idle hread
    exact hu
  · have hu := hframe.flat hpg
    obtain ⟨rfl, -⟩ := physRead_idle (hu.busIdle.trans hb) hread
    exact hu
theorem peekStack_value {sz : OSize} {k : Nat} {s t : State} {v : Word} (h : peekStack sz k s = .ok v t)
    (hpg : s.pg = false) (hb : s.busIdle = true) : v = BitVec.ofNat 32 (leNat (s.bytesAt
      (paRange (s.segs.ss.base + popOff s.segs.ss sz s.stackPtr k) (osBytes sz)))) := by
  obtain ⟨pas, u, bs, hseg, hread, rfl⟩ := peekStack_inv h
  have hu := (segAccess_frame hseg).flat hpg
  obtain ⟨-, rfl⟩ := physRead_idle (hu.busIdle.trans hb) hread
  rw [hu.bytesAt, (segAccess_addrs hseg).2 hpg (osBytes_le sz)]
  rfl

/-- Settles O50: each operand is an access through a segment, or a register. -/
theorem operandFrame : Obligations.OperandFrame := by
  refine ⟨fun r off n al kind s t pas h => ⟨(segAccess_frame h).accessFrame, segAccess_addrs h⟩,
    fun n d kind s t p h => ?_, fun d kind s t p h => ?_,
    fun sz k vals s t pl h => ⟨(pushPlaces_frame h).accessFrame, pushPlaces_addrs h⟩,
    fun sz k s t v h => ⟨peekStack_accessOnly sz k h, fun hb => (peekStack_frame h hb).accessFrame,
      fun hpg hb => peekStack_value h hpg hb⟩⟩
  · cases d with
    | reg r =>
      cases h
      refine ⟨(AccessFrame.refl _ s).accessFrame, fun _ hm => (nomatch hm), fun _ hr => ?_⟩
      cases hr
      exact ⟨rfl, rfl⟩
    | mem m =>
      obtain ⟨pas, u, hloc, h⟩ := run_bind_ok_iff.1 h
      cases h
      refine ⟨(locateMem_frame hloc).accessFrame, fun _ hm hpg hn => ?_, fun _ hr => (nomatch hr)⟩
      cases hm
      exact ⟨pas, rfl, locateMem_addrs hloc hpg hn⟩
  · cases d with
    | reg r =>
      cases h
      refine ⟨(AccessFrame.refl _ s).accessFrame, fun _ hm => (nomatch hm), fun _ hr => ?_⟩
      cases hr
      exact ⟨rfl, rfl⟩
    | mem m =>
      obtain ⟨pas, u, hloc, h⟩ := run_bind_ok_iff.1 h
      cases h
      refine ⟨(locateMem_frame hloc).accessFrame, fun _ hm hpg => ?_, fun _ hr => (nomatch hr)⟩
      cases hm
      exact ⟨pas, rfl, locateMem_addrs hloc hpg (by decide)⟩

end Sys2Proof.Machine
end

section
/-! SUPPORT, and O17. An instruction as what it does once its operands are read; the load of a segment register in protected
mode, one lemma per outcome. -/
namespace Sys2Proof.Machine
open Sys2Proof

/-! What an instruction does once its operands are read. -/

/-- Instruction `i`, started in `s`, has read its operands in `s1` and does `a` from there on. -/
def RunsOn (i : Instr) (s : State) (a : Act Unit) (s1 : State) : Prop := ∃ b, exec i s = runInstr b s ∧ b s = a s1

section
variable {i : Instr} {s s1 t : State} {a : Act Unit} (h : RunsOn i s a s1)
include h

theorem RunsOn.next (ha : a s1 = .ok () t) : exec i s = .next t := by
  obtain ⟨b, hexec, hb⟩ := h
  exact hexec.trans (runInstr_ok (hb.trans ha))
theorem RunsOn.fault {x : Exc} (ha : a s1 = .error (.exc x) t) : exec i s = deliverFault x (rollback s t) := by
  obtain ⟨b, hexec, hb⟩ := h
  exact hexec.trans (runInstr_exc (hb.trans ha))
theorem RunsOn.refused {r : Refusal} (ha : a s1 = .error (.refuse r) t) : exec i s = .refused r := by
  obtain ⟨b, hexec, hb⟩ := h
  exact hexec.trans (runInstr_refuse (hb.trans ha))
end

/-- A segment register loaded by an instruction (R363, R367). -/
def loadSegHeld (r : SegReg) (sel : Word16) : Act Unit := do
  loadSeg r sel
  shadowIfSs r

theorem loadsSeg.runsOn {i : Instr} {r : SegReg} {s s1 : State} {sel : Word16} (h : loadsSeg i r s sel s1) :
    RunsOn i s (loadSegHeld r sel) s1 := by
  rcases h with ⟨e, rfl, hread⟩ | ⟨sz, s0, v, hi, hpeek, rfl, rfl⟩
  · exact ⟨_, rfl, run_bind_ok _ hread⟩
  · have hpop : popSeg sz r s = loadSegHeld r (v.setWidth 16) (s0.popped sz 1 0) := run_bind_ok _ (pop_ok hpeek)
    simp only [List.mem_cons, Prod.mk.injEq, List.not_mem_nil, or_false] at hi
    rcases hi with ⟨rfl, rfl⟩ | ⟨rfl, rfl⟩ | ⟨rfl, rfl⟩ | ⟨rfl, rfl⟩ | ⟨rfl, rfl⟩ <;> exact ⟨_, rfl, hpop⟩
theorem loadSegHeld_ok {r : SegReg} {sel : Word16} {s t : State} (h : loadSeg r sel s = .ok () t) :
    loadSegHeld r sel s = .ok () { t with shadow := if r = .ss then .ss else t.shadow } :=
  (run_bind_ok _ h).trans (shadowIfSs_ok r t)
theorem loadSegHeld_error {r : SegReg} {sel : Word16} {s t : State} {x : Stop} (h : loadSeg r sel s = .error x t) :
    loadSegHeld r sel s = .error x t := run_bind_error _ h

/-! The descriptor that a selector names (R191). -/

/-- A selector beyond the GDT. -/
theorem readDesc_pastGdt {sel : Word16} {s : State} (bad : Exc) (hti : sel.getLsbD 2 = false)
    (h : s.gdtr.limit.toNat < (sel &&& 0xFFF8#16).toNat + 7) : readDesc sel bad s = .error (.exc bad) s :=
  (congrFun (if_neg (by rw [hti]; decide)) s).trans (run_check_raise (by simpa using h))

/-! The stack segment that a selector names (R205, R502). -/

section
variable {sel : Word16} {lvl : BitVec 2} {nullX badX npX : Exc} {s : State}

theorem checkStackSel_null (h : nullSel sel = true) :
    checkStackSel sel lvl nullX badX npX s = .error (.exc nullX) s := run_check_raise h

variable (hn : nullSel sel = false)
include hn

theorem checkStackSel_noDesc {x : Stop} {t : State} (h : readDesc sel badX s = .error x t) :
    checkStackSel sel lvl nullX badX npX s = .error x t :=
  (run_check_pass (by simp [hn])).trans (run_bind_error _ h)

variable {a : Word} {d : BitVec 64} {t : State} (hd : readDesc sel badX s = .ok (a, d) t)
include hd

theorem checkStackSel_unusable (h : ¬ ((descAttr d).writable = true ∧ rpl sel = lvl ∧ (descAttr d).dpl = lvl)) :
    checkStackSel sel lvl nullX badX npX s = .error (.exc badX) t :=
  (run_check_pass (by simp [hn])).trans <| (run_bind_ok _ hd).trans <| run_check_raise <| by
    simp only [Bool.or_eq_true, bne_iff_ne, Bool.not_eq_true', ne_eq]
    grind

variable (hok : (descAttr d).writable = true ∧ rpl sel = lvl ∧ (descAttr d).dpl = lvl)
include hok

/-- A segment that the stack segment register may take: that it is present is left to check. -/
theorem checkStackSel_usable : checkStackSel sel lvl nullX badX npX s =
    (do
      if !(descAttr d).p then raise npX
      return (a, d) : Act (Word × BitVec 64)) t := by
  obtain ⟨hw, hrpl, hdpl⟩ := hok
  exact (run_check_pass (by simp [hn])).trans <| (run_bind_ok _ hd).trans <| run_check_pass (by simp [hw, hrpl, hdpl])
theorem checkStackSel_notPresent (hp : (descAttr d).p = false) :
    checkStackSel sel lvl nullX badX npX s = .error (.exc npX) t :=
  (checkStackSel_usable hn hd hok).trans (run_check_raise (by simp [hp]))
theorem checkStackSel_ok (hp : (descAttr d).p = true) : checkStackSel sel lvl nullX badX npX s = .ok (a, d) t :=
  (checkStackSel_usable hn hd hok).trans (run_check_pass (by simp [hp]))
end

/-! LoadSeg in protected mode (R205). -/

theorem epl_le_iff {a b l : BitVec 2} : epl a b ≤ l ↔ a ≤ l ∧ b ≤ l := by
  unfold epl
  split <;> bv_omega

/-- The rights that segment register `r` asks of a descriptor, at level `cpl` and requested level `rpl` (R205, R526, R527). -/
def Attr.loadable (t : Attr) (r : SegReg) (cpl rpl : BitVec 2) : Prop :=
  if r = .ss then t.writable = true ∧ rpl = cpl ∧ t.dpl = cpl
  else t.dt = true ∧ (t.code = true → t.readableCode = true) ∧ (t.conforming = true ∨ cpl ≤ t.dpl ∧ rpl ≤ t.dpl)

/-- The two checks of a data segment register's descriptor, of its type and of its level (R205). -/
theorem Attr.loadable_data {t : Attr} {r : SegReg} {cpl rpl : BitVec 2} (hr : r ≠ .ss) : t.loadable r cpl rpl ↔
    ¬ (!t.dt || (t.code && !t.readableCode)) = true ∧ ¬ (!t.conforming && decide (t.dpl < epl cpl rpl)) = true := by
  have hlevel : t.dpl < epl cpl rpl ↔ ¬ (cpl ≤ t.dpl ∧ rpl ≤ t.dpl) := by rw [← epl_le_iff, BitVec.not_le]
  simp only [Attr.loadable, if_neg hr, Bool.or_eq_true, Bool.and_eq_true, Bool.not_eq_true', decide_eq_true_eq, hlevel]
  grind

section
variable {sel : Word16} {s : State} (hs : s.realLike = false)
include hs

/-- SS takes the stack segment that its selector names at the current level. -/
theorem loadSeg_ss : loadSeg .ss sel s =
    (do
      let (a, d) ← checkStackSel sel s.cpl (.gp 0#16) (.gp (selCode sel)) (.ss (selCode sel))
      markAccessed a d
      setSeg .ss (Seg.ofDesc sel d) : Act Unit) s := congrFun (if_neg (by simp [hs])) s
theorem loadSeg_ss_null (h : nullSel sel = true) : loadSeg .ss sel s = .error (.exc (.gp 0#16)) s :=
  (loadSeg_ss hs).trans (run_bind_error _ (checkStackSel_null h))
theorem loadSeg_data_null {r : SegReg} (hr : r ≠ .ss) (h : nullSel sel = true) :
    loadSeg r sel s = .ok () (s.putSeg r ((s.segs.get r).nullLoad sel)) :=
  (congrFun (if_neg (by simp [hs])) s).trans <| (congrFun (if_neg hr) s).trans (congrFun (if_pos h) s)

variable (hn : nullSel sel = false)
include hn

/-- A data segment register takes the segment of its descriptor, if that has the rights and is present. -/
theorem loadSeg_data {r : SegReg} (hr : r ≠ .ss) : loadSeg r sel s =
    (do
      let (a, d) ← readDesc sel (.gp (selCode sel))
      if !(descAttr d).dt || ((descAttr d).code && !(descAttr d).readableCode) then raise (.gp (selCode sel))
      if !(descAttr d).conforming && decide ((descAttr d).dpl < epl s.cpl (rpl sel)) then raise (.gp (selCode sel))
      if !(descAttr d).p then raise (.np (selCode sel))
      markAccessed a d
      setSeg r (Seg.ofDesc sel d) : Act Unit) s :=
  (congrFun (if_neg (by simp [hs])) s).trans <| (congrFun (if_neg hr) s).trans (congrFun (if_neg (by simp [hn])) s)
theorem loadSeg_noDesc {x : Stop} {t : State} (r : SegReg) (h : readDesc sel (.gp (selCode sel)) s = .error x t) :
    loadSeg r sel s = .error x t := by
  by_cases hr : r = .ss
  · subst hr
    exact (loadSeg_ss hs).trans (run_bind_error _ (checkStackSel_noDesc hn h))
  · exact (loadSeg_data hs hn hr).trans (run_bind_error _ h)

variable {r : SegReg} {a : Word} {d : BitVec 64} {t : State} (hd : readDesc sel (.gp (selCode sel)) s = .ok (a, d) t)
include hd

theorem loadSeg_unusable (h : ¬ (descAttr d).loadable r s.cpl (rpl sel)) :
    loadSeg r sel s = .error (.exc (.gp (selCode sel))) t := by
  by_cases hr : r = .ss
  · subst hr
    exact (loadSeg_ss hs).trans (run_bind_error _ (checkStackSel_unusable hn hd h))
  · refine (loadSeg_data hs hn hr).trans <| (run_bind_ok _ hd).trans ?_
    rw [Attr.loadable_data hr, not_and, not_not] at h
    by_cases htype : (!(descAttr d).dt || ((descAttr d).code && !(descAttr d).readableCode)) = true
    · exact run_check_raise htype
    · exact (run_check_pass htype).trans (run_check_raise (h htype))

variable (hok : (descAttr d).loadable r s.cpl (rpl sel))
include hok

theorem loadSeg_notPresent (hp : (descAttr d).p = false) :
    loadSeg r sel s = .error (.exc (if r = .ss then .ss (selCode sel) else .np (selCode sel))) t := by
  by_cases hr : r = .ss
  · subst hr
    exact (loadSeg_ss hs).trans (run_bind_error _ (checkStackSel_notPresent hn hd hok hp))
  · obtain ⟨htype, hlevel⟩ := (Attr.loadable_data hr).1 hok
    rw [if_neg hr]
    exact (loadSeg_data hs hn hr).trans <| (run_bind_ok _ hd).trans <| (run_check_pass htype).trans <|
      (run_check_pass hlevel).trans (run_check_raise (by simp [hp]))
theorem loadSeg_ok (hp : (descAttr d).p = true) {u : State} (hm : markAccessed a d t = .ok () u) :
    loadSeg r sel s = .ok () (u.putSeg r (Seg.ofDesc sel d)) := by
  by_cases hr : r = .ss
  · subst hr
    exact (loadSeg_ss hs).trans <| (run_bind_ok _ (checkStackSel_ok hn hd hok hp)).trans (run_bind_ok _ hm)
  · obtain ⟨htype, hlevel⟩ := (Attr.loadable_data hr).1 hok
    exact (loadSeg_data hs hn hr).trans <| (run_bind_ok _ hd).trans <| (run_check_pass htype).trans <|
      (run_check_pass hlevel).trans <| (run_check_pass (by simp [hp])).trans (run_bind_ok _ hm)
end

/-- Settles O17: the instruction is the load of the selector that it has read, by what the descriptor says. -/
theorem protectedSegmentLoad : Obligations.ProtectedSegmentLoad := by
  intro i r s s1 sel hload _ hs
  have hrun := hload.runsOn
  refine ⟨fun hn hr => ?null, fun hn hr => ?nullData, fun hn hti hlim => ?pastGdt, fun hn a d s2 hd => ?desc⟩
  case null =>
    subst hr
    exact hrun.fault (loadSegHeld_error (loadSeg_ss_null hs hn))
  case nullData =>
    have h := hrun.next (loadSegHeld_ok (loadSeg_data_null hs hr hn))
    rwa [if_neg hr] at h
  case pastGdt => exact hrun.fault (loadSegHeld_error (loadSeg_noDesc hs hn r (readDesc_pastGdt _ hti hlim)))
  case desc =>
    exact ⟨fun hbad => hrun.fault (loadSegHeld_error (loadSeg_unusable hs hn hd hbad)),
      fun hok hp => hrun.fault (loadSegHeld_error (loadSeg_notPresent hs hn hd hok hp)),
      fun hok hp s3 hm => hrun.next (loadSegHeld_ok (loadSeg_ok hs hn hd hok hp hm))⟩

end Sys2Proof.Machine
end

section
/-! SUPPORT, and O23. Far JMP, CALL and RET in protected mode: the checks of their target, one lemma per outcome, and the
transfers. -/
namespace Sys2Proof.Machine
open Sys2Proof

/-! The target of a far JMP or CALL (R332): the checks in their order. -/

/-- A code segment to which a JMP or CALL may go at level `cpl` with requested level `rpl`: conforming of the same or an inner
level, else of the same level. -/
def Attr.callable (t : Attr) (cpl rpl : BitVec 2) : Prop :=
  t.conforming = true ∧ t.dpl ≤ cpl ∨ t.conforming = false ∧ rpl ≤ cpl ∧ t.dpl = cpl

/-- The two checks of a target's level, for conforming and other segments (R332). -/
theorem Attr.callable_iff {t : Attr} {cpl rpl : BitVec 2} : t.callable cpl rpl ↔
    ¬ (t.conforming && decide (cpl < t.dpl)) = true ∧ ¬ (!t.conforming && (decide (cpl < rpl) || t.dpl != cpl)) = true := by
  cases h : t.conforming <;> simp [Attr.callable, h]

/-- System descriptors that are no target of a far JMP or CALL (R332). -/
theorem farSystem_other {typ : BitVec 4} (h : typ ∈ [0#4, 2#4, 6#4, 7#4, 8#4, 0xA#4, 0xD#4, 0xE#4, 0xF#4]) (bad : Exc)
    (s : State) : farSystem typ bad s = .error (.exc bad) s := by
  simp only [List.mem_cons, List.not_mem_nil, or_false] at h
  rcases h with rfl | rfl | rfl | rfl | rfl | rfl | rfl | rfl | rfl <;> rfl
/-- Task state segments: a task switch is outside the spec (D21). -/
theorem farSystem_task {typ : BitVec 4} (h : typ ∈ [1#4, 3#4, 9#4, 0xB#4]) (bad : Exc) (s : State) :
    farSystem typ bad s = .error (.refuse .taskSwitch) s := by
  simp only [List.mem_cons, List.not_mem_nil, or_false] at h
  rcases h with rfl | rfl | rfl | rfl <;> rfl
/-- Call gates are outside the spec (D21). -/
theorem farSystem_call {typ : BitVec 4} (h : typ ∈ [4#4, 0xC#4]) (bad : Exc) (s : State) :
    farSystem typ bad s = .error (.refuse .callGate) s := by
  simp only [List.mem_cons, List.not_mem_nil, or_false] at h
  rcases h with rfl | rfl <;> rfl

section
variable {sel : Word16} {off : Word} {s : State} (hs : s.realLike = false)
include hs

theorem checkFar_null (h : nullSel sel = true) : checkFar sel off s = .error (.exc (.gp 0#16)) s :=
  (congrFun (if_neg (by simp [hs])) s).trans (run_check_raise h)

variable (hn : nullSel sel = false) {a : Word} {d : BitVec 64} {t : State}
  (hd : readDesc sel (.gp (selCode sel)) s = .ok (a, d) t)
include hn hd

/-- What is no code segment: gates and task state segments, or no target. -/
theorem checkFar_notCode (hcode : (descAttr d).code = false) : checkFar sel off s =
    (if !(descAttr d).dt then farSystem (descAttr d).typ (.gp (selCode sel)) else raise (.gp (selCode sel))) t :=
  (congrFun (if_neg (by simp [hs])) s).trans <| (run_check_pass (by simp [hn])).trans <| (run_bind_ok _ hd).trans <|
    congrFun (if_neg (by simp [hcode])) t
theorem checkFar_data (h : (descAttr d).data = true) : checkFar sel off s = .error (.exc (.gp (selCode sel))) t := by
  obtain ⟨hdt, htyp⟩ : (descAttr d).dt = true ∧ (descAttr d).typ.getLsbD 3 = false := by
    simpa only [Attr.data, Bool.and_eq_true, Bool.not_eq_true'] using h
  exact (checkFar_notCode hs hn hd (by rw [Attr.code, htyp, Bool.and_false])).trans <|
    congrFun (if_neg (by simp [hdt])) t
theorem checkFar_system (h : (descAttr d).dt = false) :
    checkFar sel off s = farSystem (descAttr d).typ (.gp (selCode sel)) t :=
  (checkFar_notCode hs hn hd (by rw [Attr.code, h, Bool.false_and])).trans (congrFun (if_pos (by simp [h])) t)

variable (hcode : (descAttr d).code = true)
include hcode

/-- A code segment: its level, its presence and its limit are checked. -/
theorem checkFar_code : checkFar sel off s =
    (do
      if (descAttr d).conforming && decide (s.cpl < (descAttr d).dpl) then raise (.gp (selCode sel))
      if !(descAttr d).conforming && (decide (s.cpl < rpl sel) || (descAttr d).dpl != s.cpl) then raise (.gp (selCode sel))
      if !(descAttr d).p then raise (.np (selCode sel))
      if decide (descLimit d < off) then raise (.gp 0#16)
      return { cs := Seg.ofDesc (selCode sel ||| s.cpl.setWidth 16) d, eip := off, desc := some (a, d) } : Act FarDest) t :=
  (congrFun (if_neg (by simp [hs])) s).trans <| (run_check_pass (by simp [hn])).trans <| (run_bind_ok _ hd).trans <|
    congrFun (if_pos hcode) t
theorem checkFar_notCallable (h : ¬ (descAttr d).callable s.cpl (rpl sel)) :
    checkFar sel off s = .error (.exc (.gp (selCode sel))) t := by
  refine (checkFar_code hs hn hd hcode).trans ?_
  rw [Attr.callable_iff, not_and, not_not] at h
  by_cases hconf : ((descAttr d).conforming && decide (s.cpl < (descAttr d).dpl)) = true
  · exact run_check_raise hconf
  · exact (run_check_pass hconf).trans (run_check_raise (h hconf))

variable (hok : (descAttr d).callable s.cpl (rpl sel))
include hok

/-- A segment to which the transfer may go: that it is present and takes in the offset is left to check. -/
theorem checkFar_callable : checkFar sel off s =
    (do
      if !(descAttr d).p then raise (.np (selCode sel))
      if decide (descLimit d < off) then raise (.gp 0#16)
      return { cs := Seg.ofDesc (selCode sel ||| s.cpl.setWidth 16) d, eip := off, desc := some (a, d) } : Act FarDest) t := by
  obtain ⟨hconf, hother⟩ := Attr.callable_iff.1 hok
  exact (checkFar_code hs hn hd hcode).trans <| (run_check_pass hconf).trans (run_check_pass hother)
theorem checkFar_notPresent (hp : (descAttr d).p = false) :
    checkFar sel off s = .error (.exc (.np (selCode sel))) t :=
  (checkFar_callable hs hn hd hcode hok).trans (run_check_raise (by simp [hp]))
variable (hp : (descAttr d).p = true)
include hp
theorem checkFar_pastLimit (hlim : descLimit d < off) : checkFar sel off s = .error (.exc (.gp 0#16)) t :=
  (checkFar_callable hs hn hd hcode hok).trans <| (run_check_pass (by simp [hp])).trans (run_check_raise (by simpa using hlim))
theorem checkFar_ok (hlim : off ≤ descLimit d) : checkFar sel off s =
    .ok { cs := Seg.ofDesc (selCode sel ||| s.cpl.setWidth 16) d, eip := off, desc := some (a, d) } t :=
  (checkFar_callable hs hn hd hcode hok).trans <| (run_check_pass (by simp [hp])).trans (run_check_pass (by simpa using hlim))
end

/-! The transfer (R334, R336). -/

section
variable {sel : Word16} {off off' a : Word} {cs : Seg} {d : BitVec 64} {s t u : State}
  (hc : checkFar sel off s = .ok { cs := cs, eip := off', desc := some (a, d) } t)
include hc

theorem jumpFar_ok (hm : markAccessed a d t = .ok () u) : jumpFar sel off s = .ok () (u.jumpedFar cs off') :=
  (run_bind_ok _ hc).trans (run_bind_ok _ hm)
theorem callFar_ok {sz : OSize} {v w : State} {pl : List (List PA)} {item : Word}
    (hpl : pushPlaces sz 1 [0#32, 0#32] t = .ok pl u) (hsel : selItem sz t.segs.cs.sel u = .ok item v)
    (hm : markAccessed a d v = .ok () w) (hitems : w.itemsOk pl = true) :
    callFar sz sel off s = .ok () ((w.pushed sz pl [item, t.eip]).jumpedFar cs off') :=
  (run_bind_ok _ hc).trans <| (run_bind_ok _ hpl).trans <| (run_bind_ok _ hsel).trans <| (run_bind_ok _ hm).trans
    (run_bind_ok _ (pushCommit_ok sz hitems _))
end

section
variable {i : Instr} {s s1 : State} {sel : Word16} {off : Word}

theorem farJump.runsOn (h : farJump i s s1 sel off) : RunsOn i s (jumpFar sel off) s1 := by
  rcases h with ⟨p, rfl, rfl, rfl, rfl⟩ | ⟨sz, m, rfl, hread⟩
  · exact ⟨_, rfl, rfl⟩
  · exact ⟨_, rfl, run_bind_ok _ hread⟩
theorem farCall.runsOn {sz : OSize} (h : farCall i sz s s1 sel off) : RunsOn i s (callFar sz sel off) s1 := by
  rcases h with ⟨p, rfl, rfl, rfl, rfl, rfl⟩ | ⟨m, rfl, hread⟩
  · exact ⟨_, rfl, rfl⟩
  · exact ⟨_, rfl, run_bind_ok _ hread⟩
/-- JMP and CALL check their target first, so that what the check raises they raise. -/
theorem runsOn_checkFar (h : farJump i s s1 sel off ∨ ∃ sz, farCall i sz s s1 sel off) :
    ∃ f, RunsOn i s (checkFar sel off >>= f) s1 := by
  rcases h with h | ⟨sz, h⟩
  · exact ⟨_, h.runsOn⟩
  · exact ⟨_, h.runsOn⟩
end

/-! RET in protected mode (R338): its two items are read, then the code segment is checked. -/

/-- A far return to the same level, its code segment checked. -/
def sameLevelRetf (sz : OSize) (n sel : Word16) (off a : Word) (d : BitVec 64) : Act Unit := do
  markAccessed a d
  dropStack sz 2 n.toNat
  upd fun s => { s with segs := { s.segs with cs := Seg.ofDesc sel d }, eip := off }
  transferred
/-- A far return to an outer level, its code segment checked. -/
def outerRetf (sz : OSize) (n sel : Word16) (off a : Word) (d : BitVec 64) : Act Unit := do
  outerReturn sz sel off a d 2 n.toNat none
  transferred
/-- A far return to offset `off` of the segment that `sel` names, from level `cpl`. -/
def protRetf (sz : OSize) (n sel : Word16) (off : Word) (cpl : BitVec 2) : Act Unit := do
  let (a, d) ← checkReturnSel sel off
  if rpl sel == cpl then sameLevelRetf sz n sel off a d else outerRetf sz n sel off a d

theorem retFar_prot {sz : OSize} {s s1 s2 : State} {off sel32 : Word} (n : Word16) (h0 : peekStack sz 0 s = .ok off s1)
    (h1 : peekStack sz 1 s1 = .ok sel32 s2) (hs : s2.realLike = false) :
    retFar sz n s = protRetf sz n (sel32.setWidth 16) off s2.cpl s2 :=
  (run_bind_ok _ (peekItem_ok h0)).trans <| (run_bind_ok _ (peekItem_ok h1)).trans (congrFun (if_neg (by simp [hs])) s2)
theorem retf_runsOn {i : Instr} {sz : OSize} {n : Word16} {s s1 s2 : State} {off sel32 : Word}
    (hi : i = .retfIw sz n ∨ n = 0#16 ∧ i = .retf sz) (h0 : peekStack sz 0 s = .ok off s1)
    (h1 : peekStack sz 1 s1 = .ok sel32 s2) (hs : s2.realLike = false) :
    RunsOn i s (protRetf sz n (sel32.setWidth 16) off s2.cpl) s2 := by
  rcases hi with rfl | ⟨rfl, rfl⟩
  · exact ⟨_, rfl, retFar_prot n h0 h1 hs⟩
  · exact ⟨_, rfl, retFar_prot _ h0 h1 hs⟩

section
variable {sz : OSize} {n sel : Word16} {off : Word} {cpl : BitVec 2} {s : State}

theorem protRetf_error {x : Stop} {t : State} (h : checkReturnSel sel off s = .error x t) :
    protRetf sz n sel off cpl s = .error x t := run_bind_error _ h

variable {a : Word} {d : BitVec 64} {t : State} (hc : checkReturnSel sel off s = .ok (a, d) t)
include hc

theorem protRetf_same (hlvl : rpl sel = cpl) {u : State} (hm : markAccessed a d t = .ok () u) :
    protRetf sz n sel off cpl s = .ok () ((u.popped sz 2 n.toNat).returnedFar (Seg.ofDesc sel d) off) :=
  (run_bind_ok _ hc).trans <| (congrFun (if_pos (by simpa using hlvl)) t).trans (run_bind_ok _ hm)
theorem protRetf_outer (hlvl : rpl sel ≠ cpl) : protRetf sz n sel off cpl s = outerRetf sz n sel off a d t :=
  (run_bind_ok _ hc).trans (congrFun (if_neg (by simpa using hlvl)) t)
end

/-- The place of the k-th item of a far return that releases `n` further bytes: the outer ESP and SS stand above these. -/
def retfPlace (sz : OSize) (n : Word16) (s : State) (k : Nat) : Word :=
  wrapSp s.segs.ss (s.stackPtr + BitVec.ofNat 32 (k * osBytes sz + n.toNat))
section
variable {sz : OSize} {n sel : Word16} {off a : Word} {d : BitVec 64} {s s1 s2 : State} {sp ss : Nat}
  (h2 : memRead .ss (retfPlace sz n s 2) (osBytes sz) (osBytes sz) s = .ok sp s1)
  (h3 : memRead .ss (retfPlace sz n s 3) (osBytes sz) (osBytes sz) s1 = .ok ss s2)
include h2 h3

/-- The outer stack pointer and segment are read, then the stack segment is checked. -/
theorem outerRetf_error {x : Stop} {s3 : State} (hc : checkOuterStack sel (BitVec.ofNat 16 ss) s2 = .error x s3) :
    outerRetf sz n sel off a d s = .error x s3 :=
  run_bind_error _ <| (run_bind_ok _ (before_ok _ h2)).trans <| (run_bind_ok _ h3).trans (run_bind_error _ hc)
variable {sa : Word} {sd : BitVec 64} {s3 s4 s5 : State}
  (hc : checkOuterStack sel (BitVec.ofNat 16 ss) s2 = .ok (sa, sd) s3) (hm : markAccessed a d s3 = .ok () s4)
  (hms : markAccessed sa sd s4 = .ok () s5)
include hc hm hms
theorem outerReturn_retf : outerReturn sz sel off a d 2 n.toNat none s = .ok () { s5 with
    segs := ({ s5.segs with cs := Seg.ofDesc sel d, ss := Seg.ofDesc (BitVec.ofNat 16 ss) sd } : Segs).afterReturn (rpl sel)
    cpl := rpl sel, eip := off
    regs := { s5.regs with
      esp := newEsp (Seg.ofDesc (BitVec.ofNat 16 ss) sd) s5.regs.esp (BitVec.ofNat 32 sp + BitVec.ofNat 32 n.toNat) } } :=
  (run_bind_ok _ (before_ok _ h2)).trans <| (run_bind_ok _ h3).trans <| (run_bind_ok _ hc).trans <|
    (run_bind_ok _ hm).trans (run_bind_ok _ hms)
theorem outerRetf_ok : outerRetf sz n sel off a d s = .ok () (s5.outerReturned (Seg.ofDesc sel d)
    (Seg.ofDesc (BitVec.ofNat 16 ss) sd) (rpl sel) off
    (newEsp (Seg.ofDesc (BitVec.ofNat 16 ss) sd) s5.regs.esp (BitVec.ofNat 32 sp + BitVec.ofNat 32 n.toNat))) :=
  run_bind_ok _ (outerReturn_retf h2 h3 hc hm hms)
end

/-- Settles O23: JMP and CALL by what the check of their target answers, RET by its level. -/
theorem protectedFarJump : Obligations.ProtectedFarJump := by
  refine ⟨?transfer, ?ret⟩
  case transfer =>
    intro i s s1 sel off htransfer hs
    obtain ⟨f, hrun⟩ := runsOn_checkFar htransfer
    have hfault {x : Exc} {t : State} (h : checkFar sel off s1 = .error (.exc x) t) :
        exec i s = deliverFault x (rollback s t) := hrun.fault (run_bind_error f h)
    have hrefused {r : Refusal} {t : State} (h : checkFar sel off s1 = .error (.refuse r) t) : exec i s = .refused r :=
      hrun.refused (run_bind_error f h)
    refine ⟨fun hn => hfault (checkFar_null hs hn), fun hn a d s2 hd =>
      ⟨?notCallable, ?notPresent, ?pastLimit, ?data, ?system, ?go⟩⟩
    case notCallable => exact fun hcode h => hfault (checkFar_notCallable hs hn hd hcode h)
    case notPresent => exact fun hcode hok hp => hfault (checkFar_notPresent hs hn hd hcode hok hp)
    case pastLimit => exact fun hcode hok hp hlim => hfault (checkFar_pastLimit hs hn hd hcode hok hp hlim)
    case data => exact fun hdata => hfault (checkFar_data hs hn hd hdata)
    case system =>
      intro hdt
      have hsys := checkFar_system (off := off) hs hn hd hdt
      exact ⟨fun h => hrefused (hsys.trans (farSystem_call h _ _)),
        fun h => hrefused (hsys.trans (by rw [h]; rfl)),
        fun h => hrefused (hsys.trans (farSystem_task h _ _)),
        fun h => hfault (hsys.trans (farSystem_other h _ _))⟩
    case go =>
      intro hcode hok hp hlim
      have hc := checkFar_ok hs hn hd hcode hok hp hlim
      exact ⟨fun hjump s3 hm => hjump.runsOn.next (jumpFar_ok hc hm),
        fun sz s3 s4 s5 pl v hcall hpl hsel hm hitems => hcall.runsOn.next (callFar_ok hc hpl hsel hm hitems)⟩
  case ret =>
    intro sz n i s s1 s2 off sel32 hi h0 h1 hs
    have hrun := retf_runsOn hi h0 h1 hs
    refine ⟨fun x s3 hx => hrun.fault (protRetf_error hx), fun a d s3 hc =>
      ⟨fun hlvl s4 hm => ?same, fun hlvl s4 s5 sp ss => ?outer⟩⟩
    case same => exact hrun.next (protRetf_same hc hlvl hm)
    case outer =>
      have houter := protRetf_outer (sz := sz) (n := n) hc hlvl
      exact fun h2 h3 => ⟨fun x s6 hx => hrun.fault (houter.trans (outerRetf_error h2 h3 hx)),
        fun sa sd s6 s7 s8 hok hm hms => hrun.next (houter.trans (outerRetf_ok h2 h3 hok hm hms))⟩

end Sys2Proof.Machine
end

section
/-! SUPPORT. Decoding what the encoder wrote (R240 to R253): the fields, the operand readers, the operand forms, the opcode map. -/
namespace Sys2Proof

/-! Fields of the operand bytes, and the numbers of registers, bases and scales (R246 to R249). -/

@[simp] theorem hi2_fieldsByte (hi : BitVec 2) (mid lo : Bits3) : Byte.hi2 (fieldsByte hi mid lo) = hi.toNat := by
  revert hi mid lo; decide
@[simp] theorem mid3_fieldsByte (hi : BitVec 2) (mid lo : Bits3) : Byte.mid3 (fieldsByte hi mid lo) = mid.toNat := by
  revert hi mid lo; decide
@[simp] theorem lo3_fieldsByte (hi : BitVec 2) (mid lo : Bits3) : Byte.lo3 (fieldsByte hi mid lo) = lo.toNat := by
  revert hi mid lo; decide

@[simp] theorem Reg.ofNum_num (r : Reg) : Reg.ofNum r.num.toNat = r := by cases r <;> rfl
@[simp] theorem Reg8.ofNum_num (r : Reg8) : Reg8.ofNum r.num.toNat = r := by cases r <;> rfl
@[simp] theorem MmReg.ofNum_num (r : MmReg) : MmReg.ofNum r.num.toNat = r := by cases r <;> rfl
@[simp] theorem SegReg.ofNum?_num (r : SegReg) : SegReg.ofNum? r.num.toNat = some r := by cases r <;> rfl
@[simp] theorem Base16.ofNum_num (b : Base16) : Base16.ofNum b.num.toNat = b := by cases b <;> rfl
@[simp] theorem Scale.ofNum_num (sc : Scale) : Scale.ofNum sc.num.toNat = sc := by cases sc <;> rfl

/-! The numbers that stand for another form where there is no displacement, or for no register at all (R248, R249). -/

theorem Base16.num_eq_six (b : Base16) : b.num.toNat = 6 ↔ b = .bp := by cases b <;> decide
theorem Reg.num_eq_four (r : Reg) : r.num.toNat = 4 ↔ r = .esp := by cases r <;> decide
theorem Reg.num_eq_five (r : Reg) : r.num.toNat = 5 ↔ r = .ebp := by cases r <;> decide
theorem sibIndex_sibIndexNum {i : Option Reg} (h : i ≠ some .esp) : sibIndex (sibIndexNum i).toNat = i := by
  cases i with
  | none => rfl
  | some r =>
    have hr : r.num.toNat ≠ 4 := fun e => h (congrArg some (r.num_eq_four.1 e))
    simp [sibIndex, sibIndexNum, hr]

/-! Immediates, moffs operands and far pointers (R250, R252, R253). -/

section
variable {α : Type} (rest : List Byte)

@[simp] theorem u8_cons (b : Byte) (k : Byte → List Byte → Dec α) : u8 (b :: rest) k = k b rest := rfl
@[simp] theorem u16_le16 (v : Word16) (k : Word16 → List Byte → Dec α) : u16 (le16 v ++ rest) k = k v rest :=
  congrArg (k · rest) ((BitVec.extractLsb'_append_extractLsb'_eq_extractLsb' rfl).trans BitVec.extractLsb'_eq_self)
theorem le32_join (v : Word) :
    v.extractLsb' 24 8 ++ v.extractLsb' 16 8 ++ v.extractLsb' 8 8 ++ v.extractLsb' 0 8 = v := by
  rw [BitVec.extractLsb'_append_extractLsb'_eq_extractLsb' (start₂ := 24) rfl,
    BitVec.extractLsb'_append_extractLsb'_eq_extractLsb' (start₂ := 16) rfl,
    BitVec.extractLsb'_append_extractLsb'_eq_extractLsb' (start₂ := 8) rfl]
  exact BitVec.extractLsb'_eq_self
@[simp] theorem u32_le32 (v : Word) (k : Word → List Byte → Dec α) : u32 (le32 v ++ rest) k = k v rest :=
  congrArg (k · rest) (le32_join v)
theorem uImm_enc {os : OSize} {v : Imm} (h : v.osize = os) (k : Imm → List Byte → Dec α) :
    uImm os (v.enc ++ rest) k = k v rest := by
  subst h
  cases v with
  | i16 v => exact u16_le16 rest v fun v => k (.i16 v)
  | i32 v => exact u32_le32 rest v fun v => k (.i32 v)
theorem uMoffs_enc {as : ASize} {o : Moffs} (h : o.asize = as) (k : Moffs → List Byte → Dec α) :
    uMoffs as (o.enc ++ rest) k = k o rest := by
  subst h
  cases o with
  | o16 v => exact u16_le16 rest v fun v => k (.o16 v)
  | o32 v => exact u32_le32 rest v fun v => k (.o32 v)
theorem uFar_enc {os : OSize} {p : FarPtr} (h : p.off.osize = os) (k : FarPtr → List Byte → Dec α) :
    uFar os (p.enc ++ rest) k = k p rest := by
  rw [uFar, FarPtr.enc, List.append_assoc, uImm_enc _ h, u16_le16]
end

/-! Memory operands (R247 to R249): the fields of the ModR/M byte, and the bytes after it. -/

/-- The mod field of a 16-bit displacement. -/
@[simp] def Disp16.modField : Disp16 → BitVec 2
  | .none => 0#2
  | .d8 _ => 1#2
  | .d16 _ => 2#2
/-- The mod field of a 32-bit displacement. -/
@[simp] def Disp32.modField : Disp32 → BitVec 2
  | .none => 0#2
  | .d8 _ => 1#2
  | .d32 _ => 2#2
/-- The bytes of a 16-bit displacement. -/
@[simp] def Disp16.enc : Disp16 → List Byte
  | .none => []
  | .d8 d => [d]
  | .d16 d => le16 d
/-- The bytes of a 32-bit displacement. -/
@[simp] def Disp32.enc : Disp32 → List Byte
  | .none => []
  | .d8 d => [d]
  | .d32 d => le32 d
/-- The mod field of a memory operand. -/
def Mem.modField : Mem → BitVec 2
  | .m16 _ d => d.modField
  | .m32 _ d | .sib _ _ _ d => d.modField
  | .direct16 _ | .direct32 _ | .sibNoBase _ _ _ => 0#2
/-- The r/m field of a memory operand. -/
def Mem.rmField : Mem → Bits3
  | .m16 b _ => b.num
  | .direct16 _ => 6#3
  | .m32 b _ => b.num
  | .direct32 _ => 5#3
  | .sib _ _ _ _ | .sibNoBase _ _ _ => 4#3
/-- What follows the ModR/M byte of a memory operand: the SIB byte and the displacement. -/
def Mem.tail : Mem → List Byte
  | .m16 _ d => d.enc
  | .direct16 d => le16 d
  | .m32 _ d => d.enc
  | .direct32 d => le32 d
  | .sib b i sc d => fieldsByte sc.num (sibIndexNum i) b.num :: d.enc
  | .sibNoBase i sc d => fieldsByte sc.num (sibIndexNum i) 5#3 :: le32 d

theorem Mem.enc_eq (g : Bits3) (m : Mem) : m.enc g = fieldsByte m.modField g m.rmField :: m.tail := by
  cases m with
  | m16 _ d => cases d <;> rfl
  | m32 _ d => cases d <;> rfl
  | sib _ _ _ d => cases d <;> rfl
  | direct16 | direct32 | sibNoBase => rfl
theorem Disp16.modField_ne (d : Disp16) : d.modField.toNat ≠ 3 := by cases d <;> simp
theorem Disp32.modField_ne (d : Disp32) : d.modField.toNat ≠ 3 := by cases d <;> simp
/-- A memory operand is never read as a register. -/
theorem Mem.modField_ne (m : Mem) : m.modField.toNat ≠ 3 := by
  cases m with
  | m16 _ d => exact d.modField_ne
  | m32 _ d | sib _ _ _ d => exact d.modField_ne
  | direct16 | direct32 | sibNoBase => simp [Mem.modField]

/-- The memory operand is well formed, in a form of address size `as`. -/
structure Mem.Reads (as : ASize) (m : Mem) : Prop where
  wf : m.wf = true
  size : m.asize = as

section
variable {α : Type} (rest : List Byte) (k : Mem → List Byte → Dec α)

theorem uMem16_m16 {b : Base16} {d : Disp16} (h : b ≠ .bp ∨ d ≠ .none) :
    uMem16 d.modField.toNat b.num.toNat (d.enc ++ rest) k = k (.m16 b d) rest := by
  cases d with
  | none => simp [uMem16, b.num_eq_six, h.neg_resolve_right]
  | d8 d => simp [uMem16]
  | d16 d => simp [uMem16]
theorem uMem32_m32 {b : Reg} {d : Disp32} (hb : b ≠ .esp) (h : b ≠ .ebp ∨ d ≠ .none) :
    uMem32 d.modField.toNat b.num.toNat (d.enc ++ rest) k = k (.m32 b d) rest := by
  cases d with
  | none => simp [uMem32, b.num_eq_four, hb, b.num_eq_five, h.neg_resolve_right]
  | d8 d => simp [uMem32, b.num_eq_four, hb]
  | d32 d => simp [uMem32, b.num_eq_four, hb]
theorem uSib_sib {b : Reg} {i : Option Reg} (sc : Scale) {d : Disp32} (hi : i ≠ some .esp) (h : b ≠ .ebp ∨ d ≠ .none) :
    uSib d.modField.toNat (fieldsByte sc.num (sibIndexNum i) b.num :: (d.enc ++ rest)) k = k (.sib b i sc d) rest := by
  cases d with
  | none => simp [uSib, sibIndex_sibIndexNum hi, b.num_eq_five, h.neg_resolve_right]
  | d8 d => simp [uSib, sibIndex_sibIndexNum hi]
  | d32 d => simp [uSib, sibIndex_sibIndexNum hi]
theorem uSib_sibNoBase {i : Option Reg} (sc : Scale) (d : Word) (hi : i ≠ some .esp) :
    uSib 0 (fieldsByte sc.num (sibIndexNum i) 5#3 :: (le32 d ++ rest)) k = k (.sibNoBase i sc d) rest := by
  simp [uSib, sibIndex_sibIndexNum hi]

/-- The reader of memory operands on the fields and the bytes that the encoder writes. -/
theorem uMem_tail {as : ASize} {m : Mem} (h : m.Reads as) :
    uMem as m.modField.toNat m.rmField.toNat (m.tail ++ rest) k = k m rest := by
  obtain ⟨hwf, rfl⟩ := h
  cases m with
  | m16 b d => exact uMem16_m16 rest k (by simpa [Mem.wf] using hwf)
  | direct16 d => exact u16_le16 rest d fun d => k (.direct16 d)
  | m32 b d =>
    have h : b ≠ .esp ∧ (b ≠ .ebp ∨ d ≠ .none) := by simpa [Mem.wf] using hwf
    exact uMem32_m32 rest k h.1 h.2
  | direct32 d => exact u32_le32 rest d fun d => k (.direct32 d)
  | sib b i sc d =>
    have h : i ≠ some .esp ∧ (b ≠ .ebp ∨ d ≠ .none) := by simpa [Mem.wf] using hwf
    exact uSib_sib rest k sc h.1 h.2
  | sibNoBase i sc d => exact uSib_sibNoBase rest k sc d (by simpa [Mem.wf] using hwf)
end

/-! ModR/M with its operand (R247). -/

/-- The encoder of a register or memory operand, for registers numbered by `num`. -/
def RM.enc {ρ : Type} (num : ρ → Bits3) (g : Bits3) : RM ρ → List Byte
  | .reg r => [fieldsByte 3#2 g (num r)]
  | .mem m => m.enc g
theorem encRM8_eq (g : Bits3) (d : RM8) : encRM8 g d = d.enc Reg8.num g := by cases d <;> rfl
theorem encRMv_eq (g : Bits3) (d : RMv) : encRMv g d = d.enc Reg.num g := by cases d <;> rfl
theorem encRMmm_eq (g : Bits3) (d : RMmm) : encRMmm g d = d.enc MmReg.num g := by cases d <;> rfl

/-- The operand is a register, or a well-formed memory operand in a form of address size `as`. -/
structure RM.Reads {ρ : Type} (as : ASize) (d : RM ρ) : Prop where
  wf : d.wf = true
  size : ∀ az, d.asize? = some az → az = as
theorem RM.Reads.mem {ρ : Type} {as : ASize} {m : Mem} (h : (RM.mem m : RM ρ).Reads as) : m.Reads as := ⟨h.wf, h.size _ rfl⟩

section
variable {ρ α : Type} {as : ASize} (g : Bits3) (rest : List Byte)

theorem modrm_enc {num : ρ → Bits3} {ofNum : Nat → ρ} (hnum : ∀ r, ofNum (num r).toNat = r) {d : RM ρ} (h : d.Reads as)
    (k : Nat → RM ρ → List Byte → Dec α) : modrm as ofNum (d.enc num g ++ rest) k = k g.toNat d rest := by
  cases d with
  | reg r => simp [RM.enc, modrm, hnum]
  | mem m => simp only [RM.enc, Mem.enc_eq, List.cons_append, modrm, u8_cons, hi2_fieldsByte, mid3_fieldsByte, lo3_fieldsByte,
      if_neg m.modField_ne, uMem_tail _ _ h.mem]
theorem modrm_encRM8 {d : RM8} (h : d.Reads as) (k : Nat → RM8 → List Byte → Dec α) :
    modrm as Reg8.ofNum (encRM8 g d ++ rest) k = k g.toNat d rest := encRM8_eq g d ▸ modrm_enc g rest Reg8.ofNum_num h k
theorem modrm_encRMv {d : RMv} (h : d.Reads as) (k : Nat → RMv → List Byte → Dec α) :
    modrm as Reg.ofNum (encRMv g d ++ rest) k = k g.toNat d rest := encRMv_eq g d ▸ modrm_enc g rest Reg.ofNum_num h k
theorem modrm_encRMmm {d : RMmm} (h : d.Reads as) (k : Nat → RMmm → List Byte → Dec α) :
    modrm as MmReg.ofNum (encRMmm g d ++ rest) k = k g.toNat d rest := encRMmm_eq g d ▸ modrm_enc g rest MmReg.ofNum_num h k
theorem memOnly_enc {m : Mem} (h : m.Reads as) (k : Nat → Mem → List Byte → Dec α) :
    memOnly as (m.enc g ++ rest) k = k g.toNat m rest := by
  simp only [Mem.enc_eq, List.cons_append, memOnly, u8_cons, hi2_fieldsByte, mid3_fieldsByte, lo3_fieldsByte,
    if_neg m.modField_ne, uMem_tail _ _ h]

/-! The reg field that a group looks at first (R257, R261). -/

@[simp] theorem peek_encMem (m : Mem) (k : Nat → Dec α) : peek (m.enc g ++ rest) k = k g.toNat := by
  simp [Mem.enc_eq, peek]
theorem peek_enc (num : ρ → Bits3) (d : RM ρ) (k : Nat → Dec α) : peek (d.enc num g ++ rest) k = k g.toNat := by
  cases d with
  | reg r => simp [RM.enc, peek]
  | mem m => exact peek_encMem g rest m k
@[simp] theorem peek_encRM8 (d : RM8) (k : Nat → Dec α) : peek (encRM8 g d ++ rest) k = k g.toNat :=
  encRM8_eq g d ▸ peek_enc g rest Reg8.num d k
@[simp] theorem peek_encRMv (d : RMv) (k : Nat → Dec α) : peek (encRMv g d ++ rest) k = k g.toNat :=
  encRMv_eq g d ▸ peek_enc g rest Reg.num d k
end

/-! The operand forms of the opcode map. -/

section
variable {c : Ctx} (g : Bits3) (rest : List Byte)

theorem iw_enc (v : Word16) (f : Word16 → Instr) : (u16 (le16 v ++ rest) fun v r => .ok (f v) r) = .ok (f v) rest :=
  u16_le16 rest v _
theorem iv_enc {imm : Imm} (h : imm.osize = c.os) (f : Imm → Instr) :
    (uImm c.os (imm.enc ++ rest) fun i r => .ok (f i) r) = .ok (f imm) rest := uImm_enc rest h _
theorem moffs_enc {o : Moffs} (h : o.asize = c.as) (f : Moffs → Instr) :
    (uMoffs c.as (o.enc ++ rest) fun o r => .ok (f o) r) = .ok (f o) rest := uMoffs_enc rest h _
theorem far_enc {p : FarPtr} (h : p.off.osize = c.os) (f : FarPtr → Instr) :
    (uFar c.os (p.enc ++ rest) fun p r => .ok (f p) r) = .ok (f p) rest := uFar_enc rest h _
theorem ebGb_enc {d : RM8} (h : d.Reads c.as) (s : Reg8) (f : RM8 → Reg8 → Instr) :
    ebGb c (encRM8 s.num d ++ rest) f = .ok (f d s) rest := by simp [ebGb, modrm_encRM8 _ _ h]
theorem evGv_enc {d : RMv} (h : d.Reads c.as) (s : Reg) (f : RMv → Reg → Instr) :
    evGv c (encRMv s.num d ++ rest) f = .ok (f d s) rest := by simp [evGv, modrm_encRMv _ _ h]
theorem gbEb_enc {d : RM8} (h : d.Reads c.as) (s : Reg8) (f : Reg8 → RM8 → Instr) :
    modrm c.as Reg8.ofNum (encRM8 s.num d ++ rest) (fun g e r => .ok (f (Reg8.ofNum g) e) r) = .ok (f s d) rest := by
  simp [modrm_encRM8 _ _ h]
theorem gvEv_enc {d : RMv} (h : d.Reads c.as) (s : Reg) (f : Reg → RMv → Instr) :
    modrm c.as Reg.ofNum (encRMv s.num d ++ rest) (fun g e r => .ok (f (Reg.ofNum g) e) r) = .ok (f s d) rest := by
  simp [modrm_encRMv _ _ h]
theorem pqEv_enc {d : RMv} (h : d.Reads c.as) (s : MmReg) (f : MmReg → RMv → Instr) :
    modrm c.as Reg.ofNum (encRMv s.num d ++ rest) (fun g e r => .ok (f (MmReg.ofNum g) e) r) = .ok (f s d) rest := by
  simp [modrm_encRMv _ _ h]
theorem pqQq_enc {d : RMmm} (h : d.Reads c.as) (s : MmReg) (f : MmReg → RMmm → Instr) :
    modrm c.as MmReg.ofNum (encRMmm s.num d ++ rest) (fun g e r => .ok (f (MmReg.ofNum g) e) r) = .ok (f s d) rest := by
  simp [modrm_encRMmm _ _ h]
theorem eb_enc {d : RM8} (h : d.Reads c.as) (f : RM8 → Instr) : eb c (encRM8 g d ++ rest) f = .ok (f d) rest :=
  modrm_encRM8 g rest h _
theorem ev_enc {d : RMv} (h : d.Reads c.as) (f : RMv → Instr) : ev c (encRMv g d ++ rest) f = .ok (f d) rest :=
  modrm_encRMv g rest h _
theorem ebIb_enc {d : RM8} (h : d.Reads c.as) (imm : Byte) (f : RM8 → Byte → Instr) :
    ebIb c (encRM8 g d ++ imm :: rest) f = .ok (f d imm) rest := modrm_encRM8 g _ h _
theorem evIb_enc {d : RMv} (h : d.Reads c.as) (imm : Byte) (f : RMv → Byte → Instr) :
    evIb c (encRMv g d ++ imm :: rest) f = .ok (f d imm) rest := modrm_encRMv g _ h _
theorem evIv_enc {d : RMv} (h : d.Reads c.as) {imm : Imm} (hi : imm.osize = c.os) (f : RMv → Imm → Instr) :
    evIv c (encRMv g d ++ (imm.enc ++ rest)) f = .ok (f d imm) rest :=
  (modrm_encRMv g _ h _).trans (uImm_enc rest hi _)
theorem m1_enc {m : Mem} (h : m.Reads c.as) (f : Mem → Instr) : m1 c (m.enc g ++ rest) f = .ok (f m) rest :=
  memOnly_enc g rest h _
theorem memSreg_enc {m : Mem} (h : m.Reads c.as) (s : SegReg) (f : Mem → SegReg → Instr) :
    memSreg c (m.enc s.num ++ rest) f = .ok (f m s) rest := by simp [memSreg, memOnly_enc _ _ h]
theorem mem80_enc {m : Mem} (h : m.Reads c.as) (f : Mem → Instr) : mem80 c (m.enc 0#3 ++ rest) f = .ok (f m) rest :=
  memOnly_enc 0#3 rest h _
theorem special_enc (n : Bits3) (r : Reg) (f : Bits3 → Reg → Instr) :
    special (fieldsByte 3#2 n r.num :: rest) f = .ok (f n r) rest := by simp [special]
end

/-! The opcodes whose operand bytes say more than their form: the ESC class and WAIT (R264, R401). -/

section
variable {c : Ctx} (rest : List Byte)

theorem decode_escByte (op : Bits3) (bs : List Byte) : decode c (fieldsByte 3#2 3#3 op :: bs) = decodeEsc c op bs := by
  have hop : op = 0#3 ∨ op = 1#3 ∨ op = 2#3 ∨ op = 3#3 ∨ op = 4#3 ∨ op = 5#3 ∨ op = 6#3 ∨ op = 7#3 := by
    revert op; decide
  rcases hop with rfl | rfl | rfl | rfl | rfl | rfl | rfl | rfl <;> rfl
theorem decodeEsc_mem {m : Mem} (h : m.Reads c.as) (op g : Bits3) : decodeEsc c op (m.enc g ++ rest) =
    if op = 5#3 ∧ g = 6#3 then .ok (.fnsave c.os m) rest
    else if op = 5#3 ∧ g = 4#3 then .ok (.frstor c.os m) rest
    else if op = 1#3 ∧ g = 6#3 then .ok (.fnstenv c.os m) rest
    else .ok (.esc op g (.mem m)) rest := by
  have hm : (RM.mem m : RMmm).Reads c.as := ⟨h.wf, fun _ e => Option.some.inj e ▸ h.size⟩
  have hslot (n : Bits3) : g = n ↔ g.toNat = n.toNat := BitVec.toNat_inj.symm
  rw [decodeEsc, show m.enc g = encRMmm g (.mem m) from rfl, modrm_encRMmm g rest hm]
  simp [hslot]
theorem decodeEsc_esc {op g : Bits3} {d : RMmm} (h : d.Reads c.as) (hn : escNamed op g d = false) :
    decodeEsc c op (encRMmm g d ++ rest) = .ok (.esc op g d) rest := by
  cases d with
  | reg r => simp [decodeEsc, modrm_encRMmm _ _ h]
  | mem m =>
    have hfree : (¬(op = 5#3 ∧ g = 6#3) ∧ ¬(op = 5#3 ∧ g = 4#3)) ∧ ¬(op = 1#3 ∧ g = 6#3) := by
      simpa [escNamed] using hn
    obtain ⟨⟨hsave, hrestore⟩, henv⟩ := hfree
    rw [encRMmm, decodeEsc_mem rest h.mem, if_neg hsave, if_neg hrestore, if_neg henv]
theorem decodeWait_save {m : Mem} (h : m.Reads c.as) (hbare : c.bare = true) {b : Byte} (hb : b = 0xDD#8 ∨ b = 0xD9#8) :
    decodeWait c (b :: (m.enc 6#3 ++ rest)) = .ok (if b = 0xDD#8 then .fsave c.os m else .fstenv c.os m) rest := by
  have hm := memOnly_enc (α := Instr) 6#3 rest h
  rw [Mem.enc_eq, List.cons_append] at hm ⊢
  simp [decodeWait, hbare, hb, m.modField_ne, hm]
end

/-! The opcode map. -/

theorem Instr.wf_movSwEw {d : SegReg} {s : RMv} : (Instr.movSwEw d s).wf = true ↔ s.wf = true ∧ d ≠ .cs := by
  change (s.wf && !(d == .cs)) = true ↔ _
  simp
theorem Instr.wf_esc {op g : Bits3} {d : RMmm} : (Instr.esc op g d).wf = true ↔ d.wf = true ∧ escNamed op g d = false := by
  change (d.wf && !escNamed op g d) = true ↔ _
  simp
theorem Ctx.bareFits_wait {c : Ctx} : c.bareFits .wait = true ↔ ¬c.bare = true := by
  change (!c.bare) = true ↔ _
  simp

/-- What `Ctx.fits` asks: the sizes are the context's, where the operands imply any. -/
theorem Ctx.fits_sizes {c : Ctx} {i : Instr} (h : c.fits i = true) : (∀ sz, i.osize? = some sz → sz = c.os) ∧
    (∀ az, i.asize? = some az → az = c.as) ∧ c.bareFits i = true := by
  simp only [Ctx.fits, Bool.and_eq_true, Bool.or_eq_true, beq_iff_eq] at h
  obtain ⟨⟨hos, has⟩, hbare⟩ := h
  exact ⟨fun sz e => by simpa [e] using hos, fun az e => by simpa [e] using has, hbare⟩

/-- One case per form of the operand bytes. Where the opcode alone says the form, the decoder computes to the reader of that form;
in a group it first looks at the reg field. -/
theorem decode_encode {c : Ctx} {i : Instr} (rest : List Byte) (hwf : i.wf = true)
    (hos : ∀ sz, i.osize? = some sz → sz = c.os) (has : ∀ az, i.asize? = some az → az = c.as) (hbare : c.bareFits i = true) :
    decode c (encode i ++ rest) = .ok i rest := by
  cases i with
  | segEs | segCs | segSs | segDs | segFs | segGs | opsize | adsize | lock | repne | rep | nop | int3 | into | inAlDx | outDxAl
  | hlt | cli | sti | invd | wbinvd | wrmsr | rdtsc | rdmsr | rdpmc | smint | emms | cpuid | rsm => rfl
  | addAlIb | orAlIb | adcAlIb | sbbAlIb | andAlIb | subAlIb | xorAlIb | intN | inAlIb | outIbAl => rfl
  | pushEs sz | pushCs sz | pushSs sz | pushDs sz | popEs sz | popSs sz | popDs sz | pushFs sz | popFs sz | pushGs sz
  | popGs sz | pusha sz | popa sz | pushf sz | popf sz | ret sz | retf sz | iret sz | inAxDx sz | outDxAx sz
  | pushIbs sz _ | inAxIb sz _ | outIbAx sz _ | jmpRel8 sz _ =>
    obtain rfl := hos sz rfl
    rfl
  | insb az | outsb az | movsb az | stosb az | xlat az =>
    obtain rfl := has az rfl
    rfl
  | insv sz az | outsv sz az | movsv sz az | stosv sz az | loopne sz az _ | loope sz az _ | loop sz az _ =>
    obtain rfl := hos sz rfl
    obtain rfl := has az rfl
    rfl
  | incR sz r | decR sz r | pushR sz r | popR sz r =>
    obtain rfl := hos sz rfl
    cases r <;> rfl
  | xchgAx sz r =>
    obtain rfl := hos sz rfl
    cases r with
    | eax => cases hwf
    | _ => rfl
  | movRIb r => cases r <;> rfl
  | movRIv r imm => cases r <;> exact .trans rfl (iv_enc rest (hos _ rfl) _)
  | addAxIv | orAxIv | adcAxIv | sbbAxIv | andAxIv | subAxIv | xorAxIv | pushIv | callRel | jmpRel =>
    exact .trans rfl (iv_enc rest (hos _ rfl) _)
  | movAlOb | movObAl => exact .trans rfl (moffs_enc rest (has _ rfl) _)
  | movAxOv sz | movOvAx sz =>
    obtain rfl := hos sz rfl
    exact .trans rfl (moffs_enc rest (has _ rfl) _)
  | callPtr | jmpPtr => exact .trans rfl (far_enc rest (hos _ rfl) _)
  | retIw sz n | retfIw sz n =>
    obtain rfl := hos sz rfl
    exact .trans rfl (iw_enc rest n _)
  | addEbGb d s | orEbGb d s | adcEbGb d s | sbbEbGb d s | andEbGb d s | subEbGb d s | xorEbGb d s | xchgEbGb d s
  | movEbGb d s | cmpxchgEbGb d s | xaddEbGb d s => exact .trans rfl (ebGb_enc rest ⟨hwf, has⟩ s _)
  | addEvGv sz d s | orEvGv sz d s | adcEvGv sz d s | sbbEvGv sz d s | andEvGv sz d s | subEvGv sz d s | xorEvGv sz d s
  | xchgEvGv sz d s | movEvGv sz d s | cmpxchgEvGv sz d s | xaddEvGv sz d s | btsEvGv sz d s | btrEvGv sz d s
  | btcEvGv sz d s =>
    obtain rfl := hos sz rfl
    exact .trans rfl (evGv_enc rest ⟨hwf, has⟩ s _)
  | addGbEb d s | orGbEb d s | adcGbEb d s | sbbGbEb d s | andGbEb d s | subGbEb d s | xorGbEb d s | movGbEb d s =>
    exact .trans rfl (gbEb_enc rest ⟨hwf, has⟩ d _)
  | addGvEv sz d s | orGvEv sz d s | adcGvEv sz d s | sbbGvEv sz d s | andGvEv sz d s | subGvEv sz d s | xorGvEv sz d s
  | movGvEv sz d s =>
    obtain rfl := hos sz rfl
    exact .trans rfl (gvEv_enc rest ⟨hwf, has⟩ d _)
  | movdPE d s => exact .trans rfl (pqEv_enc rest ⟨hwf, has⟩ d _)
  | movdEP d s => exact .trans rfl (pqEv_enc rest ⟨hwf, has⟩ s fun s d => .movdEP d s)
  | movqPQ d s => exact .trans rfl (pqQq_enc rest ⟨hwf, has⟩ d _)
  | movqQP d s => exact .trans rfl (pqQq_enc rest ⟨hwf, has⟩ s fun s d => .movqQP d s)
  | movEwSw sz d s =>
    obtain rfl := hos sz rfl
    change decode8 c 0xC (encRMv s.num d ++ rest) = _
    simp [decode8, modrm_encRMv _ _ ⟨hwf, has⟩]
  | movSwEw d s =>
    obtain ⟨hs, hd⟩ := Instr.wf_movSwEw.1 hwf
    change decode8 c 0xE (encRMv d.num s ++ rest) = _
    simp [decode8, modrm_encRMv _ _ ⟨hs, has⟩]
  | bound sz r m =>
    obtain rfl := hos sz rfl
    change decode6 c 2 (m.enc r.num ++ rest) = _
    simp [decode6, memOnly_enc _ _ ⟨hwf, has _ rfl⟩]
  | addEbIb d imm | orEbIb d imm | adcEbIb d imm | sbbEbIb d imm | andEbIb d imm | subEbIb d imm | xorEbIb d imm =>
    change decode8 c 0 (encRM8 _ d ++ [imm] ++ rest) = _
    simp [decode8, group1, Alu.ofNum?, ebIb_enc _ _ ⟨hwf, has⟩, Alu.ebIb]
  | addEvIv d imm | orEvIv d imm | adcEvIv d imm | sbbEvIv d imm | andEvIv d imm | subEvIv d imm | xorEvIv d imm =>
    change decode8 c 1 (encRMv _ d ++ imm.enc ++ rest) = _
    simp [decode8, group1, Alu.ofNum?, evIv_enc _ _ ⟨hwf, has⟩ (hos _ rfl), Alu.evIv]
  | addEvIbs sz d imm | orEvIbs sz d imm | adcEvIbs sz d imm | sbbEvIbs sz d imm | andEvIbs sz d imm | subEvIbs sz d imm
  | xorEvIbs sz d imm =>
    obtain rfl := hos sz rfl
    change decode8 c 3 (encRMv _ d ++ [imm] ++ rest) = _
    simp [decode8, group1, Alu.ofNum?, evIb_enc _ _ ⟨hwf, has⟩, Alu.evIbs]
  | popEv sz d =>
    obtain rfl := hos sz rfl
    change decode8 c 0xF (encRMv 0#3 d ++ rest) = _
    simp [decode8, ev_enc _ _ ⟨hwf, has⟩]
  | movEbIb d imm =>
    change decodeC c 6 (encRM8 0#3 d ++ [imm] ++ rest) = _
    simp [decodeC, ebIb_enc _ _ ⟨hwf, has⟩]
  | movEvIv d imm =>
    change decodeC c 7 (encRMv 0#3 d ++ imm.enc ++ rest) = _
    simp [decodeC, evIv_enc _ _ ⟨hwf, has⟩ (hos _ rfl)]
  | rolEbCl d | rorEbCl d | rclEbCl d | rcrEbCl d | shlEbCl d | shrEbCl d | sarEbCl d =>
    change decodeD c 2 (encRM8 _ d ++ rest) = _
    simp [decodeD, group2, Shift.ofNum?, eb_enc _ _ ⟨hwf, has⟩, Shift.ebCl]
  | rolEvCl sz d | rorEvCl sz d | rclEvCl sz d | rcrEvCl sz d | shlEvCl sz d | shrEvCl sz d | sarEvCl sz d =>
    obtain rfl := hos sz rfl
    change decodeD c 3 (encRMv _ d ++ rest) = _
    simp [decodeD, group2, Shift.ofNum?, ev_enc _ _ ⟨hwf, has⟩, Shift.evCl]
  | notEb d | negEb d | mulEb d | imulEb d | divEb d | idivEb d =>
    change decodeF c 6 (encRM8 _ d ++ rest) = _
    simp [decodeF, eb_enc _ _ ⟨hwf, has⟩]
  | notEv sz d | negEv sz d | mulEv sz d | imulEv sz d | divEv sz d | idivEv sz d =>
    obtain rfl := hos sz rfl
    change decodeF c 7 (encRMv _ d ++ rest) = _
    simp [decodeF, ev_enc _ _ ⟨hwf, has⟩]
  | incEb d | decEb d =>
    change decodeF c 0xE (encRM8 _ d ++ rest) = _
    simp [decodeF, eb_enc _ _ ⟨hwf, has⟩]
  | incEv sz d | decEv sz d | callEv sz d | jmpEv sz d | pushEv sz d =>
    obtain rfl := hos sz rfl
    change decodeF c 0xF (encRMv _ d ++ rest) = _
    simp [decodeF, ev_enc _ _ ⟨hwf, has⟩]
  | callMp sz m | jmpMp sz m =>
    obtain rfl := hos sz rfl
    change decodeF c 0xF (m.enc _ ++ rest) = _
    simp [decodeF, m1_enc _ _ ⟨hwf, has _ rfl⟩]
  | sldt sz d | str sz d =>
    obtain rfl := hos sz rfl
    change decode0Flow c 0x00 (encRMv _ d ++ rest) = _
    simp [decode0Flow, ev_enc _ _ ⟨hwf, has⟩]
  | lldt s | ltr s =>
    change decode0Flow c 0x00 (encRMv _ s ++ rest) = _
    simp [decode0Flow, ev_enc _ _ ⟨hwf, has⟩]
  | sgdt sz m | sidt sz m | lgdt sz m | lidt sz m =>
    obtain rfl := hos sz rfl
    change decode0Flow c 0x01 (m.enc _ ++ rest) = _
    simp [decode0Flow, m1_enc _ _ ⟨hwf, has _ rfl⟩]
  | invlpg m =>
    change decode0Flow c 0x01 (m.enc 7#3 ++ rest) = _
    simp [decode0Flow, m1_enc _ _ ⟨hwf, has _ rfl⟩]
  | btsEvIb sz d imm | btrEvIb sz d imm | btcEvIb sz d imm =>
    obtain rfl := hos sz rfl
    change decode0Fhigh c 0xBA (encRMv _ d ++ [imm] ++ rest) = _
    simp [decode0Fhigh, evIb_enc _ _ ⟨hwf, has⟩]
  | rdshr d | wrshr d => exact .trans rfl (ev_enc 0#3 rest ⟨hwf, has⟩ _)
  | movRCr r n => exact .trans rfl (special_enc rest n r fun n r => .movRCr r n)
  | movRDr r n => exact .trans rfl (special_enc rest n r fun n r => .movRDr r n)
  | movRTr r n => exact .trans rfl (special_enc rest n r fun n r => .movRTr r n)
  | movCrR n r | movDrR n r | movTrR n r => exact .trans rfl (special_enc rest n r _)
  | svdc m s => exact .trans rfl (memSreg_enc rest ⟨hwf, has _ rfl⟩ s _)
  | rsdc d m => exact .trans rfl (memSreg_enc rest ⟨hwf, has _ rfl⟩ d fun m d => .rsdc d m)
  | svldt | rsldt | svts | rsts => exact .trans rfl (mem80_enc rest ⟨hwf, has _ rfl⟩ _)
  | fnsave sz m =>
    obtain rfl := hos sz rfl
    exact .trans rfl (decodeEsc_mem rest ⟨hwf, has _ rfl⟩ 5#3 6#3)
  | frstor sz m =>
    obtain rfl := hos sz rfl
    exact .trans rfl (decodeEsc_mem rest ⟨hwf, has _ rfl⟩ 5#3 4#3)
  | fnstenv sz m =>
    obtain rfl := hos sz rfl
    exact .trans rfl (decodeEsc_mem rest ⟨hwf, has _ rfl⟩ 1#3 6#3)
  | esc op g d =>
    obtain ⟨hd, hn⟩ := Instr.wf_esc.1 hwf
    exact (decode_escByte op _).trans (decodeEsc_esc rest ⟨hd, has⟩ hn)
  | wait =>
    exact if_neg (Ctx.bareFits_wait.1 hbare)
  | fsave sz m =>
    obtain rfl := hos sz rfl
    exact .trans rfl (decodeWait_save rest ⟨hwf, has _ rfl⟩ hbare (.inl rfl))
  | fstenv sz m =>
    obtain rfl := hos sz rfl
    exact .trans rfl (decodeWait_save rest ⟨hwf, has _ rfl⟩ hbare (.inr rfl))

/-- Settles O59, by the form of the operand bytes. -/
theorem decodeEncode : Obligations.DecodeEncode := by
  intro c i rest hwf hfits
  obtain ⟨hos, has, hbare⟩ := Ctx.fits_sizes hfits
  exact decode_encode rest hwf hos has hbare
/-- Settles O45: each of them is the one update of `readPfx`. -/
theorem prefixes : Obligations.Prefixes :=
  fun _ => ⟨rfl, rfl, rfl, rfl, rfl, rfl, rfl, rfl, rfl, rfl, rfl, fun _ => rfl⟩
/-- Settles O60: the decoder run on each word. -/
theorem decodedWords : Obligations.DecodedWords := by
  unfold Obligations.DecodedWords
  decide

end Sys2Proof
end

section
/-! SUPPORT, and O1. The flag functions in integer arithmetic (R281). -/
namespace Sys2Proof.Machine
open Sys2Proof

/-! PF counts the ones among the low eight bits (R27). -/

/-- A list holds an even number of `true` where their exclusive or is `false`. -/
theorem countP_mod_two_eq_foldl_xor {α : Type} (p : α → Bool) (l : List α) (acc : Bool) :
    (l.map p).foldl xor acc = (acc ^^ decide (l.countP p % 2 = 1)) := by
  induction l generalizing acc with
  | nil => simp
  | cons x xs ih =>
    rw [List.map_cons, List.foldl_cons, ih, List.countP_cons, Bool.xor_assoc]
    congr 1
    rcases Nat.mod_two_eq_zero_or_one (xs.countP p) with hcount | hcount <;> cases p x <;> simp [Nat.add_mod, hcount]
theorem parityEven_eq_countP {n : Nat} (r : BitVec n) :
    parityEven r = decide ((List.range 8).countP (fun i => r.getLsbD i) % 2 = 0) := by
  have hxor := countP_mod_two_eq_foldl_xor (fun i => r.getLsbD i) (List.range 8) false
  have hfold : parityEven r = !((List.range 8).map fun i => r.getLsbD i).foldl xor false := by
    simp [parityEven, List.range_succ]
  rw [hfold, hxor, Bool.false_xor, ← decide_not]
  exact decide_eq_decide.2 Nat.mod_two_ne_one

/-! The sum and the difference, a carry or borrow included. -/

theorem carry_lt_two_pow {n : Nat} (hn : 0 < n) (c : Bool) : c.toNat < 2 ^ n :=
  c.toNat_lt.trans_le (Nat.pow_le_pow_right Nat.two_pos hn)
theorem toNat_carry {n : Nat} (hn : 0 < n) (c : Bool) : ((BitVec.ofBool c).setWidth n).toNat = c.toNat := by
  rw [BitVec.toNat_setWidth, BitVec.toNat_ofBool, Nat.mod_eq_of_lt (carry_lt_two_pow hn c)]
theorem addFlags_toNat {n : Nat} (hn : 0 < n) (a b : BitVec n) (c : Bool) (f : Flags) :
    (addFlags a b c f).1.toNat = (a.toNat + b.toNat + c.toNat) % 2 ^ n := by
  simp [addFlags, BitVec.toNat_add, toNat_carry hn]
theorem subFlags_toNat {n : Nat} (hn : 0 < n) (a b : BitVec n) (c : Bool) (f : Flags) :
    (subFlags a b c f).1.toNat = (2 ^ n + a.toNat - b.toNat - c.toNat) % 2 ^ n := by
  have hc := carry_lt_two_pow hn c
  have hb := b.isLt
  have hc1 := c.toNat_le
  simp only [subFlags, BitVec.toNat_sub, toNat_carry hn, Nat.add_mod_mod]
  rw [show 2 ^ n - c.toNat + (2 ^ n - b.toNat + a.toNat) = 2 ^ n + a.toNat - b.toNat - c.toNat + 2 ^ n by omega,
    Nat.add_mod_right]

/-! SF, ZF and PF of a result, and OF from the signs. -/

theorem Flags.ofResult_eq {n : Nat} (f : Flags) (r : BitVec n) : f.ofResult r = { f with
    sf := r.getLsbD (n - 1), zf := decide (r.toNat = 0)
    pf := decide ((List.range 8).countP (fun i => r.getLsbD i) % 2 = 0) } := by
  have hzero : (r == 0#n) = decide (r.toNat = 0) := by
    rw [beq_eq_decide]
    exact decide_eq_decide.2 (by rw [← BitVec.toNat_inj, BitVec.toNat_zero])
  rw [Flags.ofResult, BitVec.msb_eq_getLsbD_last, hzero, parityEven_eq_countP]
theorem addFlags_flags {n : Nat} (a b : BitVec n) (c : Bool) (f : Flags) :
    let r := (addFlags a b c f).1
    (addFlags a b c f).2 = { f.ofResult r with
      cf := decide (2 ^ n ≤ a.toNat + b.toNat + c.toNat)
      af := decide (16 ≤ a.toNat % 16 + b.toNat % 16 + c.toNat)
      ofl := decide (a.getLsbD (n - 1) = b.getLsbD (n - 1) ∧ r.getLsbD (n - 1) ≠ a.getLsbD (n - 1)) } := by
  simp only [addFlags, BitVec.msb_eq_getLsbD_last, Bool.decide_and, beq_eq_decide, bne, ← decide_not]
theorem subFlags_flags {n : Nat} (a b : BitVec n) (c : Bool) (f : Flags) :
    let r := (subFlags a b c f).1
    (subFlags a b c f).2 = { f.ofResult r with
      cf := decide (a.toNat < b.toNat + c.toNat)
      af := decide (a.toNat % 16 < b.toNat % 16 + c.toNat)
      ofl := decide (a.getLsbD (n - 1) ≠ b.getLsbD (n - 1) ∧ r.getLsbD (n - 1) ≠ a.getLsbD (n - 1)) } := by
  simp only [subFlags, BitVec.msb_eq_getLsbD_last, Bool.decide_and, beq_eq_decide, bne, ← decide_not]

/-- Settles O1: the results, and the flags by their bits. -/
theorem addSubLogicFlags : Obligations.AddSubLogicFlags := by
  intro n a b c af f hn
  have hpos : 0 < n := by omega
  refine ⟨⟨addFlags_toNat hpos a b c f, ?_⟩, ⟨subFlags_toNat hpos a b c f, ?_⟩, ?_⟩
  · rw [addFlags_flags, Flags.ofResult_eq]
  · rw [subFlags_flags, Flags.ofResult_eq]
  · rw [logicFlags, Flags.ofResult_eq]

end Sys2Proof.Machine
end

section
/-! SUPPORT, and O2 to O5. The two-operand and one-operand arithmetic instructions (R283 to R294), each as the action of its
operation on the operands that it locates. -/
namespace Sys2Proof.Machine
open Sys2Proof

/-! Each encoding of an operation runs its action (R283). -/

section
variable (op : Alu) (s : State)
theorem exec_ebGb (d : RM8) (r : Reg8) : exec (op.ebGb d r) s = runInstr (aluEbGb (aluAct op) d r) s := by
  cases op <;> rfl
theorem exec_ebIb (d : RM8) (i : Byte) : exec (op.ebIb d i) s = runInstr (aluEbIb (aluAct op) d i) s := by
  cases op <;> rfl
theorem exec_evGv (sz : OSize) (d : RMv) (r : Reg) :
    exec (op.evGv sz d r) s = runInstr (aluEvGv sz (aluAct op) d r) s := by cases op <;> rfl
theorem exec_evIbs (sz : OSize) (d : RMv) (i : Byte) :
    exec (op.evIbs sz d i) s = runInstr (aluEvIbs sz (aluAct op) d i) s := by cases op <;> rfl
theorem exec_evIv (d : RMv) (i : Imm) : exec (op.evIv d i) s = runInstr (aluEvIv d i (aluAct op)) s := by
  cases op <;> rfl
theorem exec_gbEb (r : Reg8) (e : RM8) : exec (op.gbEb r e) s = runInstr (aluGbEb (aluAct op) r e) s := by
  cases op <;> rfl
theorem exec_gvEv (sz : OSize) (r : Reg) (e : RMv) :
    exec (op.gvEv sz r e) s = runInstr (aluGvEv sz (aluAct op) r e) s := by cases op <;> rfl
theorem exec_alIb (i : Byte) : exec (op.alIb i) s = runInstr (aluAlIb (aluAct op) i) s := by cases op <;> rfl
theorem exec_axIv (i : Imm) : exec (op.axIv i) s = runInstr (aluAxIv i (aluAct op)) s := by cases op <;> rfl
end

/-! The action of an operation on a place that is read and written back (R282). -/

section
variable {s s1 : State} {p : Place} (hr : s1.placeReadable p = true) (hw : s1.placeWritable p = true)
include hr hw
theorem rmw8_aluAct {d : RM8} (hl : locate8 d .write s = .ok p s1) (op : Alu) {f : Byte → Act Byte} {b : Byte}
    (hf : f (s1.placeValue 8 p) s1 = aluAct op (s1.placeValue 8 p) b s1) :
    runInstr (rmw8 d f) s =
      .next ((aluNext op (s1.placeValue 8 p) b s1).2.putPlace p (aluNext op (s1.placeValue 8 p) b s1).1) :=
  runInstr_ok (rmw8_ok hl hr (hf.trans (aluAct_ok op _ b s1)) ((aluNext_writable op _ b s1 p).trans hw))
theorem rmwV_aluAct {sz : OSize} {d : RMv} (hl : locateV sz d .write s = .ok p s1) (op : Alu)
    {f : BitVec (osBits sz) → Act (BitVec (osBits sz))} {b : BitVec (osBits sz)}
    (hf : f (s1.placeValue (osBits sz) p) s1 = aluAct op (s1.placeValue (osBits sz) p) b s1) :
    runInstr (rmwV sz d f) s =
      .next ((aluNext op (s1.placeValue (osBits sz) p) b s1).2.putPlace p
        (aluNext op (s1.placeValue (osBits sz) p) b s1).1) :=
  runInstr_ok (rmwV_ok hl hr (hf.trans (aluAct_ok op _ b s1)) ((aluNext_writable op _ b s1 p).trans hw))
end

/-- Settles O2: the operation on the place and its second operand. -/
theorem aluOnByteOperand : Obligations.AluOnByteOperand := by
  intro op d r i s s1 p hl hr hw
  exact ⟨(exec_ebGb op s d r).trans (rmw8_aluAct hr hw hl op (run_bind_ok _ (run_getReg8 r s1))),
    (exec_ebIb op s d i).trans (rmw8_aluAct hr hw hl op rfl)⟩

/-- Settles O3: the operation on the place and its second operand. -/
theorem aluOnWordOperand : Obligations.AluOnWordOperand := by
  refine ⟨fun op sz d r i s s1 p hl hr hw => ⟨?_, ?_⟩, fun op d i s s1 p hl hr hw => ?_⟩
  · exact (exec_evGv op s sz d r).trans (rmwV_aluAct hr hw hl op (run_bind_ok _ (run_getRegV sz r s1)))
  · exact (exec_evIbs op s sz d i).trans (rmwV_aluAct hr hw hl op rfl)
  · exact (exec_evIv op s d i).trans (rmwV_aluAct hr hw hl op rfl)

/-- Settles O4: the operands are read, then the operation runs and its result goes to the register. -/
theorem aluToRegister : Obligations.AluToRegister := by
  refine ⟨fun op r e s s1 p hl hr => ?_, fun op sz r e s s1 p hl hr => ?_, fun op i s => ?_, fun op i s => ?_⟩
  · refine (exec_gbEb op s r e).trans (runInstr_ok ?_)
    rw [aluGbEb, run_bind_ok _ (readRM8_ok hl hr), run_bind_ok _ (run_getReg8 r s1), run_bind_ok _ (aluAct_ok op _ _ s1)]
    exact run_setReg8 r _ _
  · refine (exec_gvEv op s sz r e).trans (runInstr_ok ?_)
    rw [aluGvEv, run_bind_ok _ (readRMv_ok hl hr), run_bind_ok _ (run_getRegV sz r s1),
      run_bind_ok _ (aluAct_ok op _ _ s1)]
    exact run_setRegN r _ _
  · refine (exec_alIb op s i).trans (runInstr_ok ?_)
    rw [aluAlIb, run_bind_ok _ (run_getReg8 .al s), run_bind_ok _ (aluAct_ok op _ _ s)]
    exact run_setReg8 .al _ _
  · refine (exec_axIv op s i).trans (runInstr_ok ?_)
    rw [aluAxIv, run_bind_ok _ (run_getRegV i.osize .eax s), run_bind_ok _ (aluAct_ok op _ _ s)]
    exact run_setRegN .eax _ _

/-! One operand (R291 to R294). -/

@[simp] theorem addFlags_noCarry {n : Nat} (a b : BitVec n) (f : Flags) : (addFlags a b false f).1 = a + b := by
  simp [addFlags]
@[simp] theorem subFlags_noBorrow {n : Nat} (a b : BitVec n) (f : Flags) : (subFlags a b false f).1 = a - b := by
  simp [subFlags]

section
variable {n : Nat} (a : BitVec n) (s : State)
theorem incA_ok : incA a s =
    .ok (a + 1#n) { s with flags := { (addFlags a 1#n false s.flags).2 with cf := s.flags.cf } } := by
  rw [← addFlags_noCarry a 1#n s.flags]
  rfl
theorem decA_ok : decA a s =
    .ok (a - 1#n) { s with flags := { (subFlags a 1#n false s.flags).2 with cf := s.flags.cf } } := by
  rw [← subFlags_noBorrow a 1#n s.flags]
  rfl
theorem negA_ok : negA a s = .ok (-a) { s with flags := (subFlags 0#n a false s.flags).2 } := by
  rw [← BitVec.zero_sub, ← subFlags_noBorrow 0#n a s.flags]
  rfl
theorem notA_ok : notA a s = .ok (~~~a) s := rfl
end

/-- Settles O5: each operation on the place, which is a register or located. -/
theorem unaryOnOperand : Obligations.UnaryOnOperand := by
  refine ⟨fun d s s1 p hl hr hw => ⟨?_, ?_, ?_, ?_⟩, fun sz d s s1 p hl hr hw => ⟨?_, ?_, ?_, ?_⟩,
    fun sz r s => ⟨?_, ?_⟩⟩
  · exact runInstr_ok (rmw8_ok hl hr (incA_ok _ s1) (by simp [hw]))
  · exact runInstr_ok (rmw8_ok hl hr (decA_ok _ s1) (by simp [hw]))
  · exact runInstr_ok (rmw8_ok hl hr (negA_ok _ s1) (by simp [hw]))
  · exact runInstr_ok (rmw8_ok hl hr (notA_ok _ s1) hw)
  · exact runInstr_ok (rmwV_ok hl hr (incA_ok _ s1) (by simp [hw]))
  · exact runInstr_ok (rmwV_ok hl hr (decA_ok _ s1) (by simp [hw]))
  · exact runInstr_ok (rmwV_ok hl hr (negA_ok _ s1) (by simp [hw]))
  · exact runInstr_ok (rmwV_ok hl hr (notA_ok _ s1) hw)
  · exact runInstr_ok (rmwV_ok (locateN_reg (osBytes sz) r .write s) rfl (incA_ok _ s) rfl)
  · exact runInstr_ok (rmwV_ok (locateN_reg (osBytes sz) r .write s) rfl (decA_ok _ s) rfl)

end Sys2Proof.Machine
end

section
/-! SUPPORT, and O8. MUL and IMUL (R297, R298): the double-width product as an integer, and its two halves. -/
namespace Sys2Proof.Machine
open Sys2Proof

/-! The halves of an integer of double width. -/

theorem extractLow_ofInt (n : Nat) (i : Int) : (BitVec.ofInt (n + n) i).extractLsb' 0 n = BitVec.ofInt n i := by
  apply BitVec.eq_of_toNat_eq
  rw [BitVec.extractLsb'_toNat, Nat.shiftRight_zero, BitVec.toNat_ofInt, BitVec.toNat_ofInt]
  have hpos : (0 : Int) < 2 ^ n := by positivity
  have hdvd : (2 : Int) ^ n ∣ 2 ^ (n + n) := pow_dvd_pow 2 (Nat.le_add_right n n)
  zify
  rw [Int.toNat_of_nonneg (Int.emod_nonneg _ (by positivity)), Int.toNat_of_nonneg (Int.emod_nonneg _ hpos.ne'),
    Int.emod_emod_of_dvd _ hdvd]
theorem extractHigh_ofInt (n : Nat) (i : Int) :
    (BitVec.ofInt (n + n) i).extractLsb' n n = BitVec.ofInt n (i / 2 ^ n) := by
  apply BitVec.eq_of_toNat_eq
  rw [BitVec.extractLsb'_toNat, Nat.shiftRight_eq_div_pow, BitVec.toNat_ofInt, BitVec.toNat_ofInt]
  have hpos : (0 : Int) < 2 ^ n := by positivity
  zify
  rw [Int.toNat_of_nonneg (Int.emod_nonneg _ (by positivity)), Int.toNat_of_nonneg (Int.emod_nonneg _ hpos.ne'), pow_add]
  have hsplit : i % (2 ^ n * 2 ^ n) = i + 2 ^ n * (2 ^ n * -(i / (2 ^ n * 2 ^ n))) := by
    rw [Int.emod_def]
    ring
  rw [hsplit, Int.add_mul_ediv_left _ _ hpos.ne', Int.add_mul_emod_self_left]
theorem extractLow_ofNat (n u : Nat) : (BitVec.ofNat (n + n) u).extractLsb' 0 n = BitVec.ofNat n u := by
  simpa only [BitVec.ofInt_natCast] using extractLow_ofInt n u
theorem extractHigh_ofNat (n u : Nat) : (BitVec.ofNat (n + n) u).extractLsb' n n = BitVec.ofNat n (u / 2 ^ n) := by
  have hdiv : (u : Int) / 2 ^ n = ((u / 2 ^ n : Nat) : Int) := by push_cast; rfl
  simpa only [BitVec.ofInt_natCast, hdiv] using extractHigh_ofInt n u

/-! The products, and when the high half matters. -/

section
variable {n : Nat} (a b : BitVec n)
theorem mulU_eq : mulU a b = BitVec.ofNat (n + n) (a.toNat * b.toNat) := by
  rw [mulU, BitVec.ofNat_mul]
  simp [BitVec.ofNat_toNat]
theorem mulS_eq : mulS a b = BitVec.ofInt (n + n) (a.toInt * b.toInt) := (BitVec.ofInt_mul _ _).symm
theorem mulS_toInt (hn : 0 < n) : (mulS a b).toInt = a.toInt * b.toInt := by
  have hlo : -2 ^ (n * 2 - 2) ≤ a.toInt * b.toInt := BitVec.le_toInt_mul_toInt
  have hhi : a.toInt * b.toInt ≤ 2 ^ (n * 2 - 2) := BitVec.toInt_mul_toInt_le
  have hpow : (2 : Int) ^ (n * 2 - 2) < 2 ^ (n + n - 1) := pow_lt_pow_right₀ (by decide) (by omega)
  rw [mulS_eq]
  exact BitVec.toInt_ofInt_eq_self (by omega) (by omega) (by omega)
theorem mulUOver_eq : mulUOver (mulU a b) = decide (2 ^ n ≤ a.toNat * b.toNat) := by
  have hlt : a.toNat * b.toNat / 2 ^ n < 2 ^ n :=
    Nat.div_lt_of_lt_mul (Nat.mul_lt_mul'' a.isLt b.isLt)
  have hzero : BitVec.ofNat n (a.toNat * b.toNat / 2 ^ n) ≠ 0#n ↔ 2 ^ n ≤ a.toNat * b.toNat := by
    rw [Ne, ← BitVec.toNat_inj, BitVec.toNat_ofNat, BitVec.toNat_ofNat, Nat.zero_mod, Nat.mod_eq_of_lt hlt,
      Nat.div_eq_zero_iff_lt (Nat.two_pow_pos n), not_lt]
  rw [mulUOver, mulU_eq, extractHigh_ofNat, bne, beq_eq_decide, ← decide_not]
  exact decide_eq_decide.2 hzero
theorem mulSOver_eq (hn : 0 < n) : mulSOver (mulS a b) =
    decide ((BitVec.ofInt n (a.toInt * b.toInt)).toInt ≠ a.toInt * b.toInt) := by
  rw [mulSOver, bne, beq_eq_decide, ← decide_not]
  refine decide_eq_decide.2 (not_congr ?_)
  rw [← BitVec.toInt_inj, mulS_toInt a b hn, BitVec.toInt_signExtend_of_le (Nat.le_add_right n n), mulS_eq,
    extractLow_ofInt]
  exact eq_comm
end

/-! The products go to AX, DX:AX or EDX:EAX. -/

theorem setProduct_ok {n : Nat} (p : BitVec (n + n)) (s : State) :
    setProduct p s = .ok () ((s.putReg .eax (p.extractLsb' 0 n)).putReg .edx (p.extractLsb' n n)) := rfl
theorem osBits_pos (sz : OSize) : 0 < osBits sz := by cases sz <;> decide

section
variable {s s1 : State} {p : Place} (hr : s1.placeReadable p = true)
include hr
theorem multiplyByte_ok {d : RM8} (hl : locate8 d .read s = .ok p s1) (mul : Byte → Byte → BitVec (8 + 8))
    (matters : BitVec (8 + 8) → Bool) :
    let x := mul (s1.regs.get8 .al) (s1.placeValue 8 p)
    runInstr (do
      let b ← readRM8 d
      let product := mul (← getReg8 .al) b
      setRegN .eax product
      mulFlagsA (matters product)) s = .next ((s1.putReg .eax x).withMulFlags (matters x)) :=
  runInstr_ok (run_bind_ok _ (readRM8_ok hl hr))
theorem multiplyWord_ok {sz : OSize} {d : RMv} (hl : locateV sz d .read s = .ok p s1)
    (mul : BitVec (osBits sz) → BitVec (osBits sz) → BitVec (osBits sz + osBits sz))
    (matters : BitVec (osBits sz + osBits sz) → Bool) :
    let x := mul (s1.regs.eax.setWidth (osBits sz)) (s1.placeValue (osBits sz) p)
    runInstr (do
      let b ← readRMv sz d
      let product := mul (← getRegV sz .eax) b
      setProduct product
      mulFlagsA (matters product)) s = .next (((s1.putReg .eax (x.extractLsb' 0 (osBits sz))).putReg .edx
        (x.extractLsb' (osBits sz) (osBits sz))).withMulFlags (matters x)) := by
  intro x
  refine runInstr_ok ?_
  rw [run_bind_ok _ (readRMv_ok hl hr), run_bind_ok _ (run_getRegV sz .eax s1), run_bind_ok _ (setProduct_ok _ s1)]
  exact mulFlagsA_ok _ _
end

/-- Settles O8: the product that the instruction stores is the integer product, half by half. -/
theorem multiply : Obligations.Multiply := by
  refine ⟨fun d s s1 p hl hr => ⟨?_, ?_⟩, fun sz d s s1 p hl hr => ⟨?_, ?_⟩⟩
  · exact (multiplyByte_ok hr hl mulU mulUOver).trans (by rw [mulUOver_eq, mulU_eq])
  · exact (multiplyByte_ok hr hl mulS mulSOver).trans (by rw [mulSOver_eq _ _ (by decide), mulS_eq])
  · exact (multiplyWord_ok hr hl mulU mulUOver).trans
      (by rw [mulUOver_eq, mulU_eq, extractLow_ofNat, extractHigh_ofNat])
  · exact (multiplyWord_ok hr hl mulS mulSOver).trans
      (by rw [mulSOver_eq _ _ (osBits_pos sz), mulS_eq, extractLow_ofInt, extractHigh_ofInt])

end Sys2Proof.Machine
end

section
/-! SUPPORT, and O9, O10. DIV and IDIV (R299, R300): when the division functions answer, what they answer, and the instructions
that store it or take the divide error. -/
namespace Sys2Proof.Machine
open Sys2Proof

/-! Unsigned division. -/

section
variable {n : Nat} {x : BitVec (n + n)} {b q r : BitVec n}
theorem divU_eq_ite : divU x b = if b.toNat = 0 ∨ 2 ^ n ≤ x.toNat / b.toNat then none
    else some (BitVec.ofNat n (x.toNat / b.toNat), BitVec.ofNat n (x.toNat % b.toNat)) := by
  have hzero : b = 0#n ↔ b.toNat = 0 := by rw [← BitVec.toNat_inj, BitVec.toNat_zero]
  simp only [divU, hzero, ite_or]
theorem divU_eq_none_iff : divU x b = none ↔ b.toNat = 0 ∨ 2 ^ n ≤ x.toNat / b.toNat := by
  simp only [divU_eq_ite, ite_eq_left_iff, reduceCtorEq, imp_false, not_not]
theorem divU_some (h : divU x b = some (q, r)) :
    q.toNat = x.toNat / b.toNat ∧ r.toNat = x.toNat % b.toNat ∧ r.toNat < b.toNat := by
  rw [divU_eq_ite, Option.ite_none_left_eq_some] at h
  obtain ⟨hfits, ⟨⟩⟩ := h
  rw [not_or, not_le] at hfits
  obtain ⟨hb, hq⟩ := hfits
  have hr : x.toNat % b.toNat < b.toNat := Nat.mod_lt _ (Nat.pos_of_ne_zero hb)
  rw [BitVec.toNat_ofNat, BitVec.toNat_ofNat, Nat.mod_eq_of_lt hq, Nat.mod_eq_of_lt (hr.trans b.isLt)]
  exact ⟨rfl, rfl, hr⟩

/-! Signed division: the quotient is truncated, the remainder has the sign of the dividend. -/

theorem divS_eq_ite : divS x b =
    if b.toInt = 0 ∨ x.toInt.tdiv b.toInt < -2 ^ (n - 1) ∨ 2 ^ (n - 1) ≤ x.toInt.tdiv b.toInt then none
    else some (BitVec.ofInt n (x.toInt.tdiv b.toInt), BitVec.ofInt n (x.toInt.tmod b.toInt)) := by
  have hzero : b = 0#n ↔ b.toInt = 0 := by rw [← BitVec.toInt_inj, BitVec.toInt_zero]
  simp only [divS, hzero, ite_or, Nat.cast_pow, Nat.cast_ofNat]
theorem divS_eq_none_iff : divS x b = none ↔
    b.toInt = 0 ∨ x.toInt.tdiv b.toInt < -2 ^ (n - 1) ∨ 2 ^ (n - 1) ≤ x.toInt.tdiv b.toInt := by
  simp only [divS_eq_ite, ite_eq_left_iff, reduceCtorEq, imp_false, not_not]
theorem natAbs_tmod_lt (i : Int) {j : Int} (hj : j ≠ 0) : (i.tmod j).natAbs < j.natAbs := by
  rw [Int.natAbs_tmod]
  exact Nat.mod_lt _ (Int.natAbs_pos.2 hj)
theorem toInt_ofInt_tmod (hn : 0 < n) (i : Int) (hb : b.toInt ≠ 0) :
    (BitVec.ofInt n (i.tmod b.toInt)).toInt = i.tmod b.toInt := by
  have habs := natAbs_tmod_lt i hb
  have hlo := b.le_toInt
  have hhi : b.toInt < 2 ^ (n - 1) := BitVec.toInt_lt
  exact BitVec.toInt_ofInt_eq_self hn (by omega) (by omega)
theorem divS_some (hn : 0 < n) (h : divS x b = some (q, r)) :
    q.toInt = x.toInt.tdiv b.toInt ∧ r.toInt = x.toInt.tmod b.toInt ∧ b.toInt ≠ 0 := by
  rw [divS_eq_ite, Option.ite_none_left_eq_some] at h
  obtain ⟨hfits, ⟨⟩⟩ := h
  rw [not_or, not_or, not_lt, not_le] at hfits
  obtain ⟨hb, hlo, hhi⟩ := hfits
  exact ⟨BitVec.toInt_ofInt_eq_self hn hlo hhi, toInt_ofInt_tmod hn _ hb, hb⟩
end
theorem tmod_sign (i j : Int) : i.tmod j = 0 ∨ (i.tmod j < 0 ↔ i < 0) := by
  have hsign := Int.sign_tmod i j
  by_cases hdvd : j ∣ i
  · exact .inl (Int.sign_eq_zero_iff_zero.1 (hsign.trans (if_pos hdvd)))
  · rw [if_neg hdvd] at hsign
    exact .inr (by rw [← Int.sign_neg_iff, hsign, Int.sign_neg_iff])

/-- Settles O9: division with remainder of the natural numbers, and truncated division of the integers. -/
theorem divisionResults : Obligations.DivisionResults := by
  refine ⟨fun n x b q r _ h => ?_, fun n x b _ => divU_eq_none_iff, fun n x b q r hn h => ?_,
    fun n x b _ => divS_eq_none_iff⟩
  · obtain ⟨hq, hr, hlt⟩ := divU_some h
    exact ⟨by rw [hq, hr, Nat.div_add_mod'], hlt⟩
  · obtain ⟨hq, hr, hb⟩ := divS_some hn h
    rw [hq, hr]
    exact ⟨(Int.tdiv_mul_add_tmod _ _).symm, natAbs_tmod_lt _ hb, tmod_sign _ _⟩

/-! The instructions store what was divided, or raise #DE. -/

section
variable {s s1 : State} {p : Place} (hr : s1.placeReadable p = true)
include hr

section
variable {d : RM8} (hl : locate8 d .read s = .ok p s1) {div : BitVec (8 + 8) → Byte → Option (Byte × Byte)}
include hl
theorem divideByte_some {q r : Byte} (hdiv : div (s1.regs.eax.setWidth 16) (s1.placeValue 8 p) = some (q, r)) :
    runInstr (do let b ← readRM8 d; setDiv8 (div (← getAx) b)) s =
      .next (((s1.putReg8 .al q).putReg8 .ah r).withFreeFlags) := by
  refine runInstr_ok ((run_bind_ok _ (readRM8_ok hl hr)).trans ?_)
  exact congrArg (setDiv8 · s1) hdiv
theorem divideByte_none (hdiv : div (s1.regs.eax.setWidth 16) (s1.placeValue 8 p) = none) :
    runInstr (do let b ← readRM8 d; setDiv8 (div (← getAx) b)) s = deliverFault .de (rollback s s1) := by
  refine runInstr_exc ((run_bind_ok _ (readRM8_ok hl hr)).trans ?_)
  exact congrArg (setDiv8 · s1) hdiv
end

section
variable {sz : OSize} {d : RMv} (hl : locateV sz d .read s = .ok p s1)
  {div : BitVec (osBits sz + osBits sz) → BitVec (osBits sz) → Option (BitVec (osBits sz) × BitVec (osBits sz))}
include hl
theorem divideWord_some {q r : BitVec (osBits sz)}
    (hdiv : div (s1.regs.edx.setWidth (osBits sz) ++ s1.regs.eax.setWidth (osBits sz)) (s1.placeValue (osBits sz) p) =
      some (q, r)) :
    runInstr (do let b ← readRMv sz d; setDivV (div (← getDividend sz) b)) s =
      .next (((s1.putReg .eax q).putReg .edx r).withFreeFlags) := by
  refine runInstr_ok ((run_bind_ok _ (readRMv_ok hl hr)).trans ?_)
  exact congrArg (setDivV · s1) hdiv
theorem divideWord_none
    (hdiv : div (s1.regs.edx.setWidth (osBits sz) ++ s1.regs.eax.setWidth (osBits sz)) (s1.placeValue (osBits sz) p) =
      none) :
    runInstr (do let b ← readRMv sz d; setDivV (div (← getDividend sz) b)) s = deliverFault .de (rollback s s1) := by
  refine runInstr_exc ((run_bind_ok _ (readRMv_ok hl hr)).trans ?_)
  exact congrArg (setDivV · s1) hdiv
end
end

/-- Settles O10: by what the division function answers. -/
theorem divide : Obligations.Divide :=
  ⟨fun _ _ _ _ _ _ hl hr => ⟨divideByte_some hr hl, divideByte_some hr hl, divideByte_none hr hl, divideByte_none hr hl⟩,
    fun _ _ _ _ _ _ _ hl hr =>
      ⟨divideWord_some hr hl, divideWord_some hr hl, divideWord_none hr hl, divideWord_none hr hl⟩⟩

end Sys2Proof.Machine
end

section
/-! SUPPORT, and O11, O12. BTS, BTR and BTC (R310 to R313) at the place that the bit number selects, and shifts and rotates by
CL (R320 to R327). -/
namespace Sys2Proof.Machine
open Sys2Proof

/-! A bit is tested and changed at a place (R311). -/

section
variable {s s1 : State} {p : Place} (op : BitOp) (sz : OSize)
theorem bitAtPlace_ok (k : Nat) (hr : s.placeReadable p = true) (hw : s.placeWritable p = true) :
    bitAtPlace op sz p k s = .ok () ((s.withBitFlags ((s.placeValue (osBits sz) p).getLsbD k)).putPlace p
      (bitChange op (s.placeValue (osBits sz) p) k)) := by
  rw [bitAtPlace, run_bind_ok _ (readPlace_ok _ hr), run_bind_ok _ (bitFlagsA_ok _ s)]
  exact writePlace_ok ((placeWritable_flags s _ _ p).trans hw) _
theorem bitImm_ok {d : RMv} (i : Byte) (hl : locateV sz d .write s = .ok p s1) (hr : s1.placeReadable p = true)
    (hw : s1.placeWritable p = true) :
    bitImm op sz d i s = .ok () ((s1.withBitFlags ((s1.placeValue (osBits sz) p).getLsbD (i.toNat % osBits sz))).putPlace p
      (bitChange op (s1.placeValue (osBits sz) p) (i.toNat % osBits sz))) := by
  rw [bitImm, run_bind_ok _ hl]
  exact bitAtPlace_ok op sz _ hr hw
theorem bitReg_mem {m : Mem} {r : Reg} {pas : List PA}
    (hl : segAccess (s.dataSeg (defaultSeg m)) (bitWordAddr m (effAddr s.regs m) sz (bitOffset sz (s.regs.get r)))
      (osBytes sz) .write (osBytes sz) s = .ok pas s1) (hr : s1.readOk = true) (hw : s1.writeOk pas = true) :
    let k := ((bitOffset sz (s.regs.get r)).fmod (osBits sz)).toNat
    bitReg op sz (.mem m) r s =
      .ok () ((s1.withBitFlags ((s1.placeValue (osBits sz) (.mem pas)).getLsbD k)).putPlace (.mem pas)
        (bitChange op (s1.placeValue (osBits sz) (.mem pas)) k)) := by
  rw [bitReg, run_bind_ok _ (run_get s)]
  exact (run_bind_ok _ hl).trans (bitAtPlace_ok op sz _ hr hw)

/-! The bit number in a register, for a register operand: modulo the operand size, the sign of the offset apart (R310). -/

theorem bitOffset_fmod (v : Word) : ((bitOffset sz v).fmod (osBits sz)).toNat = v.toNat % osBits sz := by
  have hmod : bitOffset sz v % (osBits sz : Int) = (v.toNat : Int) % (osBits sz : Int) := by
    rw [bitOffset, BitVec.toInt_eq_toNat_bmod, BitVec.toNat_setWidth, Int.bmod_def]
    cases sz <;> dsimp only [osBits] <;> omega
  rw [Int.fmod_eq_emod_of_nonneg _ (Int.natCast_nonneg _), hmod]
  omega
theorem bitReg_reg (b r : Reg) :
    let w := (s.regs.get b).setWidth (osBits sz)
    let k := (s.regs.get r).toNat % osBits sz
    bitReg op sz (.reg b) r s = .ok () ((s.withBitFlags (w.getLsbD k)).putReg b (bitChange op w k)) := by
  rw [bitReg, run_bind_ok _ (run_get s), bitOffset_fmod]
  exact bitAtPlace_ok (p := .reg b) op sz _ rfl rfl
end

/-! Each shift and rotate runs its operation on the operand that it locates (R320). -/

theorem exec_ebCl (op : Shift) (d : RM8) (s : State) : exec (op.ebCl d) s = runInstr (shiftEb op d) s := by
  cases op <;> rfl
theorem exec_evCl (op : Shift) (sz : OSize) (d : RMv) (s : State) :
    exec (op.evCl sz d) s = runInstr (shiftEv op sz d) s := by cases op <;> rfl

/-- Settles O12: the checks alone for a count of 0, else the operation. -/
theorem shiftByCl : Obligations.ShiftByCl := by
  refine ⟨fun op d s s1 p hl => ⟨fun hcount => ?_, fun hcount hr hw => ?_⟩,
    fun op sz d s s1 p hl => ⟨fun hcount => ?_, fun hcount hr hw => ?_⟩⟩
  · exact (exec_ebCl op d s).trans (runInstr_ok (shiftAt_zero hl hcount))
  · exact (exec_ebCl op d s).trans (runInstr_ok (shiftAt_ok hl hcount hr hw))
  · exact (exec_evCl op sz d s).trans (runInstr_ok (shiftAt_zero hl hcount))
  · exact (exec_evCl op sz d s).trans (runInstr_ok (shiftAt_ok hl hcount hr hw))

end Sys2Proof.Machine

namespace Sys2Proof
open Sys2Proof.Machine

/-- Settles O11: one operation on one bit, at each kind of place. -/
theorem bitChange : Obligations.BitChange := by
  refine ⟨fun sz d i s s1 p hl hr hw => ⟨?_, ?_, ?_⟩, fun sz b r s => ⟨?_, ?_, ?_⟩,
    fun sz m r s s1 pas hl hr hw => ⟨?_, ?_, ?_⟩⟩
  · exact runInstr_ok (bitImm_ok .set sz i hl hr hw)
  · exact runInstr_ok (bitImm_ok .reset sz i hl hr hw)
  · exact runInstr_ok (bitImm_ok .complement sz i hl hr hw)
  · exact runInstr_ok (bitReg_reg .set sz b r)
  · exact runInstr_ok (bitReg_reg .reset sz b r)
  · exact runInstr_ok (bitReg_reg .complement sz b r)
  · exact runInstr_ok (bitReg_mem .set sz hl hr hw)
  · exact runInstr_ok (bitReg_mem .reset sz hl hr hw)
  · exact runInstr_ok (bitReg_mem .complement sz hl hr hw)

end Sys2Proof
end

section
/-! SUPPORT, and O13. What the shift and rotate functions compute (R321 to R327): rotations of a number of m bits, RCL and RCR
as rotations of the n + 1 bits with CF on top, shifts as products and quotients by a power of two. -/
namespace Sys2Proof.Machine
open Sys2Proof

/-! Rotation of a number of m bits by k ≤ m places. The low and the high part change places; so k rotations by one place make
a rotation by k places. -/

/-- The m-bit number w, rotated left by k places. -/
def rotatedLeft (m w k : Nat) : Nat := w * 2 ^ k % 2 ^ m + w / 2 ^ (m - k)
/-- The m-bit number w, rotated right by k places. -/
def rotatedRight (m w k : Nat) : Nat := w / 2 ^ k + w % 2 ^ k * 2 ^ (m - k)

theorem mul_two_pow_mod_two_pow {m k : Nat} (w : Nat) (hk : k ≤ m) : w * 2 ^ k % 2 ^ m = w % 2 ^ (m - k) * 2 ^ k := by
  rw [← Nat.mul_mod_mul_right, ← pow_add, Nat.sub_add_cancel hk]
theorem rotatedLeft_of_parts {i k q r : Nat} (hr : r < 2 ^ i) :
    rotatedLeft (i + k) (q * 2 ^ i + r) k = r * 2 ^ k + q := by
  rw [rotatedLeft, mul_two_pow_mod_two_pow _ (Nat.le_add_left k i), Nat.add_sub_cancel, Nat.mul_add_mod_self_right,
    Nat.mod_eq_of_lt hr, Nat.add_comm, mul_comm q, Nat.mul_add_div (by positivity), Nat.div_eq_of_lt hr, Nat.add_zero,
    Nat.add_comm]
theorem rotatedRight_of_parts {i k q r : Nat} (hr : r < 2 ^ k) :
    rotatedRight (i + k) (q * 2 ^ k + r) k = r * 2 ^ i + q := by
  rw [rotatedRight, Nat.add_sub_cancel, Nat.mul_add_mod_self_right, Nat.mod_eq_of_lt hr, mul_comm q,
    Nat.mul_add_div (by positivity), Nat.div_eq_of_lt hr, Nat.add_zero, Nat.add_comm]
theorem rotatedLeft_zero {m w : Nat} (hw : w < 2 ^ m) : rotatedLeft m w 0 = w := by
  simpa using rotatedLeft_of_parts (k := 0) (q := 0) hw
theorem rotatedRight_zero (m w : Nat) : rotatedRight m w 0 = w := by
  simpa using rotatedRight_of_parts (i := m) (k := 0) (q := w) (r := 0)
theorem rotatedLeft_complement {m k : Nat} (w : Nat) (hk : k ≤ m) : rotatedLeft m w (m - k) = rotatedRight m w k := by
  rw [rotatedLeft, mul_two_pow_mod_two_pow w (Nat.sub_le m k), Nat.sub_sub_self hk, rotatedRight, Nat.add_comm]

theorem rotatedLeft_one {m b r : Nat} (hr : r < 2 ^ m) : rotatedLeft (m + 1) (b * 2 ^ m + r) 1 = r * 2 + b :=
  rotatedLeft_of_parts (k := 1) hr
theorem rotatedRight_one {m q b : Nat} (hb : b < 2) : rotatedRight (m + 1) (q * 2 + b) 1 = b * 2 ^ m + q :=
  rotatedRight_of_parts (k := 1) hb
theorem rotatedLeft_succ {m k w : Nat} (hw : w < 2 ^ m) (hk : k + 1 ≤ m) :
    rotatedLeft m w (k + 1) = rotatedLeft m (rotatedLeft m w 1) k := by
  obtain ⟨i, rfl⟩ := Nat.exists_eq_add_of_le' hk
  obtain ⟨b, q, r, hb, hq, hr, rfl⟩ :
      ∃ b q r, b < 2 ∧ q < 2 ^ k ∧ r < 2 ^ i ∧ w = b * 2 ^ (i + k) + (q * 2 ^ i + r) := by
    refine ⟨w / 2 ^ i / 2 ^ k, w / 2 ^ i % 2 ^ k, w % 2 ^ i, ?_, Nat.mod_lt _ (by positivity),
      Nat.mod_lt _ (by positivity), ?_⟩
    · rw [Nat.div_div_eq_div_mul, Nat.div_lt_iff_lt_mul (by positivity)]
      exact hw.trans_eq (by ring)
    · calc w = (w / 2 ^ i / 2 ^ k * 2 ^ k + w / 2 ^ i % 2 ^ k) * 2 ^ i + w % 2 ^ i := by
            rw [Nat.div_add_mod', Nat.div_add_mod']
        _ = _ := by ring
  have hlow : q * 2 ^ i + r < 2 ^ (i + k) := by
    calc q * 2 ^ i + r < (q + 1) * 2 ^ i := by rw [Nat.add_one_mul]; exact Nat.add_lt_add_left hr _
      _ ≤ 2 ^ k * 2 ^ i := Nat.mul_le_mul_right _ hq
      _ = 2 ^ (i + k) := by rw [pow_add, mul_comm]
  have hlowOne : r * 2 + b < 2 ^ (i + 1) := by rw [pow_succ]; omega
  calc rotatedLeft (i + (k + 1)) (b * 2 ^ (i + k) + (q * 2 ^ i + r)) (k + 1)
      = rotatedLeft (i + (k + 1)) ((b * 2 ^ k + q) * 2 ^ i + r) (k + 1) := by congr 1; ring
    _ = (r * 2 + b) * 2 ^ k + q := by rw [rotatedLeft_of_parts hr]; ring
    _ = rotatedLeft (i + 1 + k) (q * 2 ^ (i + 1) + (r * 2 + b)) k := (rotatedLeft_of_parts hlowOne).symm
    _ = rotatedLeft (i + (k + 1)) ((q * 2 ^ i + r) * 2 + b) k := by congr 1 <;> ring
    _ = rotatedLeft (i + (k + 1)) (rotatedLeft (i + k + 1) (b * 2 ^ (i + k) + (q * 2 ^ i + r)) 1) k := by
      rw [rotatedLeft_one hlow]
theorem rotatedRight_succ {m k : Nat} (w : Nat) (hk : k + 1 ≤ m) :
    rotatedRight m w (k + 1) = rotatedRight m (rotatedRight m w 1) k := by
  obtain ⟨i, rfl⟩ := Nat.exists_eq_add_of_le' hk
  obtain ⟨q, p, b, hp, hb, rfl⟩ : ∃ q p b, p < 2 ^ k ∧ b < 2 ∧ w = (q * 2 ^ k + p) * 2 + b :=
    ⟨w / 2 / 2 ^ k, w / 2 % 2 ^ k, w % 2, Nat.mod_lt _ (by positivity), Nat.mod_lt _ Nat.two_pos, by
      rw [Nat.div_add_mod', Nat.div_add_mod']⟩
  have hlow : p * 2 + b < 2 ^ (k + 1) := by rw [pow_succ]; omega
  calc rotatedRight (i + (k + 1)) ((q * 2 ^ k + p) * 2 + b) (k + 1)
      = rotatedRight (i + (k + 1)) (q * 2 ^ (k + 1) + (p * 2 + b)) (k + 1) := by congr 1; ring
    _ = p * 2 ^ (i + 1) + (b * 2 ^ i + q) := by rw [rotatedRight_of_parts hlow]; ring
    _ = rotatedRight (i + 1 + k) ((b * 2 ^ i + q) * 2 ^ k + p) k := (rotatedRight_of_parts hp).symm
    _ = rotatedRight (i + (k + 1)) (b * 2 ^ (i + k) + (q * 2 ^ k + p)) k := by congr 1 <;> ring
    _ = rotatedRight (i + (k + 1)) (rotatedRight (i + k + 1) ((q * 2 ^ k + p) * 2 + b) 1) k := by
      rw [rotatedRight_one hb]

/-! ROL and ROR are such rotations of the operand (R321, R322). -/

theorem toNat_shiftLeft_or_ushiftRight {n k : Nat} (a : BitVec n) (hk : k ≤ n) :
    ((a <<< k) ||| (a >>> (n - k))).toNat = rotatedLeft n a.toNat k := by
  have hlow : a.toNat / 2 ^ (n - k) < 2 ^ k := by
    rw [Nat.div_lt_iff_lt_mul (by positivity), ← pow_add, Nat.add_sub_cancel' hk]
    exact a.isLt
  rw [rotatedLeft, BitVec.toNat_or, BitVec.toNat_shiftLeft, BitVec.toNat_ushiftRight, Nat.shiftLeft_eq,
    Nat.shiftRight_eq_div_pow, mul_two_pow_mod_two_pow _ hk, mul_comm, Nat.two_pow_add_eq_or_of_lt hlow]

section
variable {n : Nat} (a : BitVec n) (c : Nat) (o af cf : Bool) (f : Flags)

theorem toNat_shiftResult_rol (hn : 0 < n) :
    (shiftResult .rol a c o af cf f).1.toNat = rotatedLeft n a.toNat (c % n) := by
  simp only [shiftResult]
  split
  next hzero => rw [hzero, rotatedLeft_zero a.isLt]
  next => exact toNat_shiftLeft_or_ushiftRight a (Nat.mod_lt c hn).le
theorem toNat_shiftResult_ror (hn : 0 < n) :
    (shiftResult .ror a c o af cf f).1.toNat = rotatedRight n a.toNat (c % n) := by
  have hk : c % n ≤ n := (Nat.mod_lt c hn).le
  simp only [shiftResult]
  split
  next hzero => rw [hzero, rotatedRight_zero]
  next =>
    have hleft := toNat_shiftLeft_or_ushiftRight a (Nat.sub_le n (c % n))
    rwa [Nat.sub_sub_self hk, rotatedLeft_complement _ hk, BitVec.or_comm] at hleft
end

/-! Bits as quotients: what leaves the operand at a shift. -/

theorem getLsbD_eq_div {n : Nat} (a : BitVec n) (i : Nat) : a.getLsbD i = decide (a.toNat / 2 ^ i % 2 = 1) := by
  rw [← BitVec.testBit_toNat, Nat.testBit_eq_decide_div_mod_eq]
theorem toNat_decide_odd (q : Nat) : (decide (q % 2 = 1)).toNat = q % 2 := by
  rcases Nat.mod_two_eq_zero_or_one q with heven | hodd
  · simp [heven]
  · simp [hodd]
theorem getLsbD_sub_eq_mul_div {n c : Nat} (a : BitVec n) (hc : c ≤ n) :
    a.getLsbD (n - c) = decide (a.toNat * 2 ^ c / 2 ^ n % 2 = 1) := by
  have hsplit : 2 ^ n = 2 ^ (n - c) * 2 ^ c := by rw [← pow_add, Nat.sub_add_cancel hc]
  rw [getLsbD_eq_div, hsplit, Nat.mul_div_mul_right _ _ (by positivity)]

/-! RCL and RCR rotate the n + 1 bits with CF on top (R323, R324). -/

/-- The number of n + 1 bits with the carry above the operand's bits. -/
def withCarry {n : Nat} (x : BitVec n × Bool) : Nat := x.1.toNat + 2 ^ n * x.2.toNat

theorem withCarry_lt {n : Nat} (x : BitVec n × Bool) : withCarry x < 2 ^ (n + 1) := by
  have hx := x.1.isLt
  cases h : x.2 <;> simp [withCarry, h, pow_succ] <;> omega
theorem toNat_eq_withCarry_mod {n : Nat} (x : BitVec n × Bool) : x.1.toNat = withCarry x % 2 ^ n := by
  rw [withCarry, Nat.add_mul_mod_self_left, Nat.mod_eq_of_lt x.1.isLt]
theorem carry_eq_le_withCarry {n : Nat} (x : BitVec n × Bool) : x.2 = decide (2 ^ n ≤ withCarry x) := by
  have hx := x.1.isLt
  cases h : x.2 <;> simp [withCarry, h, hx]

theorem withCarry_rclN_one {n : Nat} (hn : 0 < n) (a : BitVec n) (cf : Bool) :
    withCarry (rclN 1 a cf) = rotatedLeft (n + 1) (withCarry (a, cf)) 1 := by
  have hmsb : a.msb.toNat = a.toNat * 2 / 2 ^ n := by
    have hquot : a.toNat * 2 / 2 ^ n < 2 := by
      have ha := a.isLt
      rw [Nat.div_lt_iff_lt_mul (by positivity)]
      omega
    rw [BitVec.msb_eq_getLsbD_last, getLsbD_sub_eq_mul_div a hn, pow_one, toNat_decide_odd, Nat.mod_eq_of_lt hquot]
  have hvalue : ((a <<< 1) ||| (BitVec.ofBool cf).setWidth n).toNat = a.toNat * 2 % 2 ^ n + cf.toNat := by
    have hshift := mul_two_pow_mod_two_pow a.toNat hn
    rw [BitVec.toNat_or, BitVec.toNat_shiftLeft, toNat_carry hn, Nat.shiftLeft_eq, hshift, mul_comm,
      ← Nat.two_pow_add_eq_or_of_lt (i := 1) cf.toNat_lt, mul_comm, ← hshift, pow_one]
  calc withCarry (rclN 1 a cf)
      = a.toNat * 2 % 2 ^ n + cf.toNat + 2 ^ n * (a.toNat * 2 / 2 ^ n) := by rw [← hvalue, ← hmsb]; rfl
    _ = a.toNat * 2 + cf.toNat := by rw [Nat.add_right_comm, Nat.mod_add_div]
    _ = rotatedLeft (n + 1) (cf.toNat * 2 ^ n + a.toNat) 1 := (rotatedLeft_one a.isLt).symm
    _ = rotatedLeft (n + 1) (withCarry (a, cf)) 1 := by rw [withCarry]; congr 1; ring
theorem withCarry_rcrN_one {n : Nat} (hn : 0 < n) (a : BitVec n) (cf : Bool) :
    withCarry (rcrN 1 a cf) = rotatedRight (n + 1) (withCarry (a, cf)) 1 := by
  have htwice : 2 ^ n = 2 ^ (n - 1) * 2 := (Nat.two_pow_pred_mul_two hn).symm
  have ha := a.isLt
  have hlow : (a.getLsbD 0).toNat = a.toNat % 2 := by
    rw [getLsbD_eq_div, pow_zero, Nat.div_one, toNat_decide_odd]
  have hvalue : ((a >>> 1) ||| ((BitVec.ofBool cf).setWidth n <<< (n - 1))).toNat =
      2 ^ (n - 1) * cf.toNat + a.toNat / 2 := by
    have hhalf : a.toNat / 2 < 2 ^ (n - 1) := by omega
    have htop : cf.toNat * 2 ^ (n - 1) < 2 ^ n := by
      rw [htwice, mul_comm]
      exact Nat.mul_lt_mul_of_pos_left cf.toNat_lt (by positivity)
    rw [BitVec.or_comm, BitVec.toNat_or, BitVec.toNat_shiftLeft, BitVec.toNat_ushiftRight, toNat_carry hn,
      Nat.shiftLeft_eq, Nat.shiftRight_eq_div_pow, Nat.mod_eq_of_lt htop, pow_one, mul_comm,
      Nat.two_pow_add_eq_or_of_lt hhalf]
  calc withCarry (rcrN 1 a cf)
      = 2 ^ (n - 1) * cf.toNat + a.toNat / 2 + 2 ^ n * (a.toNat % 2) := by rw [← hvalue, ← hlow]; rfl
    _ = a.toNat % 2 * 2 ^ n + (2 ^ (n - 1) * cf.toNat + a.toNat / 2) := by ring
    _ = rotatedRight (n + 1) ((2 ^ (n - 1) * cf.toNat + a.toNat / 2) * 2 + a.toNat % 2) 1 :=
      (rotatedRight_one (Nat.mod_lt _ Nat.two_pos)).symm
    _ = rotatedRight (n + 1) (withCarry (a, cf)) 1 := by
      rw [withCarry, htwice, Nat.add_mul, Nat.add_assoc, Nat.div_add_mod']
      congr 1
      ring
theorem withCarry_rclN {n k : Nat} (hn : 0 < n) (hk : k ≤ n + 1) (a : BitVec n) (cf : Bool) :
    withCarry (rclN k a cf) = rotatedLeft (n + 1) (withCarry (a, cf)) k := by
  induction k generalizing a cf with
  | zero => exact (rotatedLeft_zero (withCarry_lt (a, cf))).symm
  | succ k ih =>
    rw [rotatedLeft_succ (withCarry_lt _) hk, ← withCarry_rclN_one hn]
    exact ih (Nat.le_of_succ_le hk) _ _
theorem withCarry_rcrN {n k : Nat} (hn : 0 < n) (hk : k ≤ n + 1) (a : BitVec n) (cf : Bool) :
    withCarry (rcrN k a cf) = rotatedRight (n + 1) (withCarry (a, cf)) k := by
  induction k generalizing a cf with
  | zero => exact (rotatedRight_zero _ _).symm
  | succ k ih =>
    rw [rotatedRight_succ _ hk, ← withCarry_rcrN_one hn]
    exact ih (Nat.le_of_succ_le hk) _ _
theorem rcCount_le {n c : Nat} (hc : c ≤ 31) : rcCount n c ≤ n + 1 := by
  rw [rcCount]
  split
  next => omega
  next => exact (Nat.mod_lt c n.succ_pos).le

/-! CF after RCL and RCR is the top bit of the rotated number. -/

section
variable {n c : Nat} (a : BitVec n) (o af cf : Bool) (f : Flags)
theorem shiftResult_rcl (hn : 0 < n) (hc : c ≤ 31) :
    let w := rotatedLeft (n + 1) (withCarry (a, f.cf)) (rcCount n c)
    let r := (shiftResult .rcl a c o af cf f).1
    r.toNat = w % 2 ^ n ∧ (shiftResult .rcl a c o af cf f).2 = { f with
      cf := decide (2 ^ n ≤ w), ofl := if c = 1 then r.getLsbD (n - 1) ^^ decide (2 ^ n ≤ w) else o } := by
  have hw := withCarry_rclN hn (rcCount_le hc) a f.cf
  have hcarry := carry_eq_le_withCarry (rclN (rcCount n c) a f.cf)
  rw [hw] at hcarry
  exact ⟨(toNat_eq_withCarry_mod _).trans (congrArg (· % 2 ^ n) hw), by
    simp only [shiftResult, BitVec.msb_eq_getLsbD_last, hcarry]⟩
theorem shiftResult_rcr (hn : 0 < n) (hc : c ≤ 31) :
    let w := rotatedRight (n + 1) (withCarry (a, f.cf)) (rcCount n c)
    (shiftResult .rcr a c o af cf f).1.toNat = w % 2 ^ n ∧ (shiftResult .rcr a c o af cf f).2 = { f with
      cf := decide (2 ^ n ≤ w), ofl := if c = 1 then a.getLsbD (n - 1) ^^ f.cf else o } := by
  have hw := withCarry_rcrN hn (rcCount_le hc) a f.cf
  have hcarry := carry_eq_le_withCarry (rcrN (rcCount n c) a f.cf)
  rw [hw] at hcarry
  exact ⟨(toNat_eq_withCarry_mod _).trans (congrArg (· % 2 ^ n) hw), by
    simp only [shiftResult, BitVec.msb_eq_getLsbD_last, hcarry]⟩
end

/-! SAR divides the signed value downwards (R327). -/

theorem getLsbD_zero_eq_toInt {n : Nat} (hn : 0 < n) (a : BitVec n) : a.getLsbD 0 = decide (a.toInt % 2 = 1) := by
  have hdvd : (2 : Int) ∣ ((2 ^ n : Nat) : Int) := by exact_mod_cast dvd_pow_self 2 hn.ne'
  have hmod : a.toInt % 2 = (a.toNat : Int) % 2 := by rw [BitVec.toInt_eq_toNat_cond]; split <;> omega
  rw [getLsbD_eq_div, pow_zero, Nat.div_one, hmod]
  exact decide_eq_decide.2 (by omega)
theorem toInt_sshiftRight_eq_div {n : Nat} (a : BitVec n) (c : Nat) : (a.sshiftRight c).toInt = a.toInt / 2 ^ c := by
  rw [BitVec.toInt_sshiftRight, Int.shiftRight_eq_div_pow, Nat.cast_pow, Nat.cast_ofNat]
theorem sar_carry_eq_div {n c : Nat} (hn : 0 < n) (a : BitVec n) :
    (if c < n then a.getLsbD (c - 1) else a.msb) = decide (a.toInt / 2 ^ (c - 1) % 2 = 1) := by
  rw [← toInt_sshiftRight_eq_div, ← getLsbD_zero_eq_toInt hn, BitVec.getLsbD_sshiftRight, BitVec.msb_eq_getLsbD_last]
  rcases lt_trichotomy c n with hlt | heq | hgt
  · simp [hn.ne', hlt, Nat.sub_lt_of_lt hlt]
  · simp [heq, hn.ne']
  · simp [hn.ne', hgt.not_gt, Nat.not_lt.2 (Nat.le_sub_one_of_lt hgt)]

/-- Settles O13: each operation by its value, then its flags. -/
theorem shiftResults : Obligations.ShiftResults := by
  intro n a c o af cf f hwidth _ hc
  have hn : 0 < n := by omega
  have hshlCf : (if c ≤ n then a.getLsbD (n - c) else cf) =
      if c ≤ n then decide (a.toNat * 2 ^ c / 2 ^ n % 2 = 1) else cf :=
    ite_congr rfl (fun hle => getLsbD_sub_eq_mul_div a hle) (fun _ => rfl)
  refine ⟨⟨toNat_shiftResult_rol a c o af cf f hn, ?rol⟩, ⟨toNat_shiftResult_ror a c o af cf f hn, ?ror⟩,
    shiftResult_rcl a o af cf f hn hc, shiftResult_rcr a o af cf f hn hc,
    ⟨BitVec.toNat_shiftLeft.trans (by rw [Nat.shiftLeft_eq]), ?shl⟩,
    ⟨(BitVec.toNat_ushiftRight a c).trans (Nat.shiftRight_eq_div_pow _ _), ?shr⟩, toInt_sshiftRight_eq_div a c, ?sar⟩
  case rol | ror => simp only [shiftResult, BitVec.msb_eq_getLsbD_last]
  case shl => simp only [shiftResult, Flags.ofResult_eq, BitVec.msb_eq_getLsbD_last, hshlCf]
  case shr => simp only [shiftResult, Flags.ofResult_eq, BitVec.msb_eq_getLsbD_last, getLsbD_eq_div a (c - 1)]
  case sar => simp only [shiftResult, Flags.ofResult_eq, sar_carry_eq_div hn]

end Sys2Proof.Machine
end

section
/-! SUPPORT, and O20. PUSHF and POPF where the mode admits them (R370, R371, R531). -/
namespace Sys2Proof.Machine
open Sys2Proof

/-- Outside V86 mode, and in it with IOPL = 3, the IOPL-sensitive instructions go on (R531). -/
theorem State.not_v86Sensitive {s : State} (h : s.v86 = false ∨ s.flags.iopl = 3#2) :
    ¬ (s.v86 && s.flags.iopl != 3#2) = true := by rcases h with h | h <;> simp [h]
theorem v86Sensitive_ok {s : State} (h : s.v86 = false ∨ s.flags.iopl = 3#2) : v86Sensitive s = .ok () s :=
  congrFun (if_neg (State.not_v86Sensitive h)) s
theorem push_ok {sz : OSize} {v : Word} {s s1 : State} {places : List (List PA)}
    (hp : pushPlaces sz 1 [v] s = .ok places s1) (h : s1.itemsOk places = true) :
    push sz v s = .ok () (s1.pushed sz places [v]) := pushMany_ok hp h
/-- What POPF writes (R339): neither VM nor RF, AC and ID from a doubleword only. -/
theorem State.writtenFlags_popf (s : State) (v : Word) (sz : OSize) : s.writtenFlags v sz false =
    { Flags.ofWord v with
      iopl := if s.pe = false ∨ s.cpl = 0#2 then (Flags.ofWord v).iopl else s.flags.iopl
      ifl := if s.pe = false ∨ s.cpl ≤ s.flags.iopl then (Flags.ofWord v).ifl else s.flags.ifl
      vm := s.flags.vm, rf := s.flags.rf
      ac := if sz = .w32 then (Flags.ofWord v).ac else s.flags.ac
      id := if sz = .w32 ∧ s.cfg.ccr4.getLsbD 7 then (Flags.ofWord v).id else s.flags.id } := by
  simp only [State.writtenFlags, pick, Bool.and_false, Bool.false_and, Bool.or_eq_true, Bool.and_eq_true,
    Bool.not_eq_true', beq_iff_eq, decide_eq_true_eq, Bool.false_eq_true, if_false]

/-- Settles O20: past the check of R531 PUSHF is a push, POPF a pop and the flags of `State.writtenFlags`. -/
theorem flagsOnStack : Obligations.FlagsOnStack := by
  refine ⟨fun sz s s1 pl hmode hpl hitems => ?_, fun sz s s1 v hmode hpeek => ?_⟩
  · exact runInstr_ok ((run_bind_ok _ (v86Sensitive_ok hmode)).trans (push_ok hpl hitems))
  · have hrun : exec (.popf sz) s = .next { s1.popped sz 1 0 with flags := s1.writtenFlags v sz false } :=
      runInstr_ok ((run_bind_ok _ (v86Sensitive_ok hmode)).trans (run_bind_ok _ (pop_ok hpeek)))
    rw [hrun, State.writtenFlags_popf]

end Sys2Proof.Machine
end

section
/-! SUPPORT. What pushes leave of the state: a store at checked places changes memory alone, then the stack pointer moves. -/
namespace Sys2Proof.Machine
open Sys2Proof

theorem State.storeItems_eq (s : State) (sz : OSize) (places : List (List PA)) (vals : List Word) :
    ∃ m m' c st, s.storeItems sz places vals = { s with mem := m, smm := m', cache := c, stale := st } := by
  induction places generalizing s vals with
  | nil => exact ⟨s.mem, s.smm, s.cache, s.stale, by cases vals <;> rfl⟩
  | cons pas rest ih =>
    cases vals with
    | nil => exact ⟨s.mem, s.smm, s.cache, s.stale, rfl⟩
    | cons v vs =>
      obtain ⟨_, _, _, _, h⟩ := s.storeBytes_eq pas (bytesOf (osBytes sz) v.toNat)
      obtain ⟨_, _, _, _, h'⟩ := ih (s.storeBytes pas (bytesOf (osBytes sz) v.toNat)) vs
      exact ⟨_, _, _, _, by rw [State.storeItems, h', h]⟩
section
variable (s : State) (sz : OSize) (places : List (List PA)) (vals : List Word)
@[simp] theorem State.storeItems_flags : (s.storeItems sz places vals).flags = s.flags := by
  obtain ⟨_, _, _, _, h⟩ := s.storeItems_eq sz places vals
  rw [h]
@[simp] theorem State.pushed_eip : (s.pushed sz places vals).eip = s.eip := by
  obtain ⟨_, _, _, _, h⟩ := s.storeItems_eq sz places vals
  rw [State.pushed, State.withStackPtr_eip, h]
@[simp] theorem State.pushed_flags : (s.pushed sz places vals).flags = s.flags := by
  rw [State.pushed, State.withStackPtr_flags, State.storeItems_flags]
@[simp] theorem State.pushed_segs : (s.pushed sz places vals).segs = s.segs := by
  rw [State.pushed, State.withStackPtr_segs, State.storeItems_segs]
end
theorem pushPlaces_same {sz : OSize} {k : Nat} {vals : List Word} {s t : State} {pl : List (List PA)}
    (h : pushPlaces sz k vals s = .ok pl t) : sameButAccess s t := (pushPlaces_frame h).same
theorem sameButAccess.eip {s t : State} (h : sameButAccess s t) : t.eip = s.eip := by rw [h]

end Sys2Proof.Machine
end

section
/-! SUPPORT, and O21. Near JMP, CALL and RET: the target is checked first, so that past the CS limit nothing else happens
(R331). -/
namespace Sys2Proof.Machine
open Sys2Proof

/-- A target of operand size is whole. -/
theorem osTrunc_setWidth {sz : OSize} (v : BitVec (osBits sz)) : osTrunc sz (v.setWidth 32) = v.setWidth 32 := by
  cases sz with
  | w16 =>
    have hmask (x : Word16) : x.setWidth 32 &&& (BitVec.allOnes 16).setWidth 32 = x.setWidth 32 := by
      rw [← BitVec.setWidth_and, BitVec.and_allOnes]
    exact hmask v
  | w32 => rfl

section
variable {sz : OSize} {t : Word} {s : State}

theorem jumpNear_ok (h : osTrunc sz t ≤ s.segs.cs.limit) : jumpNear sz t s = .ok () (s.jumped (osTrunc sz t)) :=
  (run_bind_ok _ (loadEip_ok h)).trans rfl
theorem callNear_ok (h : osTrunc sz t ≤ s.segs.cs.limit) {s1 : State} {pl : List (List PA)}
    (hpl : pushPlaces sz 1 [s.eip] { s with eip := osTrunc sz t } = .ok pl s1) (hitems : s1.itemsOk pl = true) :
    callNear sz t s = .ok () ((s1.pushed sz pl [s.eip]).jumped (osTrunc sz t)) := by
  have heip : (s1.pushed sz pl [s.eip]).eip = osTrunc sz t := by rw [State.pushed_eip, (pushPlaces_same hpl).eip]
  rw [← heip]
  exact (run_bind_ok _ (run_get s)).trans <| (run_bind_ok _ (loadEip_ok h)).trans 
    ((run_bind_ok _ (push_ok hpl hitems)).trans rfl)
theorem retNear_ok {n : Word16} {s1 : State} (hpeek : peekStack sz 0 s = .ok t s1)
    (h : osTrunc sz t ≤ s1.segs.cs.limit) :
    retNear sz n s = .ok () ((s1.popped sz 1 n.toNat).returned (osTrunc sz t)) :=
  (run_bind_ok _ hpeek).trans ((run_bind_ok _ (loadEip_ok h)).trans rfl)
theorem retNear_gp {n : Word16} {s1 : State} (hpeek : peekStack sz 0 s = .ok t s1)
    (h : ¬ osTrunc sz t ≤ s1.segs.cs.limit) : retNear sz n s = .error (.exc (.gp 0#16)) s1 :=
  (run_bind_ok _ hpeek).trans (run_bind_error _ (loadEip_gp (BitVec.not_le.1 h)))
variable (h : ¬ osTrunc sz t ≤ s.segs.cs.limit)
include h
theorem jumpNear_gp : jumpNear sz t s = .error (.exc (.gp 0#16)) s := run_bind_error _ (loadEip_gp (BitVec.not_le.1 h))
theorem callNear_gp : callNear sz t s = .error (.exc (.gp 0#16)) s :=
  (run_bind_ok _ (run_get s)).trans (run_bind_error _ (loadEip_gp (BitVec.not_le.1 h)))
end

/-! The instructions, once their target is known. -/

section
variable {sz : OSize} {s s1 : State}
theorem jmpRel8_runsOn (sz : OSize) (d : Byte) (s : State) :
    RunsOn (.jmpRel8 sz d) s (jumpNear sz (s.eip + d.signExtend 32)) s := ⟨_, rfl, rfl⟩
theorem jmpRel_runsOn (d : Imm) (s : State) : RunsOn (.jmpRel d) s (jumpNear d.osize (s.eip + immSext d)) s := ⟨_, rfl, rfl⟩
theorem callRel_runsOn (d : Imm) (s : State) : RunsOn (.callRel d) s (callNear d.osize (s.eip + immSext d)) s :=
  ⟨_, rfl, rfl⟩
variable {d : RMv} {v : BitVec (osBits sz)} (hv : readRMv sz d s = .ok v s1)
include hv
theorem jmpEv_runsOn : RunsOn (.jmpEv sz d) s (jumpNear sz (v.setWidth 32)) s1 := ⟨_, rfl, run_bind_ok _ hv⟩
theorem callEv_runsOn : RunsOn (.callEv sz d) s (callNear sz (v.setWidth 32)) s1 :=
  ⟨_, rfl, (run_bind_ok _ (run_get s)).trans (run_bind_ok _ (before_ok _ hv))⟩
end

/-- Settles O21: each instruction is the transfer to its target, which passes the check of the limit or does not. -/
theorem nearTransfers : Obligations.NearTransfers := by
  refine ⟨fun sz d s => ?jmpRel8, fun d s => ?rel, fun sz d s s1 v hv => ?ev, fun d s s1 pl => ?callRel,
    fun sz d s s0 s1 v pl hv => ?callEv, fun sz n s s1 v hpeek => ?ret⟩
  case jmpRel8 =>
    have hrun := jmpRel8_runsOn sz d s
    exact ⟨fun h => hrun.next (jumpNear_ok h), fun h => hrun.fault (jumpNear_gp h)⟩
  case rel =>
    have hjmp := jmpRel_runsOn d s
    have hcall := callRel_runsOn d s
    exact ⟨fun h => hjmp.next (jumpNear_ok h), fun h => ⟨hjmp.fault (jumpNear_gp h), hcall.fault (callNear_gp h)⟩⟩
  case ev =>
    rw [← osTrunc_setWidth v]
    have hjmp := jmpEv_runsOn hv
    have hcall := callEv_runsOn hv
    exact ⟨fun h => hjmp.next (jumpNear_ok h), fun h => ⟨hjmp.fault (jumpNear_gp h), hcall.fault (callNear_gp h)⟩⟩
  case callRel => exact fun h hpl hitems => (callRel_runsOn d s).next (callNear_ok h hpl hitems)
  case callEv =>
    rw [← osTrunc_setWidth v]
    exact fun h hpl hitems => (callEv_runsOn hv).next (callNear_ok h hpl hitems)
  case ret =>
    exact ⟨fun h => ⟨runInstr_ok (retNear_ok hpeek h), runInstr_ok (retNear_ok hpeek h)⟩,
      fun h => ⟨runInstr_exc (retNear_gp hpeek h), runInstr_exc (retNear_gp hpeek h)⟩⟩

end Sys2Proof.Machine
end

section
/-! SUPPORT, and O22. Far JMP, CALL and RET in real and V86 mode: only the offset is checked, CS is loaded by `State.realSeg`. -/
namespace Sys2Proof.Machine
open Sys2Proof

section
variable {sel : Word16} {off : Word} {s : State} (hs : s.realLike = true)
include hs

theorem checkFar_real_gp (h : s.segs.cs.limit < off) : checkFar sel off s = .error (.exc (.gp 0#16)) s :=
  (congrFun (if_pos hs) s).trans (run_check_raise (by simpa using h))
theorem checkFar_real_ok (h : off ≤ s.segs.cs.limit) :
    checkFar sel off s = .ok { cs := s.realSeg s.segs.cs sel, eip := off, desc := none } s := by
  rw [← State.loadReal_eq]
  exact (congrFun (if_pos hs) s).trans (run_check_pass (by simpa using h))
end

section
variable {sel : Word16} {off off' : Word} {cs : Seg} {s t : State}
  (hc : checkFar sel off s = .ok { cs := cs, eip := off', desc := none } t)
include hc

theorem jumpFar_noDesc_ok : jumpFar sel off s = .ok () (t.jumpedFar cs off') := run_bind_ok _ hc
theorem callFar_noDesc_ok {sz : OSize} {u v : State} {pl : List (List PA)} {item : Word}
    (hpl : pushPlaces sz 1 [0#32, 0#32] t = .ok pl u) (hsel : selItem sz t.segs.cs.sel u = .ok item v)
    (hitems : v.itemsOk pl = true) :
    callFar sz sel off s = .ok () ((v.pushed sz pl [item, t.eip]).jumpedFar cs off') :=
  (run_bind_ok _ hc).trans <| (run_bind_ok _ hpl).trans <| (run_bind_ok _ hsel).trans
    (run_bind_ok _ (pushCommit_ok sz hitems _))
end

/-! RET: its two items are read, then the offset is checked (R338). -/

/-- A far return to offset `off` of segment `sel` in real and V86 mode. -/
def realRetf (sz : OSize) (n sel : Word16) (off : Word) : Act Unit := do
  if decide ((← get).segs.cs.limit < off) then raise (.gp 0#16)
  dropStack sz 2 n.toNat
  upd fun s => { s with segs := { s.segs with cs := s.loadReal s.segs.cs sel }, eip := off }
  transferred

theorem retFar_real {sz : OSize} {s s1 s2 : State} {off sel32 : Word} (n : Word16) (h0 : peekStack sz 0 s = .ok off s1)
    (h1 : peekStack sz 1 s1 = .ok sel32 s2) (hs : s2.realLike = true) :
    retFar sz n s = realRetf sz n (sel32.setWidth 16) off s2 :=
  (run_bind_ok _ (peekItem_ok h0)).trans <| (run_bind_ok _ (peekItem_ok h1)).trans (congrFun (if_pos hs) s2)
section
variable {sz : OSize} {n sel : Word16} {off : Word} {s : State}
theorem realRetf_gp (h : s.segs.cs.limit < off) : realRetf sz n sel off s = .error (.exc (.gp 0#16)) s :=
  run_check_raise (by simpa using h)
theorem realRetf_ok (h : off ≤ s.segs.cs.limit) : realRetf sz n sel off s =
    .ok () ((s.popped sz 2 n.toNat).returnedFar (s.realSeg s.segs.cs sel) off) := by
  rw [← State.loadReal_eq]
  exact run_check_pass (by simpa using h)
end

/-- Settles O22: JMP and CALL by what the check of their target answers, RET by its offset. -/
theorem realFarTransfers : Obligations.RealFarTransfers := by
  refine ⟨fun i s s1 sel off hjump hs => ?jump, fun i sz s s1 sel off hcall hs => ?call,
    fun sz n s s1 s2 off sel h0 h1 hs => ?ret⟩
  case jump =>
    exact ⟨fun h => hjump.runsOn.next (jumpFar_noDesc_ok (checkFar_real_ok hs h)),
      fun h => hjump.runsOn.fault (run_bind_error _ (checkFar_real_gp hs h))⟩
  case call =>
    exact ⟨fun h => hcall.runsOn.fault (run_bind_error _ (checkFar_real_gp hs h)),
      fun h s2 s3 pl cs hpl hsel hitems =>
        hcall.runsOn.next (callFar_noDesc_ok (checkFar_real_ok hs h) hpl hsel hitems)⟩
  case ret =>
    have hrun (n : Word16) := retFar_real n h0 h1 hs
    exact ⟨fun h => ⟨runInstr_ok ((hrun 0#16).trans (realRetf_ok h)), runInstr_ok ((hrun n).trans (realRetf_ok h))⟩,
      fun h => ⟨runInstr_exc ((hrun 0#16).trans (realRetf_gp h)), runInstr_exc ((hrun n).trans (realRetf_gp h))⟩⟩

end Sys2Proof.Machine
end

section
/-! SUPPORT, and O24. IRET in real mode, and in V86 mode with IOPL = 3 (R340). -/
namespace Sys2Proof.Machine
open Sys2Proof

section
variable {sz : OSize} {s : State} (hs : s.realLike = true) (hmode : s.v86 = false ∨ s.flags.iopl = 3#2)
include hs hmode

theorem interruptReturn_real : interruptReturn sz s =
    (do
      realReturn sz
      transferred
      upd fun s => { s with nmiBlocked := false } : Act Unit) s :=
  (run_bind_ok _ (run_get s)).trans <| (run_check_pass (State.not_v86Sensitive hmode)).trans <| congrFun (if_pos hs) s
theorem exec_iret_real_ok {t : State} (h : realReturn sz s = .ok () t) :
    exec (.iret sz) s = .next { t with stale := [], nmiBlocked := false } :=
  runInstr_ok <| (interruptReturn_real hs hmode).trans (run_bind_ok _ h)
theorem exec_iret_real_exc {t : State} {x : Exc} (h : realReturn sz s = .error (.exc x) t) :
    exec (.iret sz) s = deliverFault x (rollback s t) :=
  runInstr_exc <| (interruptReturn_real hs hmode).trans (run_bind_error _ h)
end

section
variable {sz : OSize} {s s1 s2 s3 : State} {off sel fl : Word} (h0 : peekStack sz 0 s = .ok off s1)
  (h1 : peekStack sz 1 s1 = .ok sel s2) (h2 : peekStack sz 2 s2 = .ok fl s3)
include h0 h1 h2

theorem realReturn_gp (h : s3.segs.cs.limit < off) : realReturn sz s = .error (.exc (.gp 0#16)) s3 :=
  (run_bind_ok _ (peekItem_ok h0)).trans <| (run_bind_ok _ (peekItem_ok h1)).trans <|
    (run_bind_ok _ (peekItem_ok h2)).trans (run_check_raise (by simpa using h))
theorem realReturn_ok (h : off ≤ s3.segs.cs.limit) : realReturn sz s = .ok () { s3.popped sz 3 0 with
    segs := { s3.segs with cs := s3.realSeg s3.segs.cs (sel.setWidth 16) }, eip := off
    flags := s3.writtenFlags fl sz true } := by
  rw [← State.loadReal_eq]
  exact (run_bind_ok _ (peekItem_ok h0)).trans <| (run_bind_ok _ (peekItem_ok h1)).trans <|
    (run_bind_ok _ (peekItem_ok h2)).trans (run_check_pass (by simpa using h))
end

/-- Settles O24: the three items are read, then the offset is checked. -/
theorem realIret : Obligations.RealIret := fun _ _ _ _ _ _ _ _ hs hmode h0 h1 h2 =>
  ⟨fun h => exec_iret_real_ok hs hmode (realReturn_ok h0 h1 h2 h),
    fun h => exec_iret_real_exc hs hmode (realReturn_gp h0 h1 h2 h)⟩

end Sys2Proof.Machine
end

section
/-! SUPPORT, and O27. INTO with OF = 0, and BOUND once its two bounds are read (R343, R344). -/
namespace Sys2Proof.Machine
open Sys2Proof

/-- The end of BOUND: the index in `r` lies between the bounds, or #BR. -/
def boundCheck (sz : OSize) (r : Reg) (lo hi : Nat) : Act Unit := do
  let i := (← getRegV sz r).toInt
  if i < (BitVec.ofNat (osBits sz) lo).toInt ∨ (BitVec.ofNat (osBits sz) hi).toInt < i then raise .br

theorem bound_runsOn {sz : OSize} (r : Reg) {m : Mem} {s s1 s2 : State} {lo hi : Nat}
    (hlo : memRead (s.dataSeg (defaultSeg m)) (effAddr s.regs m) (osBytes sz) (osBytes sz) s = .ok lo s1)
    (hhi : memRead (s.dataSeg (defaultSeg m)) (effAddr s.regs m + BitVec.ofNat 32 (osBytes sz)) (osBytes sz) (osBytes sz) s1 =
      .ok hi s2) : RunsOn (.bound sz r m) s (boundCheck sz r lo hi) s2 :=
  ⟨_, rfl, (run_bind_ok _ (before_ok _ hlo)).trans (run_bind_ok _ hhi)⟩
/-- The index in `r` lies within the bounds, both included. -/
def State.withinBounds (s : State) (sz : OSize) (r : Reg) (lo hi : Nat) : Prop :=
  (BitVec.ofNat (osBits sz) lo).toInt ≤ ((s.regs.get r).setWidth (osBits sz)).toInt ∧
    ((s.regs.get r).setWidth (osBits sz)).toInt ≤ (BitVec.ofNat (osBits sz) hi).toInt
section
variable {sz : OSize} {r : Reg} {lo hi : Nat} {s : State}
theorem boundCheck_ok (h : s.withinBounds sz r lo hi) : boundCheck sz r lo hi s = .ok () s :=
  congrFun (if_neg (not_or.2 ⟨Int.not_lt.2 h.1, Int.not_lt.2 h.2⟩)) s
theorem boundCheck_br (h : ¬ s.withinBounds sz r lo hi) : boundCheck sz r lo hi s = .error (.exc .br) s := by
  rw [State.withinBounds, not_and_or, Int.not_le, Int.not_le] at h
  exact congrFun (if_pos h) s
end

/-- Settles O27: INTO looks at OF alone, BOUND at the index once the bounds are read. -/
theorem intoAndBound : Obligations.IntoAndBound := by
  refine ⟨fun s hof => ?into, fun sz r m s s1 s2 lo hi hlo hhi => ?bound⟩
  case into =>
    have hskip : ¬ s.flags.ofl = true := by rw [hof]; decide
    exact runInstr_ok (congrFun (if_neg hskip) s)
  case bound =>
    have hrun := bound_runsOn r hlo hhi
    exact ⟨fun h => hrun.next (boundCheck_ok h), fun h => hrun.fault (boundCheck_br h)⟩

end Sys2Proof.Machine
end

section
/-! SUPPORT, and O28. LOOP, LOOPE and LOOPNE: the count, then the branch with its check of the limit (R345 to R347). -/
namespace Sys2Proof.Machine
open Sys2Proof

theorem countDown_ok (az : ASize) (s : State) :
    countDown az s = .ok (asTrunc az (s.regs.ecx - 1#32) != 0#32) (s.counted az) := by
  cases az with
  | a16 => rfl
  | a32 => rw [State.counted, State.putReg, mergeLow_32]; rfl
theorem State.counted_eq (s : State) (az : ASize) : ∃ g, s.counted az = { s with regs := g } := by
  cases az <;> exact ⟨_, rfl⟩

section
variable {sz : OSize} {az : ASize} {d : Byte} {cond : Flags → Bool} {s : State}

/-- The count is taken down; only then the condition and the target are looked at. -/
theorem loopIf_eq : loopIf sz az d cond s =
    (if (asTrunc az (s.regs.ecx - 1#32) != 0#32 && cond s.flags) = true then
      (do loadEip sz (← relTarget (d.signExtend 32))) else pure () : Act Unit) (s.counted az) := by
  rw [loopIf, run_bind_ok _ (countDown_ok az s)]
  cases az <;> rfl
theorem loopIf_done (h : asTrunc az (s.regs.ecx - 1#32) = 0#32 ∨ cond s.flags = false) :
    loopIf sz az d cond s = .ok () (s.counted az) :=
  loopIf_eq.trans (congrFun (if_neg (by simpa [-not_and, not_and_or] using h)) _)
variable (hcount : asTrunc az (s.regs.ecx - 1#32) ≠ 0#32) (hcond : cond s.flags = true)
include hcount hcond
theorem loopIf_branches : loopIf sz az d cond s = loadEip sz (s.eip + d.signExtend 32) (s.counted az) := by
  rw [loopIf_eq, if_pos (by simp [hcount, hcond])]
  cases az <;> rfl
theorem loopIf_taken (h : osTrunc sz (s.eip + d.signExtend 32) ≤ s.segs.cs.limit) :
    loopIf sz az d cond s = .ok () { s.counted az with eip := osTrunc sz (s.eip + d.signExtend 32) } := by
  obtain ⟨g, hg⟩ := s.counted_eq az
  rw [loopIf_branches hcount hcond, hg]
  exact loadEip_ok h
theorem loopIf_gp (h : s.segs.cs.limit < osTrunc sz (s.eip + d.signExtend 32)) :
    loopIf sz az d cond s = .error (.exc (.gp 0#16)) (s.counted az) := by
  obtain ⟨g, hg⟩ := s.counted_eq az
  rw [loopIf_branches hcount hcond, hg]
  exact loadEip_gp h
end

theorem rollback_counted (s : State) (az : ASize) : rollback s (s.counted az) = rollback s s := by
  obtain ⟨g, hg⟩ := s.counted_eq az
  rw [hg]
  rfl

/-- The three instructions differ in their condition. -/
theorem exec_loop {sz : OSize} {az : ASize} {d : Byte} {i : Instr} {c : Bool} {s : State}
    (h : (i, c) ∈ [(Instr.loop sz az d, true), (.loope sz az d, s.flags.zf), (.loopne sz az d, !s.flags.zf)]) :
    ∃ cond : Flags → Bool, cond s.flags = c ∧ exec i s = runInstr (loopIf sz az d cond) s := by
  simp only [List.mem_cons, Prod.mk.injEq, List.not_mem_nil, or_false] at h
  rcases h with ⟨rfl, rfl⟩ | ⟨rfl, rfl⟩ | ⟨rfl, rfl⟩
  · exact ⟨fun _ => true, rfl, rfl⟩
  · exact ⟨fun f => f.zf, rfl, rfl⟩
  · exact ⟨fun f => !f.zf, rfl, rfl⟩

/-- Settles O28: by what the count and the condition say, then the check of the limit. -/
theorem loopForms : Obligations.LoopForms := by
  refine ⟨fun sz az d i c s hi => ?_, fun sz az d => ⟨rfl, rfl, rfl⟩⟩
  obtain ⟨cond, rfl, hexec⟩ := exec_loop hi
  refine ⟨fun h => hexec.trans (runInstr_ok (loopIf_done h)),
    fun hcount hcond h => hexec.trans (runInstr_ok (loopIf_taken hcount hcond h)), fun hcount hcond h => ?_⟩
  rw [hexec, runInstr_exc (loopIf_gp hcount hcond h), rollback_counted]

end Sys2Proof.Machine
end

section
/-! SUPPORT. One attempt at a delivery (R500): the entry of the mode, then fetch sees every store, halt and shutdown are over. -/
namespace Sys2Proof.Machine
open Sys2Proof

section
variable {kind : Kind} {v : Byte} {e : Word} {c : Option Word16} {fault : Bool} {s t : State}
theorem deliver_real_ok (hpe : s.pe = false) (h : realDeliver v e s = .ok () t) :
    deliver kind v e c fault s = .ok () t.handling :=
  (congrFun (if_neg (by simp [hpe])) s).trans (run_bind_ok _ h)
variable (hpe : s.pe = true)
include hpe
theorem deliver_prot_ok (h : protDeliver kind v e c fault s = .ok () t) :
    deliver kind v e c fault s = .ok () t.handling :=
  (congrFun (if_pos hpe) s).trans (run_bind_ok _ h)
theorem deliver_prot_error {x : Stop} (h : protDeliver kind v e c fault s = .error x t) :
    deliver kind v e c fault s = .error x t :=
  (congrFun (if_pos hpe) s).trans (run_bind_error _ h)
end

/-- A software interrupt is one delivery, the saved EIP that of the next instruction (R341). -/
theorem softInt_eq (v : Byte) (s : State) : softInt v s = deliver .software v s.eip none false s := rfl

section
variable {v : Byte} {s t : State}
theorem exec_intN_ok (hmode : s.v86 = false ∨ s.flags.iopl = 3#2) (h : softInt v s = .ok () t) : exec (.intN v) s = .next t :=
  runInstr_ok ((run_bind_ok _ (v86Sensitive_ok hmode)).trans h)
theorem exec_int3_ok (h : softInt 3#8 s = .ok () t) : exec .int3 s = .next t := runInstr_ok h
theorem exec_into_ok (hof : s.flags.ofl = true) (h : softInt 4#8 s = .ok () t) : exec .into s = .next t :=
  runInstr_ok ((congrFun (if_pos hof) s).trans h)
end

end Sys2Proof.Machine
end

section
/-! SUPPORT, and O26. Delivery in real mode with paging off: the far pointer in the interrupt table (R501). -/
namespace Sys2Proof.Machine
open Sys2Proof

/-! The bytes of a far pointer in memory order (R144). -/

theorem leNat_lt (bs : List Byte) : leNat bs < 256 ^ bs.length := by
  induction bs with
  | nil => decide
  | cons b rest ih =>
    have hb := b.isLt
    simp only [leNat, List.length_cons, Nat.pow_succ]
    omega
theorem leNat_append (xs ys : List Byte) : leNat (xs ++ ys) = leNat xs + 256 ^ xs.length * leNat ys := by
  induction xs with
  | nil => simp [leNat]
  | cons b rest ih =>
    simp only [List.cons_append, leNat, ih, List.length_cons, Nat.pow_succ]
    ring
section
variable {bs : List Byte} (h : bs.length = 4)
include h
theorem leNat_halves : leNat bs = leNat (bs.take 2) + 65536 * leNat (bs.drop 2) ∧ leNat (bs.take 2) < 65536 ∧
    leNat (bs.drop 2) < 65536 := by
  have hsplit := leNat_append (bs.take 2) (bs.drop 2)
  have hlow := leNat_lt (bs.take 2)
  have hhigh := leNat_lt (bs.drop 2)
  rw [List.take_append_drop] at hsplit
  simp only [List.length_take, List.length_drop, h] at hsplit hlow hhigh
  exact ⟨hsplit, hlow, hhigh⟩
theorem farPointer_offset : ((BitVec.ofNat 32 (leNat bs)).extractLsb' 0 16).setWidth 32 =
    BitVec.ofNat 32 (leNat (bs.take 2)) := by
  obtain ⟨hsplit, hlow, -⟩ := leNat_halves h
  apply BitVec.eq_of_toNat_eq
  simp only [BitVec.toNat_setWidth, BitVec.extractLsb'_toNat, BitVec.toNat_ofNat, Nat.shiftRight_zero]
  omega
theorem farPointer_selector : (BitVec.ofNat 32 (leNat bs)).extractLsb' 16 16 = BitVec.ofNat 16 (leNat (bs.drop 2)) := by
  obtain ⟨hsplit, hlow, hhigh⟩ := leNat_halves h
  apply BitVec.eq_of_toNat_eq
  simp only [BitVec.extractLsb'_toNat, BitVec.toNat_ofNat, Nat.shiftRight_eq_div_pow]
  omega
end

/-- Pushes leave the mode as it is, so that a register is loaded as before them (R152). -/
theorem State.pushed_loadReal {s s1 : State} (hsame : sameButAccess s s1) (hpe : s.pe = false) (sz : OSize)
    (pl : List (List PA)) (vals : List Word) (g : Seg) (sel : Word16) :
    (s1.pushed sz pl vals).loadReal g sel = { g with sel := sel, base := BitVec.ofNat 32 (16 * sel.toNat) } := by
  obtain ⟨_, _, _, _, h⟩ := s1.storeItems_eq sz pl vals
  have hv86 : (s1.pushed sz pl vals).v86 = false := by
    rw [State.pushed, h, hsame]
    exact congrArg (· && s.flags.vm) hpe
  rw [State.loadReal_eq, State.realSeg, hv86]
  rfl

section
variable {v : Byte} {e : Word} {s s1 : State} {pl : List (List PA)} (hpe : s.pe = false) (hpg : s.pg = false)
  (hread : s.readOk = true) (hlim : 4 * v.toNat + 3 ≤ s.idtr.limit.toNat)
  (hpl : pushPlaces .w16 1 [s.flags.toWord, s.segs.cs.sel.setWidth 32, e] s = .ok pl s1) (hitems : s1.itemsOk pl = true)
include hpe hpg hread hlim hpl hitems

/-- FLAGS, CS and the saved IP are pushed, and CS:EIP is the far pointer at 4 times the vector (R501). -/
theorem realDeliver_ok :
    let entry := s.bytesAt (paRange (s.idtr.base + BitVec.ofNat 32 (4 * v.toNat)) 4)
    let sel := leNat (entry.drop 2)
    let u := s1.pushed .w16 pl [s.flags.toWord, s.segs.cs.sel.setWidth 32, e]
    realDeliver v e s = .ok () { u with
      flags := { s.flags with ifl := false, tf := false }
      segs := { u.segs with cs := { s.segs.cs with sel := BitVec.ofNat 16 sel, base := BitVec.ofNat 32 (16 * sel) } }
      eip := BitVec.ofNat 32 (leNat (entry.take 2)) } := by
  intro entry sel u
  have hlen : entry.length = 4 := rfl
  have hsame := pushPlaces_same hpl
  have hflags : u.flags = s.flags := by rw [State.pushed_flags, hsame]
  have hsegs : u.segs = s.segs := by rw [State.pushed_segs, hsame]
  have hsel : (BitVec.ofNat 16 sel).toNat = sel := Nat.mod_eq_of_lt (leNat_halves hlen).2.2
  have hcs : u.loadReal u.segs.cs (BitVec.ofNat 16 sel) =
      { s.segs.cs with sel := BitVec.ofNat 16 sel, base := BitVec.ofNat 32 (16 * sel) } := by
    rw [State.pushed_loadReal hsame hpe, hsel, hsegs]
  rw [← hflags, ← hcs, ← farPointer_offset hlen, ← farPointer_selector hlen]
  exact (run_check_pass (by simpa using hlim)).trans <| (run_bind_ok _ (linRead_off hpg hread _ (by decide))).trans
    (run_bind_ok _ (pushMany_ok hpl hitems))
end

/-- Settles O26: the three instructions are one delivery in real mode. -/
theorem realSoftwareInterrupt : Obligations.RealSoftwareInterrupt := by
  intro s s1 v pl hpe hpg hread hlim entry items hpl hitems off sel t
  have hmode : s.v86 = false ∨ s.flags.iopl = 3#2 := .inl (by rw [State.v86, hpe, Bool.false_and])
  have hsoft : softInt v s = .ok () t := deliver_real_ok hpe (realDeliver_ok hpe hpg hread hlim hpl hitems)
  exact ⟨exec_intN_ok hmode hsoft, fun hv => exec_int3_ok (hv ▸ hsoft), fun hv hof => exec_into_ok hof (hv ▸ hsoft)⟩

end Sys2Proof.Machine
end

section
/-! SUPPORT. The chain of deliveries (R491): one lemma per outcome of an attempt, and what takes an event. -/
namespace Sys2Proof.Machine
open Sys2Proof

/-! What a second exception becomes (R491). -/

theorem contributory_iff {v : Byte} : contributory v = true ↔ v ∈ [0#8, 10#8, 11#8, 12#8, 13#8] := by
  simp only [contributory, Bool.or_eq_true, beq_iff_eq, List.mem_cons, List.not_mem_nil, or_false, or_assoc]
/-- A first and a second exception that make a double fault (R491). -/
def doubleFaults (kind : Kind) (v : Byte) (y : Exc) : Prop :=
  kind = .exception ∧ (v ∈ [0#8, 10#8, 11#8, 12#8, 13#8] ∧ y.vec ∈ [0#8, 10#8, 11#8, 12#8, 13#8] ∨
    v = 14#8 ∧ (y.vec ∈ [0#8, 10#8, 11#8, 12#8, 13#8] ∨ y.vec = 14#8))
section
variable {kind : Kind} {v : Byte} {y : Exc}
theorem second_none (hk : kind = .exception) (hv : v = 8#8) : second kind v y = none :=
  if_pos (by simp [hk, hv])
/-- Outside #DF the second exception is a double fault or is delivered itself. -/
theorem second_some (h : ¬ (kind = .exception ∧ v = 8#8)) : second kind v y =
    if kind = .exception && contributory v && contributory y.vec then some .doubleFault
    else if kind = .exception && v == 14#8 && (contributory y.vec || y.vec == 14#8) then some .doubleFault
    else some y := if_neg (by simpa using h)
theorem second_single (h8 : ¬ (kind = .exception ∧ v = 8#8)) (h : ¬ doubleFaults kind v y) : second kind v y = some y := by
  rw [second_some h8, if_neg, if_neg]
  · simp only [Bool.and_eq_true, Bool.or_eq_true, decide_eq_true_eq, beq_iff_eq, contributory_iff]
    exact fun ⟨⟨hk, hv⟩, hy⟩ => h ⟨hk, .inr ⟨hv, hy⟩⟩
  · simp only [Bool.and_eq_true, decide_eq_true_eq, contributory_iff]
    exact fun ⟨⟨hk, hv⟩, hy⟩ => h ⟨hk, .inl ⟨hv, hy⟩⟩
theorem doubleFaults.not_doubleFault (h : doubleFaults kind v y) : ¬ (kind = .exception ∧ v = 8#8) := by
  rintro ⟨-, rfl⟩
  rcases h with ⟨-, ⟨h, -⟩ | ⟨h, -⟩⟩
  · exact absurd h (by decide)
  · exact absurd h (by decide)
theorem second_double (h : doubleFaults kind v y) : second kind v y = some .doubleFault := by
  rw [second_some h.not_doubleFault]
  obtain ⟨hk, ⟨hv, hy⟩ | ⟨hv, hy⟩⟩ := h
  · exact if_pos (by simp [hk, contributory_iff.2 hv, contributory_iff.2 hy])
  · have hy' : (contributory y.vec || y.vec == 14#8) = true := by
      simpa only [Bool.or_eq_true, beq_iff_eq, contributory_iff] using hy
    have hpage : (kind = .exception && v == 14#8 && (contributory y.vec || y.vec == 14#8)) = true := by
      rw [hy']
      simp [hk, hv]
    rw [if_pos hpage, ite_self]
end

/-! One attempt after the other. -/

section
variable {fuel : Nat} {kind : Kind} {v : Byte} {e : Word} {c : Option Word16} {fault : Bool} {s t : State}
theorem deliverAll_ok (h : deliver kind v e c fault s = .ok () t) : deliverAll (fuel + 1) kind v e c fault s = .next t := by
  have hrun : (deliver kind v e c fault).run s = .ok () t := h
  rw [deliverAll, hrun]
variable {x : Exc} (h : deliver kind v e c fault s = .error (.exc x) t)
include h
theorem deliverAll_shutdown (hx : second kind v x = none) :
    deliverAll (fuel + 1) kind v e c fault s = .next { rollback s t with shutdown := true } := by
  have hrun : (deliver kind v e c fault).run s = .error (.exc x) t := h
  rw [deliverAll, hrun]
  simp only [hx]
theorem deliverAll_second {y : Exc} (hx : second kind v x = some y) :
    deliverAll (fuel + 1) kind v e c fault s = deliverAll fuel .exception y.vec e y.code true (rollback s t) := by
  have hrun : (deliver kind v e c fault).run s = .error (.exc x) t := h
  rw [deliverAll, hrun]
  simp only [hx]
end

/-- Whatever is taken, the step is the chain of deliveries that starts with it. -/
theorem taken_eq {o : Host.Outcome State Fault Refusal} {s : State} {kind : Kind} {v : Byte} {e : Word} {c : Option Word16}
    {fault : Bool} (h : taken o s kind v e c fault) :
    o = mapNext State.ended (deliverAll deliveryFuel kind v e c fault s) := by
  rcases h with ⟨x, hx, rfl, rfl, rfl, rfl, rfl, rfl⟩ | ⟨s0, rfl, rfl, rfl, rfl, rfl, rfl⟩ |
    ⟨s0, rfl, rfl, rfl, rfl, rfl, rfl⟩ | ⟨s0, hits, bs, rfl, rfl, rfl, rfl, rfl⟩
  · exact if_neg (by simpa using hx)
  · rfl
  · rfl
  · have hbs : (if bs then 0x4000#32 else 0#32) = bitAt 14 bs := by cases bs <;> rfl
    rw [hbs]
    rfl

end Sys2Proof.Machine
end

section
/-! SUPPORT. What the accesses of a delivery leave of the state (R502): descriptors, the TSS, and the places on the inner
stack. -/
namespace Sys2Proof.Machine
open Sys2Proof

theorem linRead_accessOnly (la : Word) (n : Nat) : (linRead la n).AccessOnly :=
  .bind (linAccess_accessOnly _ _ _ _ _) fun _ => .bind (physRead_accessOnly _) fun _ => .pure _
theorem linWrite_accessOnly (la : Word) (n v : Nat) : (linWrite la n v).AccessOnly :=
  .bind (linAccess_accessOnly _ _ _ _ _) fun _ => physWrite_accessOnly _ _
theorem readDesc_accessOnly (sel : Word16) (bad : Exc) : (readDesc sel bad).AccessOnly :=
  .get fun _ => .ite (.check <| .bind (linRead_accessOnly _ _) fun _ => .pure _)
    (.check <| .bind (linRead_accessOnly _ _) fun _ => .pure _)
theorem markAccessed_accessOnly (a : Word) (d : BitVec 64) : (markAccessed a d).AccessOnly :=
  .ite (linWrite_accessOnly _ _ _) (.pure _)
theorem checkStackSel_accessOnly (sel : Word16) (lvl : BitVec 2) (nullX badX npX : Exc) :
    (checkStackSel sel lvl nullX badX npX).AccessOnly :=
  .check <| .bind (readDesc_accessOnly _ _) fun ⟨_, _⟩ => .check <| .check <| .pure _
theorem tssStack_accessOnly (lvl : BitVec 2) (x : Word16) : (tssStack lvl x).AccessOnly :=
  .get fun _ => .ite
    (.check <| .bind (linRead_accessOnly _ _) fun _ => .bind (linRead_accessOnly _ _) fun _ => .pure _)
    (.check <| .bind (linRead_accessOnly _ _) fun _ => .bind (linRead_accessOnly _ _) fun _ => .pure _)
theorem innerPlaces_accessOnly (g : Seg) (sz : OSize) (sp : Word) (k : Nat) (vals : List Word) :
    (innerPlaces g sz sp k vals).AccessOnly := by
  induction vals generalizing k with
  | nil => exact .pure _
  | cons v rest ih =>
    exact .bind (linAccess_accessOnly _ _ _ _ _) fun _ => .bind (noteHits_accessOnly _) fun _ => .bind (ih _) fun _ => .pure _
theorem sameButAccess.flags {s t : State} (h : sameButAccess s t) : t.flags = s.flags := by rw [h]
theorem sameButAccess.segs {s t : State} (h : sameButAccess s t) : t.segs = s.segs := by rw [h]

end Sys2Proof.Machine
end

section
/-! SUPPORT. The entries of a handler (R502, R503): the items that are pushed, and the state in which the handler starts. -/
namespace Sys2Proof.Machine
open Sys2Proof

/-- The state in a handler of the code segment that descriptor `d` describes, at offset `off` and level `lvl`, entered with
flags `f` (end of R502). -/
def State.inHandler (s : State) (f : Flags) (sel : Word16) (d : BitVec 64) (off : Word) (lvl : BitVec 2)
    (interruptGate : Bool) : State :=
  { s with
    segs := { s.segs with cs := Seg.ofDesc (selCode sel ||| lvl.setWidth 16) d }, cpl := lvl, eip := off
    flags := { f with tf := false, nt := false, vm := false, rf := false, ifl := f.ifl && !interruptGate } }
@[simp] theorem enterHandler_ok (sel : Word16) (d : BitVec 64) (off : Word) (lvl : BitVec 2) (interruptGate : Bool)
    (s : State) : enterHandler sel d off lvl interruptGate s = .ok () (s.inHandler s.flags sel d off lvl interruptGate) := rfl

/-! Items with an undefined upper half (R502, U3). -/

/-- The state after `n` items of a selector or an error code: each may draw a free word. -/
def State.drawn (s : State) (sz : OSize) (n : Nat) : State := { s with freeCtr := s.freeCtr + n * selDraws sz }
@[simp] theorem State.drawn_zero (s : State) (sz : OSize) : s.drawn sz 0 = s := by rw [State.drawn, Nat.zero_mul]; rfl
theorem State.drawn_drawn (s : State) (sz : OSize) (m n : Nat) : (s.drawn sz m).drawn sz n = s.drawn sz (m + n) := by
  simp only [State.drawn, Nat.add_mul, Nat.add_assoc]
/-- A selector as the item after `n` others. -/
def State.selValueAt (s : State) (sz : OSize) (n : Nat) (sel : Word16) : Word := selValue sz (s.drawn sz n).freeCtr sel
/-- An error code, if there is one, as the item after `n` others. -/
def State.codeValuesAt (s : State) (sz : OSize) (n : Nat) (c : Option Word16) : List Word :=
  match c with
  | none => []
  | some c => [s.selValueAt sz n c]
/-- How many items an error code takes. -/
def codeCount (c : Option Word16) : Nat := if c.isSome then 1 else 0
theorem selItem_ok (sz : OSize) (sel : Word16) (s : State) :
    selItem sz sel s = .ok (selValue sz s.freeCtr sel) (s.drawn sz 1) := by cases sz <;> rfl
theorem selItem_drawn (s : State) (sz : OSize) (n : Nat) (sel : Word16) :
    selItem sz sel (s.drawn sz n) = .ok (s.selValueAt sz n sel) (s.drawn sz (n + 1)) := by
  rw [selItem_ok, State.drawn_drawn]
  rfl
theorem codeItems_drawn (s : State) (sz : OSize) (n : Nat) (c : Option Word16) :
    codeItems sz c (s.drawn sz n) = .ok (s.codeValuesAt sz n c) (s.drawn sz (n + codeCount c)) := by
  cases c with
  | none => rfl
  | some c => exact run_bind_ok _ (selItem_drawn s sz n c)

/-! Entry at the same level (R502). -/

section
variable {sz : OSize} {sel : Word16} {da : Word} {d : BitVec 64} {off : Word} {x : Word16} {e : Word} {c : Option Word16}
  {fault interruptGate : Bool} {s s1 s2 : State} {pl : List (List PA)}

/-- Flags, CS, EIP and an error code go to the current stack. -/
theorem sameEntry_ok (hroom : stackRoom s.segs.ss sz s.stackPtr (3 + codeCount c) = true)
    (hlim : off ≤ descLimit d) (hpl : pushPlaces sz 1 (blanks (3 + codeCount c)) s = .ok pl s1)
    (hm : markAccessed da d s1 = .ok () s2) (hitems : s2.itemsOk pl = true) :
    sameEntry sz sel da d off x e c fault interruptGate s = .ok () (((s2.drawn sz (1 + codeCount c)).pushed sz pl
      ([flagsImage s.flags fault, selValue sz s2.freeCtr s.segs.cs.sel, e] ++ s2.codeValuesAt sz 1 c)).inHandler
      s.flags sel d off s.cpl interruptGate) := by
  have hdrawn : (s2.drawn sz (1 + codeCount c)).itemsOk pl = true := hitems
  have hflags : (s2.drawn sz (1 + codeCount c)).flags = s.flags :=
    ((pushPlaces_same hpl).trans (markAccessed_accessOnly _ _ hm)).flags
  refine (run_check_pass (by simpa [codeCount] using hroom)).trans <| (run_check_pass (by simpa using hlim)).trans <|
    (run_bind_ok _ hpl).trans <| (run_bind_ok _ hm).trans <| (run_bind_ok _ (selItem_ok sz _ s2)).trans <|
    (run_bind_ok _ (codeItems_drawn s2 sz 1 c)).trans <| (run_bind_ok _ (pushCommit_ok sz hdrawn _)).trans ?_
  rw [enterHandler_ok, State.pushed_flags, hflags]
end

/-! Entry at an inner level (R502, R503). -/

/-- How many items the data segment registers take: from V86 mode they are pushed. -/
def dataCount (vm : Bool) : Nat := if vm then 4 else 0
/-- The data segment registers as items of an entry that has drawn nothing before. -/
def State.dataValues (s : State) (sz : OSize) (vm : Bool) (g : Segs) : List Word :=
  if vm then [s.selValueAt sz 0 g.gs.sel, s.selValueAt sz 1 g.fs.sel, s.selValueAt sz 2 g.ds.sel, s.selValueAt sz 3 g.es.sel]
  else []
/-- The items of an inner entry interrupted in `s`, their free words drawn from `u` on. -/
def innerValues (sz : OSize) (s u : State) (e : Word) (c : Option Word16) (fault : Bool) : List Word :=
  let n := dataCount s.flags.vm
  u.dataValues sz s.flags.vm s.segs ++ [u.selValueAt sz n s.segs.ss.sel, s.regs.esp, flagsImage s.flags fault,
    u.selValueAt sz (n + 1) s.segs.cs.sel, e] ++ u.codeValuesAt sz (n + 2) c
/-- A data segment register in the handler: null after an entry from V86 mode. -/
def Seg.nullFromV86 (g : Seg) (vm : Bool) : Seg := if vm then g.nullLoad 0#16 else g
/-- The state after an entry interrupted in `s` that pushed `items` items on the new stack `g`. -/
def State.onStack (t s : State) (sz : OSize) (g : Seg) (nsp : Word) (items : Nat) : State :=
  { t with
    segs := { t.segs with
      ss := g, ds := s.segs.ds.nullFromV86 s.flags.vm, es := s.segs.es.nullFromV86 s.flags.vm
      fs := s.segs.fs.nullFromV86 s.flags.vm, gs := s.segs.gs.nullFromV86 s.flags.vm }
    regs := { t.regs with esp := newEsp g (newEsp g s.regs.esp nsp) (pushOff g sz (wrapSp g nsp) items) } }

/-- The new stack becomes the current one, then the handler is entered. -/
def takeStack (sz : OSize) (sel : Word16) (d : BitVec 64) (off : Word) (interruptGate vm : Bool) (g : Seg) (nsp : Word)
    (items : Nat) : Act Unit := do
  upd fun s => { s with
    segs := { s.segs with ss := g }
    regs := { s.regs with esp := newEsp g (newEsp g s.regs.esp nsp) (pushOff g sz (wrapSp g nsp) items) } }
  if vm then
    upd fun s => { s with
      segs := { s.segs with
        ds := s.segs.ds.nullLoad 0#16, es := s.segs.es.nullLoad 0#16
        fs := s.segs.fs.nullLoad 0#16, gs := s.segs.gs.nullLoad 0#16 } }
  enterHandler sel d off (descAttr d).dpl interruptGate
theorem takeStack_ok (sz : OSize) (sel : Word16) (d : BitVec 64) (off : Word) (interruptGate : Bool) (g : Seg) (nsp : Word)
    (items : Nat) {s t : State} (hregs : t.regs = s.regs) (hsegs : t.segs = s.segs) (hflags : t.flags = s.flags) :
    takeStack sz sel d off interruptGate s.flags.vm g nsp items t =
      .ok () ((t.onStack s sz g nsp items).inHandler s.flags sel d off (descAttr d).dpl interruptGate) := by
  rw [State.onStack, ← hregs, ← hsegs, ← hflags]
  cases t.flags.vm <;> rfl
/-- The end of an inner entry interrupted in `s`, the data segment selectors drawn: the stack `g` takes the items at their
places and becomes the current one. -/
def innerCommit (sz : OSize) (sel : Word16) (d : BitVec 64) (off e : Word) (c : Option Word16) (fault interruptGate : Bool)
    (s : State) (g : Seg) (nsp : Word) (items : Nat) (places : List (List PA)) (dataSels : List Word) : Act Unit := do
  let oldSs ← selItem sz s.segs.ss.sel
  let oldCs ← selItem sz s.segs.cs.sel
  let code ← codeItems sz c
  writeItems sz places (dataSels ++ [oldSs, s.regs.esp, flagsImage s.flags fault, oldCs, e] ++ code)
  takeStack sz sel d off interruptGate s.flags.vm g nsp items

/-- How many items an inner entry interrupted in `s` pushes. -/
def State.innerCount (s : State) (c : Option Word16) : Nat := 5 + dataCount s.flags.vm + codeCount c
/-- The state after an inner entry interrupted in `s` whose places on the stack `g` were checked by `u`. -/
def State.innerEntered (u s : State) (sz : OSize) (sel : Word16) (d : BitVec 64) (off e : Word) (c : Option Word16)
    (fault interruptGate : Bool) (g : Seg) (nsp : Word) (places : List (List PA)) : State :=
  (((u.drawn sz (dataCount s.flags.vm + 2 + codeCount c)).storeItems sz places (innerValues sz s u e c fault)).onStack
    s sz g nsp (s.innerCount c)).inHandler s.flags sel d off (descAttr d).dpl interruptGate

section
variable {sz : OSize} {sel : Word16} {d : BitVec 64} {off e : Word} {c : Option Word16} {fault interruptGate : Bool}
  {s u : State} {pl : List (List PA)} (hitems : u.itemsOk pl = true)
include hitems

theorem innerCommit_ok (hsame : sameButAccess s u) (g : Seg) (nsp : Word) :
    innerCommit sz sel d off e c fault interruptGate s g nsp (s.innerCount c) pl (u.dataValues sz s.flags.vm s.segs)
      (u.drawn sz (dataCount s.flags.vm)) =
    .ok () (u.innerEntered s sz sel d off e c fault interruptGate g nsp pl) := by
  have hdrawn : (u.drawn sz (dataCount s.flags.vm + 2 + codeCount c)).itemsOk pl = true := hitems
  exact (run_bind_ok _ (selItem_drawn u sz _ _)).trans <| (run_bind_ok _ (selItem_drawn u sz _ _)).trans <|
    (run_bind_ok _ (codeItems_drawn u sz _ c)).trans <| (run_bind_ok _ (writeItems_ok sz hdrawn _)).trans <|
    takeStack_ok _ _ _ _ _ _ _ _ ((State.storeItems_regs _ _ _ _).trans hsame.regs)
      ((State.storeItems_segs _ _ _ _).trans hsame.segs) ((State.storeItems_flags _ _ _ _).trans hsame.flags)

variable {da sa : Word} {sd : BitVec 64} {x ss : Word16} {sp : Word} {s1 s2 s3 s4 : State}

/-- SS, ESP, flags, CS, EIP and an error code go to the stack that the TSS gives, from V86 mode the data segment registers
first. -/
theorem innerEntry_ok (htss : tssStack (descAttr d).dpl x s = .ok (ss, sp) s1)
    (hstack : checkStackSel ss (descAttr d).dpl (.ts x) (.ts (selCode ss + x)) (.ss (selCode ss + x)) s1 = .ok (sa, sd) s2)
    (hroom : stackRoom (Seg.ofDesc ss sd) sz (wrapSp (Seg.ofDesc ss sd) sp) (s.innerCount c) = true)
    (hlim : off ≤ descLimit d)
    (hpl : innerPlaces (Seg.ofDesc ss sd) sz (wrapSp (Seg.ofDesc ss sd) sp) 1 (blanks (s.innerCount c)) s2 = .ok pl s3)
    (hms : markAccessed sa sd s3 = .ok () s4) (hm : markAccessed da d s4 = .ok () u) :
    innerEntry sz sel da d off x e c fault interruptGate s =
      .ok () (u.innerEntered s sz sel d off e c fault interruptGate (Seg.ofDesc ss sd) sp pl) := by
  have hsame : sameButAccess s u := (tssStack_accessOnly _ _ htss).trans <|
    (checkStackSel_accessOnly _ _ _ _ _ hstack).trans <| (innerPlaces_accessOnly _ _ _ _ _ hpl).trans <|
    (markAccessed_accessOnly _ _ hms).trans (markAccessed_accessOnly _ _ hm)
  have hroom' : ¬ (!stackRoom (Seg.ofDesc ss sd) sz (wrapSp (Seg.ofDesc ss sd) sp) (s.innerCount c)) = true := by
    rw [hroom]
    decide
  have hcommit := innerCommit_ok (sz := sz) (sel := sel) (d := d) (off := off) (e := e) (c := c) (fault := fault)
    (interruptGate := interruptGate) hitems hsame (Seg.ofDesc ss sd) sp
  refine (run_bind_ok _ htss).trans <| (run_bind_ok _ hstack).trans <| (run_check_pass hroom').trans <|
    (run_check_pass (by simpa using hlim)).trans <| (run_bind_ok _ hpl).trans <| (run_bind_ok _ hms).trans <|
    (run_bind_ok _ hm).trans (Eq.trans ?_ hcommit)
  by_cases hvm : s.flags.vm = true
  · have hvals : u.dataValues sz s.flags.vm s.segs = _ := if_pos hvm
    have hcount : u.drawn sz (dataCount s.flags.vm) = u.drawn sz 4 := congrArg _ (if_pos hvm)
    have hgs := selItem_drawn u sz 0 s.segs.gs.sel
    rw [State.drawn_zero] at hgs
    rw [hvals, hcount]
    exact (congrFun (if_pos hvm) _).trans <| (run_bind_ok _ hgs).trans <| (run_bind_ok _ (selItem_drawn u sz 1 _)).trans <|
      (run_bind_ok _ (selItem_drawn u sz 2 _)).trans <| (run_bind_ok _ (selItem_drawn u sz 3 _)).trans rfl
  · have hvals : u.dataValues sz s.flags.vm s.segs = [] := if_neg hvm
    have hcount : u.drawn sz (dataCount s.flags.vm) = u := (congrArg _ (if_neg hvm)).trans (u.drawn_zero sz)
    rw [hvals, hcount]
    exact congrFun (if_neg hvm) _
end

end Sys2Proof.Machine
end

section
/-! SUPPORT. Gates (R502): the checks of a gate and of the code segment that it names, one lemma per outcome. -/
namespace Sys2Proof.Machine
open Sys2Proof

/-! Error codes that name a vector (R510). -/

/-- EXT: what is delivered is no software interrupt. -/
def extCode (kind : Kind) : Word16 := if kind = .software then 0#16 else 1#16
/-- The error code that names the gate of vector `v`. -/
def idtCode (kind : Kind) (v : Byte) : Word16 := v.setWidth 16 <<< 3 ||| 2#16 ||| extCode kind
theorem extCode_eq (kind : Kind) : extCode kind = BitVec.ofNat 16 (if kind = .software then 0 else 1) := by
  unfold extCode
  split <;> rfl
theorem idtCode_eq (kind : Kind) (v : Byte) :
    idtCode kind v = BitVec.ofNat 16 (8 * v.toNat + 2 + if kind = .software then 0 else 1) := by
  have hv : v.toNat < 256 := v.isLt
  have hindex : (v.setWidth 16 <<< 3 : Word16).toNat = 2 ^ 3 * v.toNat := by
    simp only [BitVec.toNat_shiftLeft, BitVec.toNat_setWidth, Nat.shiftLeft_eq]
    omega
  have hor {x : Word16} (hx : x.toNat < 2 ^ 3) :
      (v.setWidth 16 <<< 3 ||| x : Word16) = BitVec.ofNat 16 (8 * v.toNat + x.toNat) := by
    apply BitVec.eq_of_toNat_eq
    rw [BitVec.toNat_or, hindex, ← Nat.two_pow_add_eq_or_of_lt hx, BitVec.toNat_ofNat]
    omega
  rw [idtCode, extCode, BitVec.or_assoc]
  split
  · exact hor (x := 2#16) (by decide)
  · exact hor (x := 3#16) (by decide)

/-! The fields of a gate (R199). -/

def gateType (g : BitVec 64) : BitVec 5 := g.extractLsb' 40 5
/-- The operand size of a gate: 32 bits for types 0Eh and 0Fh. -/
def gateSize (g : BitVec 64) : OSize := if (gateType g).getLsbD 3 then .w32 else .w16
def gateSel (g : BitVec 64) : Word16 := g.extractLsb' 16 16
def gateOff (g : BitVec 64) : Word :=
  if (gateType g).getLsbD 3 then g.extractLsb' 48 16 ++ g.extractLsb' 0 16 else (g.extractLsb' 0 16).setWidth 32
/-- Task, interrupt and trap gates: the types that an entry of the IDT may have. -/
def isGateType (t : BitVec 5) : Bool := t == 0x5#5 || t == 0x6#5 || t == 0x7#5 || t == 0xE#5 || t == 0xF#5
theorem isGateType_iff {t : BitVec 5} : isGateType t = true ↔ t ∈ [5#5, 6#5, 7#5, 0xE#5, 0xF#5] := by
  simp only [isGateType, Bool.or_eq_true, beq_iff_eq, List.mem_cons, List.not_mem_nil, or_false, or_assoc]
/-- An interrupt gate clears IF, a trap gate does not. -/
def isInterruptGate (g : BitVec 64) : Bool := gateType g == 0x6#5 || gateType g == 0xE#5

section
variable {g : BitVec 64} (h : gateType g ∈ [6#5, 7#5, 0xE#5, 0xF#5])
include h
theorem gateType_wide : gateType g ∈ [0xE#5, 0xF#5] ↔ (gateType g).getLsbD 3 = true := by
  simp only [List.mem_cons, List.not_mem_nil, or_false] at h
  rcases h with h | h | h | h <;> rw [h] <;> decide
theorem not_isInterruptGate : (!isInterruptGate g) = (gateType g == 7#5 || gateType g == 0xF#5) := by
  unfold isInterruptGate
  simp only [List.mem_cons, List.not_mem_nil, or_false] at h
  rcases h with h | h | h | h <;> rw [h] <;> decide

/-- The size and the offset of an interrupt or trap gate by its type. -/
theorem gateSize_eq : gateSize g = if gateType g ∈ [0xE#5, 0xF#5] then .w32 else .w16 :=
  if_congr (gateType_wide h).symm rfl rfl
theorem gateOff_eq : gateOff g = if gateType g ∈ [0xE#5, 0xF#5] then g.extractLsb' 48 16 ++ g.extractLsb' 0 16
    else 0#16 ++ g.extractLsb' 0 16 :=
  if_congr (gateType_wide h).symm rfl (BitVec.setWidth_eq_append (by decide))
end

/-! The checks in their order. -/

/-- The code segment that a gate names, checked, then the entry of its level. -/
def toHandler (x : Word16) (cpl : BitVec 2) (vm : Bool) (g : BitVec 64) (e : Word) (c : Option Word16) (fault : Bool) :
    Act Unit := do
  if nullSel (gateSel g) then raise (.gp x)
  let bad := Exc.gp (selCode (gateSel g) + x)
  let (da, d) ← readDesc (gateSel g) bad
  if !(descAttr d).code || decide (cpl < (descAttr d).dpl) then raise bad
  if !(descAttr d).p then raise (.np (selCode (gateSel g) + x))
  if vm && ((descAttr d).conforming || (descAttr d).dpl != 0#2 || gateSize g = .w16) then raise bad
  if !(descAttr d).conforming && decide ((descAttr d).dpl < cpl) then
    innerEntry (gateSize g) (gateSel g) da d (gateOff g) x e c fault (isInterruptGate g)
  else sameEntry (gateSize g) (gateSel g) da d (gateOff g) x e c fault (isInterruptGate g)
/-- A gate that was read, checked: its type, for a software interrupt its level, its presence. -/
def throughGate (kind : Kind) (idt x : Word16) (cpl : BitVec 2) (vm : Bool) (g : BitVec 64) (e : Word) (c : Option Word16)
    (fault : Bool) : Act Unit := do
  if !isGateType (gateType g) then raise (.gp idt)
  if kind = .software && decide (g.extractLsb' 45 2 < cpl) then raise (.gp idt)
  if !g.getLsbD 47 then raise (.np idt)
  if gateType g == 0x5#5 then refuse .taskGate
  toHandler x cpl vm g e c fault

section
variable {kind : Kind} {v : Byte} {e : Word} {c : Option Word16} {fault : Bool} {s : State}

theorem protDeliver_pastLimit (h : s.idtr.limit.toNat < 8 * v.toNat + 7) :
    protDeliver kind v e c fault s = .error (.exc (.gp (idtCode kind v))) s := run_check_raise (by simpa using h)
theorem protDeliver_gate {n : Nat} {s1 : State} (h : 8 * v.toNat + 7 ≤ s.idtr.limit.toNat)
    (hread : linRead (s.idtr.base + BitVec.ofNat 32 (8 * v.toNat)) 8 s = .ok n s1) : protDeliver kind v e c fault s =
      throughGate kind (idtCode kind v) (extCode kind) s.cpl s.flags.vm (BitVec.ofNat 64 n) e c fault s1 :=
  (run_check_pass (by simpa using h)).trans (run_bind_ok _ hread)

variable {idt x : Word16} {cpl : BitVec 2} {vm : Bool} {g : BitVec 64}

theorem throughGate_badType (h : gateType g ∉ [5#5, 6#5, 7#5, 0xE#5, 0xF#5]) :
    throughGate kind idt x cpl vm g e c fault s = .error (.exc (.gp idt)) s :=
  run_check_raise (by simpa only [Bool.not_eq_true', ← Bool.not_eq_true, isGateType_iff] using h)

variable (htype : gateType g ∈ [5#5, 6#5, 7#5, 0xE#5, 0xF#5])
include htype

theorem throughGate_low (h : kind = .software ∧ g.extractLsb' 45 2 < cpl) :
    throughGate kind idt x cpl vm g e c fault s = .error (.exc (.gp idt)) s :=
  (run_check_pass (by rw [isGateType_iff.2 htype]; decide)).trans (run_check_raise (by simpa using h))
variable (hlow : ¬ (kind = .software ∧ g.extractLsb' 45 2 < cpl))
include hlow
theorem throughGate_notPresent (hp : g.getLsbD 47 = false) :
    throughGate kind idt x cpl vm g e c fault s = .error (.exc (.np idt)) s :=
  (run_check_pass (by rw [isGateType_iff.2 htype]; decide)).trans <| (run_check_pass (by simpa using hlow)).trans
    (run_check_raise (by rw [hp]; rfl))
variable (hp : g.getLsbD 47 = true)
include hp
theorem throughGate_task (h : gateType g = 5#5) :
    throughGate kind idt x cpl vm g e c fault s = .error (.refuse .taskGate) s :=
  (run_check_pass (by rw [isGateType_iff.2 htype]; decide)).trans <| (run_check_pass (by simpa using hlow)).trans <|
    (run_check_pass (by rw [hp]; decide)).trans (run_check_refuse (by simp [h]))
theorem throughGate_open (h : gateType g ≠ 5#5) :
    throughGate kind idt x cpl vm g e c fault s = toHandler x cpl vm g e c fault s :=
  (run_check_pass (by rw [isGateType_iff.2 htype]; decide)).trans <| (run_check_pass (by simpa using hlow)).trans <|
    (run_check_pass (by rw [hp]; decide)).trans (run_check_pass (by simpa using h))
end

section
variable {e : Word} {c : Option Word16} {fault : Bool} {s : State} {x : Word16} {cpl : BitVec 2} {vm : Bool} {g : BitVec 64}
  {da : Word} {d : BitVec 64} {t : State} (hn : nullSel (gateSel g) = false)
  (hd : readDesc (gateSel g) (.gp (selCode (gateSel g) + x)) s = .ok (da, d) t) (hcode : (descAttr d).code = true)
  (hdpl : (descAttr d).dpl ≤ cpl) (hp : (descAttr d).p = true)
  (hvm : vm = true → (descAttr d).conforming = false ∧ (descAttr d).dpl = 0#2 ∧ gateSize g = .w32)
include hn hd hcode hdpl hp hvm

/-- A handler in a present code segment of this or an inner level, from V86 mode of level 0 and through a 32-bit gate. -/
theorem toHandler_entry : toHandler x cpl vm g e c fault s =
    (if !(descAttr d).conforming && decide ((descAttr d).dpl < cpl) then
      innerEntry (gateSize g) (gateSel g) da d (gateOff g) x e c fault (isInterruptGate g)
    else sameEntry (gateSize g) (gateSel g) da d (gateOff g) x e c fault (isInterruptGate g)) t := by
  have hv86 : ¬ (vm && ((descAttr d).conforming || (descAttr d).dpl != 0#2 || gateSize g = .w16)) = true := by
    intro h
    obtain ⟨hvm', hbad⟩ := Bool.and_eq_true_iff.1 h
    obtain ⟨hconf, hdpl0, hsize⟩ := hvm hvm'
    rw [hconf, hdpl0, hsize] at hbad
    exact absurd hbad (by decide)
  exact (run_check_pass (by simp [hn])).trans <| (run_bind_ok _ hd).trans <|
    (run_check_pass (by simpa [hcode] using hdpl)).trans <| (run_check_pass (by simp [hp])).trans (run_check_pass hv86)
theorem toHandler_inner (hconf : (descAttr d).conforming = false) (hlvl : (descAttr d).dpl < cpl) :
    toHandler x cpl vm g e c fault s =
      innerEntry (gateSize g) (gateSel g) da d (gateOff g) x e c fault (isInterruptGate g) t :=
  (toHandler_entry hn hd hcode hdpl hp hvm).trans (congrFun (if_pos (by simp [hconf, hlvl])) t)
theorem toHandler_same (hlvl : (descAttr d).conforming = true ∨ (descAttr d).dpl = cpl) :
    toHandler x cpl vm g e c fault s =
      sameEntry (gateSize g) (gateSel g) da d (gateOff g) x e c fault (isInterruptGate g) t := by
  refine (toHandler_entry hn hd hcode hdpl hp hvm).trans (congrFun (if_neg ?_) t)
  rcases hlvl with h | h <;> simp [h]
end

end Sys2Proof.Machine
end

section
/-! SUPPORT, and O47. Delivery in protected and V86 mode (R502, R503), and what a step that takes an event ends in (R491). -/
namespace Sys2Proof.Machine
open Sys2Proof

section
variable {kind : Kind} {v : Byte} {e : Word} {c : Option Word16} {fault : Bool} {s s1 : State} {n : Nat}
  (hlim : 8 * v.toNat + 7 ≤ s.idtr.limit.toNat)
  (hread : linRead (s.idtr.base + BitVec.ofNat 32 (8 * v.toNat)) 8 s = .ok n s1)
include hlim hread

/-- A present interrupt or trap gate that admits the level leads to its code segment. -/
theorem protDeliver_open (htype : gateType (BitVec.ofNat 64 n) ∈ [6#5, 7#5, 0xE#5, 0xF#5])
    (hlow : ¬ (kind = .software ∧ (BitVec.ofNat 64 n).extractLsb' 45 2 < s.cpl))
    (hp : (BitVec.ofNat 64 n).getLsbD 47 = true) : protDeliver kind v e c fault s =
      toHandler (extCode kind) s.cpl s.flags.vm (BitVec.ofNat 64 n) e c fault s1 := by
  have htask : gateType (BitVec.ofNat 64 n) ≠ 5#5 := by
    intro h
    rw [h] at htype
    exact absurd htype (by decide)
  exact (protDeliver_gate hlim hread).trans (throughGate_open (List.mem_cons_of_mem _ htype) hlow hp htask)
end

/-! The outcomes of a step that takes an event. -/

section
variable {o : Host.Outcome State Fault Refusal} {s s1 t : State} {kind : Kind} {v : Byte} {e : Word} {c : Option Word16}
  {fault : Bool} (htaken : taken o s kind v e c fault) (hpe : s.pe = true)
include htaken hpe

theorem taken_next (h : protDeliver kind v e c fault s = .ok () t) : o = .next t.handling.ended :=
  (taken_eq htaken).trans (congrArg (mapNext State.ended) (deliverAll_ok (deliver_prot_ok hpe h)))
variable {y : Exc} (h : protDeliver kind v e c fault s = .error (.exc y) s1)
include h
theorem taken_shutdown (hk : kind = .exception) (hv : v = 8#8) :
    o = .next ({ rollback s s1 with shutdown := true } : State).ended :=
  (taken_eq htaken).trans <| congrArg (mapNext State.ended) <|
    deliverAll_shutdown (deliver_prot_error hpe h) (second_none hk hv)
variable {z : Exc} (hz : second kind v y = some z)
include hz
/-- The second exception is delivered in place of the first. -/
theorem taken_second (ht : protDeliver .exception z.vec e z.code true (rollback s s1) = .ok () t) :
    o = .next t.handling.ended :=
  (taken_eq htaken).trans <| congrArg (mapNext State.ended) <| (deliverAll_second (deliver_prot_error hpe h) hz).trans <|
    deliverAll_ok (deliver_prot_ok (s := rollback s s1) hpe ht)
/-- A fault in delivering #DF. -/
theorem taken_second_shutdown (h8 : z.vec = 8#8) {x : Exc}
    (hx : protDeliver .exception z.vec e z.code true (rollback s s1) = .error (.exc x) t) :
    o = .next ({ rollback (rollback s s1) t with shutdown := true } : State).ended :=
  (taken_eq htaken).trans <| congrArg (mapNext State.ended) <| (deliverAll_second (deliver_prot_error hpe h) hz).trans <|
    deliverAll_shutdown (deliver_prot_error (s := rollback s s1) hpe hx) (second_none rfl h8)
end

/-- Settles O47: a delivery by the checks of its gate and of the code segment, then the entry of its level; the software
interrupts, and the events that a step takes, by what the deliveries of their chain answer. -/
theorem protectedInterrupt : Obligations.ProtectedInterrupt := by
  refine ⟨fun kind v e c fault s => ?deliver, fun v s t hpe h => ?software, fun o s kind v e c fault htaken hpe => ?taken⟩
  case deliver =>
    intro ext idt x deliver'
    have hidt : idtCode kind v = idt := idtCode_eq kind v
    have hx : extCode kind = x := extCode_eq kind
    refine ⟨fun hlim => hidt ▸ protDeliver_pastLimit hlim, fun n s1 hlim hread => ?_⟩
    intro gate typ wide sel off sz low
    have hgate := protDeliver_gate (kind := kind) (e := e) (c := c) (fault := fault) hlim hread
    rw [hidt] at hgate
    refine ⟨fun htype => hgate.trans (throughGate_badType htype), fun htype => ⟨?low, ?notPresent, ?task⟩, ?entry⟩
    case low => exact fun hlow => hgate.trans (throughGate_low htype hlow)
    case notPresent => exact fun hlow hp => hgate.trans (throughGate_notPresent htype hlow hp)
    case task => exact fun hlow hp htask => hgate.trans (throughGate_task htype hlow hp htask)
    case entry =>
      intro htype hlow hp hn da d s2 hd hcode hdpl hdp hoff hvm image enter codes extra
      have hopen := protDeliver_open (e := e) (c := c) (fault := fault) hlim hread htype hlow hp
      rw [hx] at hopen
      have hsz : gateSize gate = sz := gateSize_eq htype
      have hoffset : gateOff gate = off := gateOff_eq htype
      have hig := not_isInterruptGate htype
      have hsame := (linRead_accessOnly _ _ hread).trans (readDesc_accessOnly _ _ hd)
      have hvm' : s.flags.vm = true → (descAttr d).conforming = false ∧ (descAttr d).dpl = 0#2 ∧ gateSize gate = .w32 := by
        intro h
        obtain ⟨hconf, hdpl0, hwide⟩ := hvm h
        exact ⟨hconf, hdpl0, if_pos ((gateType_wide htype).1 hwide)⟩
      have henter (t : State) (lvl : BitVec 2) : t.inHandler s.flags sel d off lvl (isInterruptGate gate) = enter t lvl := by
        rw [State.inHandler, hig]
        rfl
      obtain ⟨_, _, _, _, _, _, _, _, rfl⟩ := (sameButAccess_iff s s2).1 hsame
      refine ⟨fun hlvl s3 s4 pl hroom hpl hm hitems => ?same, fun hconf hlvl ss sp sa sd s3 s4 s5 s6 s7 pl => ?inner⟩
      case same =>
        intro k
        have hrun := toHandler_same (e := e) (c := c) (fault := fault) hn hd hcode hdpl hdp hvm' hlvl
        have hcodes : s4.codeValuesAt sz 1 c = codes (k + selDraws sz) :=
          (rfl : _ = codes (k + 1 * selDraws sz)).trans (by rw [Nat.one_mul])
        rw [hsz, hoffset] at hrun
        rw [← hcodes, ← henter]
        exact (hopen.trans hrun).trans (sameEntry_ok hroom hoff hpl hm hitems)
      case inner =>
        intro lvl g m items htss hstack hroom hpl hms hm hitems w old data null t
        have hrun := toHandler_inner (e := e) (c := c) (fault := fault) hn hd hcode hdpl hdp hvm' hconf hlvl
        rw [hsz, hoffset] at hrun
        rw [← henter]
        exact (hopen.trans hrun).trans (innerEntry_ok hitems htss hstack hroom hoff hpl hms hm)
  case software =>
    have hsoft : softInt v s = .ok () t.handling := deliver_prot_ok hpe h
    refine ⟨fun hmode => exec_intN_ok ?_ hsoft, fun hv => exec_int3_ok (hv ▸ hsoft),
      fun hv hof => exec_into_ok hof (hv ▸ hsoft)⟩
    exact hmode.imp_left fun hvm => by rw [State.v86, hvm, Bool.and_false]
  case taken =>
    refine ⟨fun t h => taken_next htaken hpe h, fun y s1 h => ?_⟩
    exact ⟨fun hk hv => taken_shutdown htaken hpe h hk hv,
      fun h8 hsingle t ht => taken_second htaken hpe h (second_single h8 hsingle) ht,
      fun hdouble => ⟨fun t ht => taken_second htaken hpe h (second_double hdouble) ht,
        fun z s3 hz => taken_second_shutdown htaken hpe h (second_double hdouble) rfl hz⟩⟩

end Sys2Proof.Machine
end

section
/-! SUPPORT, and O14, O15. MOV, XLAT and NOP (R360 to R363, R373, R374): an operand is located, then written or read. -/
namespace Sys2Proof.Machine
open Sys2Proof

/-! Operands that are only written (R282). -/

section
variable {s s1 : State} {p : Place}
theorem writeRM8_ok {d : RM8} (hl : locate8 d .write s = .ok p s1) (hw : s1.placeWritable p = true) (v : Byte) :
    writeRM8 d v s = .ok () (s1.putPlace p v) := (run_bind_ok _ hl).trans (writePlace_ok hw v)
theorem writeRMv_ok {sz : OSize} {d : RMv} (hl : locateV sz d .write s = .ok p s1) (hw : s1.placeWritable p = true)
    (v : BitVec (osBits sz)) : writeRMv sz d v s = .ok () (s1.putPlace p v) :=
  (run_bind_ok _ hl).trans (writePlace_ok hw v)
end

/-- Where an access is checked, a read there answers the bytes in memory (R10). -/
theorem memRead_ok {r : SegReg} {off : Word} {n al : Nat} {s t : State} {pas : List PA}
    (ha : segAccess r off n .read al s = .ok pas t) (hr : t.readOk = true) :
    memRead r off n al s = .ok (leNat (t.bytesAt (addrs pas))) t :=
  (run_bind_ok _ ha).trans (run_bind_ok _ (physRead_ok hr pas))

/-! A selector stored (R363): a 32-bit register gets it below a free word (U3). -/

section
variable {sel : Word16} {s : State}
theorem storeSel_reg16 (d : Reg) : storeSel .w16 (.reg d) sel s = .ok () (s.putReg d sel) := rfl
theorem storeSel_reg32 (d : Reg) : storeSel .w32 (.reg d) sel s =
    .ok () ({ s with freeCtr := s.freeCtr + 1 }.putReg d ((Config.freeWord s.freeCtr).setWidth 16 ++ sel)) := by
  rw [State.putReg, mergeLow_32]
  rfl
theorem storeSel_mem {sz : OSize} {m : Mem} {s1 : State} {pas : List PA} (hl : locateMem m 2 2 .write s = .ok pas s1)
    (hw : s1.writeOk pas = true) : storeSel sz (.mem m) sel s = .ok () (s1.putPlace (.mem pas) sel) :=
  (run_bind_ok _ hl).trans (writePlace_ok (p := .mem pas) hw sel)
end
theorem exec_movEwSw (sz : OSize) (d : RMv) (r : SegReg) (s : State) :
    exec (.movEwSw sz d r) s = runInstr (storeSel sz d (s.segs.get r).sel) s :=
  runInstr_congr (run_bind_ok _ (run_get s))

/-- Settles O14: the value is read, the operand located, then written; a selector goes by the kind of its destination. -/
theorem movToOperand : Obligations.MovToOperand := by
  refine ⟨fun d r i s s1 p hl hw => ⟨?ebGb, ?ebIb⟩, fun sz d r s s1 p hl hw => ?evGv, fun d i s s1 p hl hw => ?evIv,
    fun o s s1 pas hl hw => ?obAl, fun sz o s s1 pas hl hw => ?ovAx, fun d r s => ?selReg16, fun d r s => ?selReg32,
    fun sz m r s s1 pas hl hw => ?selMem⟩
  case ebGb => exact runInstr_ok ((run_bind_ok _ (run_getReg8 r s)).trans (writeRM8_ok hl hw _))
  case ebIb => exact runInstr_ok (writeRM8_ok hl hw i)
  case evGv => exact runInstr_ok ((run_bind_ok _ (run_getRegV sz r s)).trans (writeRMv_ok hl hw _))
  case evIv => exact runInstr_ok (writeRMv_ok hl hw (immVal i))
  case obAl =>
    exact runInstr_ok ((run_bind_ok _ hl).trans ((run_bind_ok _ (run_getReg8 .al s1)).trans <|
      writePlace_ok (p := .mem pas) hw _))
  case ovAx =>
    exact runInstr_ok ((run_bind_ok _ hl).trans ((run_bind_ok _ (run_getRegV sz .eax s1)).trans <|
      writePlace_ok (p := .mem pas) hw _))
  case selReg16 => exact (exec_movEwSw _ _ r s).trans (runInstr_ok (storeSel_reg16 d))
  case selReg32 => exact (exec_movEwSw _ _ r s).trans (runInstr_ok (storeSel_reg32 d))
  case selMem => exact (exec_movEwSw sz _ r s).trans (runInstr_ok (storeSel_mem hl hw))

/-- Settles O15: the operand is located and read, then its value goes to the register. -/
theorem movToRegister : Obligations.MovToRegister := by
  refine ⟨fun r e s s1 p hl hr => ?gbEb, fun sz r e s s1 p hl hr => ?gvEv, fun r i s => ?immByte, fun r i s => ?imm,
    fun o s s1 pas hl hr => ?alOb, fun sz o s s1 pas hl hr => ?axOv, fun az s s1 pas ha hr => ?xlat, fun s => ?nop⟩
  case gbEb => exact runInstr_ok ((run_bind_ok _ (readRM8_ok hl hr)).trans (run_setReg8 r _ s1))
  case gvEv => exact runInstr_ok ((run_bind_ok _ (readRMv_ok hl hr)).trans (run_setRegN r _ s1))
  case immByte => exact runInstr_ok (run_setReg8 r i s)
  case imm => exact runInstr_ok (run_setRegN r (immVal i) s)
  case alOb =>
    exact runInstr_ok ((run_bind_ok _ hl).trans <|
      (run_bind_ok _ (readPlace_ok _ (p := .mem pas) hr)).trans (run_setReg8 .al _ s1))
  case axOv =>
    exact runInstr_ok ((run_bind_ok _ hl).trans <|
      (run_bind_ok _ (readPlace_ok _ (p := .mem pas) hr)).trans (run_setRegN .eax _ s1))
  case xlat =>
    exact runInstr_ok ((run_bind_ok _ (run_get s)).trans <|
      (run_bind_ok _ (memRead_ok ha hr)).trans (run_setReg8 .al _ s1))
  case nop => exact runInstr_ok (run_pure () s)

end Sys2Proof.Machine
end

section
/-! SUPPORT, and O18. PUSH and PUSHA (R366, R368): the items are read, then pushed as one. -/
namespace Sys2Proof.Machine
open Sys2Proof

/-- A segment register as an item: a doubleword draws its upper half (R366, U3). -/
theorem pushSeg_ok {sz : OSize} {r : SegReg} {s s1 : State} {pl : List (List PA)}
    (hpl : pushPlaces sz 1 [selValue sz s.freeCtr (s.segs.get r).sel] (s.drawn sz 1) = .ok pl s1)
    (hitems : s1.itemsOk pl = true) :
    pushSeg sz r s = .ok () (s1.pushed sz pl [selValue sz s.freeCtr (s.segs.get r).sel]) :=
  (run_bind_ok _ (run_get s)).trans <| (run_bind_ok _ (selItem_ok sz _ s)).trans (push_ok hpl hitems)
/-- The six instructions differ in their register. -/
theorem exec_pushSeg {r : SegReg} {i : OSize → Instr}
    (h : (r, i) ∈ [(SegReg.es, Instr.pushEs), (.cs, .pushCs), (.ss, .pushSs), (.ds, .pushDs), (.fs, .pushFs), (.gs, .pushGs)])
    (sz : OSize) (s : State) : exec (i sz) s = runInstr (pushSeg sz r) s := by
  simp only [List.mem_cons, Prod.mk.injEq, List.not_mem_nil, or_false] at h
  rcases h with ⟨rfl, rfl⟩ | ⟨rfl, rfl⟩ | ⟨rfl, rfl⟩ | ⟨rfl, rfl⟩ | ⟨rfl, rfl⟩ | ⟨rfl, rfl⟩ <;> rfl

/-- Settles O18: each form reads its items, then pushes them. -/
theorem pushForms : Obligations.PushForms := by
  refine ⟨fun sz r s s1 pl hpl hitems => ?reg, fun sz d s s0 s1 v pl hv hpl hitems => ?operand,
    fun i s s1 pl hpl hitems => ?imm, fun sz i s s1 pl hpl hitems => ?immByte, fun sz s s1 pl hpl hitems => ?all,
    fun r i hi => ⟨fun s s1 pl hpl hitems => ?seg16, fun s s1 pl hpl hitems => ?seg32⟩⟩
  case reg => exact runInstr_ok ((run_bind_ok _ (run_getReg r s)).trans (push_ok hpl hitems))
  case operand =>
    exact runInstr_ok ((run_bind_ok _ (run_get s)).trans <|
      (run_bind_ok _ (before_ok _ hv)).trans (push_ok hpl hitems))
  case imm => exact runInstr_ok (push_ok hpl hitems)
  case immByte => exact runInstr_ok (push_ok hpl hitems)
  case all => exact runInstr_ok ((run_bind_ok _ (run_get s)).trans (pushMany_ok hpl hitems))
  case seg16 => exact (exec_pushSeg hi .w16 s).trans (runInstr_ok (pushSeg_ok hpl hitems))
  case seg32 => exact (exec_pushSeg hi .w32 s).trans (runInstr_ok (pushSeg_ok hpl hitems))

end Sys2Proof.Machine
end

section
/-! SUPPORT, and O19. POP and POPA (R367, R369): the items are read, the stack pointer moves, the destinations are written. -/
namespace Sys2Proof.Machine
open Sys2Proof

/-- Settles O19: the items in their order, then the stack pointer, then the destinations; POPA writes seven of its eight. -/
theorem popForms : Obligations.PopForms := by
  refine ⟨fun sz r s s1 v hpeek => ?reg, fun sz d s s1 s2 v p hpeek hl hw => ?operand, fun sz t v hpeek => ?all⟩
  case reg => exact runInstr_ok ((run_bind_ok _ (pop_ok hpeek)).trans (run_setRegN r _ _))
  case operand =>
    exact runInstr_ok ((run_bind_ok _ (run_get s)).trans <| (run_bind_ok _ (before_ok _ hpeek)).trans <|
      (run_bind_ok _ (dropStack_ok sz 1 0 s1)).trans (writeRMv_ok hl hw _))
  case all =>
    have item (k : Nat) (hk : k < 8) : peekItem sz 8 k (t k) = .ok (v k) (t (k + 1)) := peekItem_ok (hpeek k hk)
    exact runInstr_ok <| (run_bind_ok _ (item 0 (by decide))).trans <| (run_bind_ok _ (item 1 (by decide))).trans <|
      (run_bind_ok _ (item 2 (by decide))).trans <| (run_bind_ok _ (item 3 (by decide))).trans <|
      (run_bind_ok _ (item 4 (by decide))).trans <| (run_bind_ok _ (item 5 (by decide))).trans <|
      (run_bind_ok _ (item 6 (by decide))).trans <| (run_bind_ok _ (item 7 (by decide))).trans rfl

end Sys2Proof.Machine
end

section
/-! SUPPORT, and O32. String instructions under REP (R390): a count of 0, one item with the count taken down, an exception in
an item. -/
namespace Sys2Proof.Machine
open Sys2Proof

section
variable {az : ASize} {iter : Act Unit} {s : State}

/-- With a count other than 0 an I/O string instruction is repeated like the others. -/
theorem repeatedIo_again (write : Bool) (hcount : asTrunc az s.regs.ecx ≠ 0#32) :
    repeatedIo write az iter s = repeated az iter s := congrFun (if_neg (by simp [hcount])) s

variable (hrep : s.cur.pfx.rep = true)
include hrep

theorem repeated_zero (h : asTrunc az s.regs.ecx = 0#32) : repeated az iter s = .ok () s :=
  (congrFun (if_neg (by simp [hrep])) s).trans (congrFun (if_pos h) s)
/-- INS and OUTS are noted all the same (R557 f). -/
theorem repeatedIo_zero (write : Bool) (h : asTrunc az s.regs.ecx = 0#32) : repeatedIo write az iter s =
    .ok () { s with cur := { s.cur with io := some { write := write, rep := true, transfer := none } } } :=
  congrFun (if_pos (by simp [hrep, h])) s

section
variable (hcount : asTrunc az s.regs.ecx ≠ 0#32)
include hcount

/-- The item, then the count; while it is not 0 EIP goes back. -/
theorem repeated_again : repeated az iter s = (do
    iter
    let more ← countDown az
    if more then upd fun s => { s with eip := s.cur.ip, cur := { s.cur with repeating := true } } : Act Unit) s :=
  (congrFun (if_neg (by simp [hrep])) s).trans (congrFun (if_neg hcount) s)
theorem repeated_last {t : State} (h : iter s = .ok () t) (hlast : asTrunc az (t.regs.ecx - 1#32) = 0#32) :
    repeated az iter s = .ok () (t.counted az) :=
  (repeated_again hrep hcount).trans <| (run_bind_ok _ h).trans <|
    (run_bind_ok _ (countDown_ok az t)).trans (congrFun (if_neg (by simp [hlast])) _)
theorem repeated_more {t : State} (h : iter s = .ok () t) (hmore : asTrunc az (t.regs.ecx - 1#32) ≠ 0#32) :
    repeated az iter s =
      .ok () { t.counted az with eip := t.cur.ip, cur := { t.cur with repeating := true } } := by
  obtain ⟨g, hg⟩ := t.counted_eq az
  have hcur : (t.counted az).cur = t.cur := by rw [hg]
  rw [← hcur]
  exact (repeated_again hrep hcount).trans <| (run_bind_ok _ h).trans <|
    (run_bind_ok _ (countDown_ok az t)).trans (congrFun (if_pos (by simp [hmore])) _)
theorem repeated_error {t : State} {x : Stop} (h : iter s = .error x t) : repeated az iter s = .error x t :=
  (repeated_again hrep hcount).trans (run_bind_error _ h)
end
end

/-- A string instruction under REP: `w` is the direction of INS and OUTS. -/
def repItem (w : Option Bool) (az : ASize) (item : Act Unit) : Act Unit :=
  match w with
  | none => repeated az item
  | some write => repeatedIo write az item

theorem repItem_again {az : ASize} {item : Act Unit} {s : State} (hcount : asTrunc az s.regs.ecx ≠ 0#32)
    (w : Option Bool) : repItem w az item s = repeated az item s := by
  cases w with
  | none => rfl
  | some write => exact repeatedIo_again write hcount
/-- The eight instructions differ in their item and in whether they are I/O instructions. -/
theorem exec_string {sz : OSize} {az : ASize} {i : Instr} {item : Act Unit} {w : Option Bool}
    (h : (i, item, w) ∈ [(Instr.insb az, insItem az 1, some false), (.insv sz az, insItem az (osBytes sz), some false),
      (.outsb az, outsItem az 1, some true), (.outsv sz az, outsItem az (osBytes sz), some true),
      (.movsb az, movsItem az 1, none), (.movsv sz az, movsItem az (osBytes sz), none),
      (.stosb az, stosItem az 1, none), (.stosv sz az, stosItem az (osBytes sz), none)]) (s : State) :
    exec i s = runInstr (repItem w az item) s := by
  simp only [List.mem_cons, Prod.mk.injEq, List.not_mem_nil, or_false] at h
  rcases h with ⟨rfl, rfl, rfl⟩ | ⟨rfl, rfl, rfl⟩ | ⟨rfl, rfl, rfl⟩ | ⟨rfl, rfl, rfl⟩ | ⟨rfl, rfl, rfl⟩ |
    ⟨rfl, rfl, rfl⟩ | ⟨rfl, rfl, rfl⟩ | ⟨rfl, rfl, rfl⟩ <;> rfl

/-- Settles O32: a count of 0 by the kind of the instruction, else what the item answers. -/
theorem repStrings : Obligations.RepStrings := by
  intro sz az i item w s hi hrep
  rw [exec_string hi s]
  refine ⟨fun hzero => ?zero, fun hcount => ?_⟩
  case zero =>
    cases w with
    | none => exact runInstr_ok (repeated_zero hrep hzero)
    | some write => exact runInstr_ok (repeatedIo_zero hrep write hzero)
  have hrun := runInstr_congr (repItem_again (item := item) hcount w)
  refine ⟨fun t hitem => ⟨fun hlast => ?last, fun hmore => ?more⟩, fun x t hitem => ?fault⟩
  case last => exact hrun.trans (runInstr_ok (repeated_last hrep hcount hitem hlast))
  case more => exact hrun.trans (runInstr_ok (repeated_more hrep hcount hitem hmore))
  case fault => exact hrun.trans (runInstr_exc (repeated_error hrep hcount hitem))

end Sys2Proof.Machine
end

section
/-! SUPPORT, and O33. The checks of WAIT and of the ESC class (R400 to R402, R408): what each answers, case by case. -/
namespace Sys2Proof.Machine
open Sys2Proof

section
variable {s : State}

theorem pendingError_ok (h : s.fpu.es = false) : pendingError s = .ok () s := congrFun (if_neg (by simp [h])) s
theorem pendingError_mf (hes : s.fpu.es = true) (hne : s.ne = true) : pendingError s = .error (.exc .mf) s :=
  (congrFun (if_pos hes) s).trans (run_check_raise hne)
theorem pendingError_refuse (hes : s.fpu.es = true) (hne : s.ne = false) :
    pendingError s = .error (.refuse .fpuErrorExternal) s :=
  (congrFun (if_pos hes) s).trans (run_check_pass (by simp [hne]))
theorem escAvailable_nm (h : (s.em || s.ts) = true) : escAvailable s = .error (.exc .nm) s := congrFun (if_pos h) s
theorem escAvailable_ok (h : (s.em || s.ts) = false) : escAvailable s = .ok () s := congrFun (if_neg (by simp [h])) s
theorem waitCheck_nm (h : (s.mp && s.ts) = true) : waitCheck s = .error (.exc .nm) s := run_check_raise h
/-- Where the unit is available WAIT tests for a pending error only. -/
theorem waitCheck_available (h : (s.mp && s.ts) = false) : waitCheck s = pendingError s := run_check_pass (by simp [h])

/-! An ESC instruction that the source does not describe: available, and without a pending error where it waits, it is outside
the spec (R401). -/

variable {op ext : Bits3} {rm : RMmm}

theorem exec_esc_unavailable (h : (s.em || s.ts) = true) : exec (.esc op ext rm) s = deliverFault .nm (rollback s s) :=
  runInstr_exc (run_bind_error _ (escAvailable_nm h))
theorem exec_esc_nonWaiting (h : (s.em || s.ts) = false) (hw : escNonWaiting op ext rm = true) :
    exec (.esc op ext rm) s = .refused .escClass :=
  runInstr_refuse ((run_bind_ok _ (escAvailable_ok h)).trans (run_check_pass (by simp [hw])))
/-- A waiting one goes on with the test for a pending error. -/
theorem exec_esc_waiting (h : (s.em || s.ts) = false) (hw : escNonWaiting op ext rm = false) :
    exec (.esc op ext rm) s = runInstr (pendingError >>= fun _ => refuse .escClass) s :=
  runInstr_congr ((run_bind_ok _ (escAvailable_ok h)).trans (congrFun (if_pos (by simp [hw])) s))
theorem exec_esc_mf (h : (s.em || s.ts) = false) (hw : escNonWaiting op ext rm = false) (hes : s.fpu.es = true)
    (hne : s.ne = true) : exec (.esc op ext rm) s = deliverFault .mf (rollback s s) :=
  (exec_esc_waiting h hw).trans (runInstr_exc (run_bind_error _ (pendingError_mf hes hne)))
/-- Non-waiting, or with no error pending, it is outside the spec. -/
theorem exec_esc_refused (h : (s.em || s.ts) = false) (hw : escNonWaiting op ext rm = true ∨ s.fpu.es = false) :
    exec (.esc op ext rm) s = .refused .escClass := by
  cases hwait : escNonWaiting op ext rm with
  | true => exact exec_esc_nonWaiting h hwait
  | false =>
    have hes : s.fpu.es = false := hw.resolve_left (by simp [hwait])
    exact (exec_esc_waiting h hwait).trans (runInstr_refuse (run_bind_ok _ (pendingError_ok hes)))
end

/-- Settles O33: the checks of WAIT in their order, then those of the ESC class. -/
theorem waitAndEsc : Obligations.WaitAndEsc := by
  intro s
  refine ⟨fun h hes => ?done, fun h => ?unavailable, fun h hes hne => ?pending, fun h hes hne => ?external,
    fun op ext rm => ⟨exec_esc_unavailable, exec_esc_refused, exec_esc_mf⟩⟩
  case done => exact runInstr_ok ((waitCheck_available h).trans (pendingError_ok hes))
  case unavailable => exact runInstr_exc (waitCheck_nm h)
  case pending => exact runInstr_exc ((waitCheck_available h).trans (pendingError_mf hes hne))
  case external => exact runInstr_refuse ((waitCheck_available h).trans (pendingError_refuse hes hne))

end Sys2Proof.Machine
end

section
/-! SUPPORT. The floating point state image (R403, R406): the fields at their places in the bytes written, and what a load makes
of any bytes. -/
namespace Sys2Proof.Machine
open Sys2Proof

/-! The fields of an image, one after the other. -/

section
variable (v : Word16) (w : Word) (rest : List Byte) (k : Nat)

@[simp] theorem imgWord_le16_append : imgWord (le16 v ++ rest) 0 = v := by
  apply BitVec.eq_of_toNat_eq
  have := v.isLt
  simp only [imgWord, le16, List.cons_append, List.nil_append, List.drop_zero, List.take_succ_cons, List.take_zero, leNat,
    BitVec.toNat_ofNat, BitVec.extractLsb'_toNat, Nat.shiftRight_eq_div_pow]
  omega
@[simp] theorem imgDword_le32_append : imgDword (le32 w ++ rest) 0 = w := by
  apply BitVec.eq_of_toNat_eq
  have := w.isLt
  simp only [imgDword, le32, List.cons_append, List.nil_append, List.drop_zero, List.take_succ_cons, List.take_zero, leNat,
    BitVec.toNat_ofNat, BitVec.extractLsb'_toNat, Nat.shiftRight_eq_div_pow]
  omega
@[simp] theorem le16_length : (le16 v).length = 2 := rfl
@[simp] theorem le32_length : (le32 w).length = 4 := rfl
@[simp] theorem imgWord_le16 : imgWord (le16 v) 0 = v := imgWord_le16_append v []
@[simp] theorem imgDword_le32 : imgDword (le32 w) 0 = w := imgDword_le32_append w []
@[simp] theorem imgWord_le16_skip : imgWord (le16 v ++ rest) (k + 2) = imgWord rest k := rfl
@[simp] theorem imgWord_le32_skip : imgWord (le32 w ++ rest) (k + 4) = imgWord rest k := rfl
@[simp] theorem imgDword_le16_skip : imgDword (le16 v ++ rest) (k + 2) = imgDword rest k := rfl
@[simp] theorem imgDword_le32_skip : imgDword (le32 w ++ rest) (k + 4) = imgDword rest k := rfl
end

/-! Pointers and masks. -/

theorem pointerLinear_eq (sel : Word16) (off : Word) : BitVec.ofNat 32 (16 * sel.toNat) + off = pointerLinear sel off := by
  have hsel : BitVec.ofNat 32 (16 * sel.toNat) = sel.setWidth 32 <<< 4 := by
    apply BitVec.eq_of_toNat_eq
    have := sel.isLt
    simp only [BitVec.toNat_ofNat, BitVec.toNat_shiftLeft, BitVec.toNat_setWidth, Nat.shiftLeft_eq]
    omega
  rw [hsel, pointerLinear]
/-- The offset that a load gives a pointer makes its linear address right, whatever the selector. -/
theorem extractLsb'_loadedPointer (sel : Word16) (lin : Word) (start len : Nat) :
    (BitVec.ofNat 32 (16 * sel.toNat) + (lin - (sel.setWidth 32 <<< 4))).extractLsb' start len =
      lin.extractLsb' start len := by
  rw [pointerLinear_eq, pointerLinear, BitVec.add_comm, BitVec.sub_add_cancel]
/-- A field that lies in the mask of the written bits and outside the mask of the undefined ones holds what was written. -/
theorem extractLsb'_masked {n start len : Nat} {free written : BitVec n} (hfree : free.extractLsb' start len = 0#len)
    (hwritten : written.extractLsb' start len = BitVec.allOnes len) (x v : BitVec n) :
    (x &&& free ||| v &&& written).extractLsb' start len = v.extractLsb' start len := by
  rw [BitVec.extractLsb'_or, BitVec.extractLsb'_and, BitVec.extractLsb'_and, hfree, hwritten, BitVec.and_zero,
    BitVec.zero_or, BitVec.and_allOnes]

section
variable (hi : BitVec 4) (hi32 : Word16) (lo : BitVec 11)

@[simp] theorem opcodeWord_high : (hi ++ 0#1 ++ lo : BitVec 16).extractLsb' 12 4 = hi :=
  (BitVec.extractLsb'_append_eq_of_le (by decide)).trans BitVec.extractLsb'_append_eq_left
@[simp] theorem opcodeWord_low : (hi ++ 0#1 ++ lo : BitVec 16).extractLsb' 0 11 = lo := BitVec.extractLsb'_append_eq_right
@[simp] theorem pointerWord_high : (hi ++ 0#12 : BitVec 16).extractLsb' 12 4 = hi := BitVec.extractLsb'_append_eq_left
/-- Bits 19:16 of a linear address that is loaded with 20 bits. -/
theorem linear20_high (free : BitVec 12) (low : Word16) : (free ++ hi ++ low : Word).extractLsb' 16 4 = hi :=
  (BitVec.extractLsb'_append_eq_of_le (by decide)).trans BitVec.extractLsb'_append_eq_right
@[simp] theorem pointerDword_high : (hi32.setWidth 32 <<< 12 : Word).extractLsb' 12 16 = hi32 := by
  ext i h
  simp [show 12 + i < 32 by omega, BitVec.getLsbD_eq_getElem h]
@[simp] theorem opcodeDword_high : (hi32.setWidth 32 <<< 12 ||| lo.setWidth 32 : Word).extractLsb' 12 16 = hi32 := by
  have hlo : (lo.setWidth 32 : Word).extractLsb' 12 16 = 0#16 := by
    ext i h
    simpa using fun _ => BitVec.getLsbD_of_ge lo (12 + i) (by omega)
  rw [BitVec.extractLsb'_or, pointerDword_high, hlo, BitVec.or_zero]
@[simp] theorem opcodeDword_low : (hi32.setWidth 32 <<< 12 ||| lo.setWidth 32 : Word).extractLsb' 0 11 = lo := by
  ext i h
  simp [show i < 12 by omega, show i < 32 by omega, BitVec.getLsbD_eq_getElem h]
end

/-! The four forms of the environment (R403). -/

/-- The form follows operand size and mode: what holds of the four holds of the one that a state chooses. -/
theorem State.envForm_cases {P : OSize → Bool → EnvForm → Prop} (prot16 : P .w16 false .prot16)
    (prot32 : P .w32 false .prot32) (real16 : P .w16 true .real16) (real32 : P .w32 true .real32) (s : State) (sz : OSize) :
    P sz s.realLike (s.envForm sz) := by
  unfold State.envForm
  cases sz <;> cases s.realLike
  · exact prot16
  · exact real16
  · exact prot32
  · exact real32

/-- The bytes of an environment hold the control, status and tag words, the pointers and the opcode of f. -/
def envHolds (sz : OSize) (realLike : Bool) (env : List Byte) (f : Fpu) : Prop :=
  env.length = envLen sz ∧ imgWord env 0 = f.mcr ∧ imgWord env (osBytes sz) = f.status ∧
    imgWord env (2 * osBytes sz) = f.tag ∧ envPointers sz realLike env f

/-! Each form is a row of fields, read off one after the other by the lemmas above; in a field with undefined bits the defined ones
are found by `extractLsb'_masked`. -/

section
variable {f : Fpu} {t u : State} {env : List Byte}

theorem envBytes_prot16 (h : envBytes f .prot16 t = .ok env u) : envHolds .w16 false env f := by
  cases h
  simp [envHolds, envPointers, osBytes, envLen, BitVec.setWidth_eq_extractLsb']
theorem envBytes_prot32 (h : envBytes f .prot32 t = .ok env u) : envHolds .w32 false env f := by
  cases h
  simp [envHolds, envPointers, osBytes, envLen, BitVec.extractLsb'_setWidth_of_le]
theorem envBytes_real16 (h : envBytes f .real16 t = .ok env u) : envHolds .w16 true env f := by
  cases h
  simp [envHolds, envPointers, osBytes, envLen, pointerLinear_eq, BitVec.setWidth_eq_extractLsb', extractLsb'_masked]
theorem envBytes_real32 (h : envBytes f .real32 t = .ok env u) : envHolds .w32 true env f := by
  cases h
  simp [envHolds, envPointers, osBytes, envLen, pointerLinear_eq, BitVec.setWidth_eq_extractLsb', extractLsb'_masked]
end

/-- Whatever the form, the bytes written hold the environment (R403). -/
theorem envBytes_holds {f : Fpu} {sz : OSize} {s t u : State} {env : List Byte}
    (h : envBytes f (s.envForm sz) t = .ok env u) : envHolds sz s.realLike env f :=
  State.envForm_cases (P := fun sz realLike form => envBytes f form t = .ok env u → envHolds sz realLike env f)
    envBytes_prot16 envBytes_prot32 envBytes_real16 envBytes_real32 s sz h

/-! Loading an environment (R406). -/

/-- The environment that f has once the bytes are loaded: the words of the image, ES and B by its masks, and the pointers and the
opcode as far as the form holds them. -/
def envLoaded (sz : OSize) (realLike : Bool) (bs : List Byte) (f : Fpu) : Prop :=
  f.mcr = imgWord bs 0 ∧ f.tag = imgWord bs (2 * osBytes sz) ∧
    f.status = statusLoaded (imgWord bs 0) (imgWord bs (osBytes sz)) ∧ envPointers sz realLike bs f

/-- Some f is loaded, and free values are drawn for what the form leaves out. -/
def loadsEnv (sz : OSize) (realLike : Bool) (form : EnvForm) (bs : List Byte) (f : Fpu) (s : State) : Prop :=
  ∃ g k, loadEnv form bs f s = .ok g { s with freeCtr := k } ∧ envLoaded sz realLike bs g

section
variable (bs : List Byte) (f : Fpu) (s : State)

theorem loadEnv_prot16 : loadsEnv .w16 false .prot16 bs f s :=
  ⟨_, _, rfl, rfl, rfl, rfl, BitVec.extractLsb'_append_eq_right.symm, rfl, BitVec.extractLsb'_append_eq_right.symm, rfl⟩
theorem loadEnv_prot32 : loadsEnv .w32 false .prot32 bs f s :=
  ⟨_, s.freeCtr, rfl, rfl, rfl, rfl, rfl, rfl, (BitVec.setWidth_eq_extractLsb' (by decide)).symm, rfl, rfl⟩
theorem loadEnv_real16 : loadsEnv .w16 true .real16 bs f s := by
  refine ⟨_, _, rfl, rfl, rfl, rfl, ?_⟩
  simp only [envPointers, extractLsb'_loadedPointer, BitVec.setWidth_eq_extractLsb' (show 11 ≤ 16 by decide),
    BitVec.extractLsb'_append_eq_right, linear20_high, and_true]
theorem loadEnv_real32 : loadsEnv .w32 true .real32 bs f s := by
  refine ⟨_, _, rfl, rfl, rfl, rfl, ?_⟩
  simp only [envPointers, extractLsb'_loadedPointer, BitVec.setWidth_eq_extractLsb' (show 11 ≤ 32 by decide),
    BitVec.extractLsb'_append_eq_right, BitVec.extractLsb'_append_eq_left, and_true]
end

theorem loadEnv_ok (sz : OSize) (s : State) (bs : List Byte) (f : Fpu) (t : State) :
    loadsEnv sz s.realLike (s.envForm sz) bs f t :=
  State.envForm_cases (P := fun sz realLike form => loadsEnv sz realLike form bs f t)
    (loadEnv_prot16 bs f t) (loadEnv_prot32 bs f t) (loadEnv_real16 bs f t) (loadEnv_real32 bs f t) s sz

/-! The data registers in stack order (R53, R403). -/

section
variable (f : Fpu) (v : BitVec 80)

theorem Fpu.phys_setPhys {n r : Nat} (hn : n < 8) (hr : r < 8) : (f.setPhys n v).phys r = if n = r then v else f.phys r := by
  interval_cases n <;> interval_cases r <;> rfl
theorem Fpu.phys_setPhys_same {n : Nat} (hn : n < 8) : (f.setPhys n v).phys n = v :=
  (f.phys_setPhys v hn hn).trans (if_pos rfl)
theorem Fpu.phys_setPhys_other {n r : Nat} (hn : n < 8) (hr : r < 8) (h : n ≠ r) : (f.setPhys n v).phys r = f.phys r :=
  (f.phys_setPhys v hn hr).trans (if_neg h)
/-- A write of a data register changes no other register of the unit. -/
theorem Fpu.setPhys_eq (n : Nat) : ∃ r0 r1 r2 r3 r4 r5 r6 r7, f.setPhys n v =
    { f with r0 := r0, r1 := r1, r2 := r2, r3 := r3, r4 := r4, r5 := r5, r6 := r6, r7 := r7 } := by
  unfold Fpu.setPhys
  split <;> exact ⟨_, _, _, _, _, _, _, _, rfl⟩
theorem Fpu.setPhys_top (n : Nat) : (f.setPhys n v).top = f.top := by
  obtain ⟨_, _, _, _, _, _, _, _, h⟩ := f.setPhys_eq v n
  rw [h]
  rfl
end

theorem loadStack_eq (bs : List Byte) (k n : Nat) (f : Fpu) : ∃ r0 r1 r2 r3 r4 r5 r6 r7, loadStack bs k n f =
    { f with r0 := r0, r1 := r1, r2 := r2, r3 := r3, r4 := r4, r5 := r5, r6 := r6, r7 := r7 } := by
  induction n generalizing bs k f with
  | zero => exact ⟨_, _, _, _, _, _, _, _, rfl⟩
  | succ m ih =>
    obtain ⟨_, _, _, _, _, _, _, _, hset⟩ := f.setPhys_eq (BitVec.ofNat 80 (leNat (bs.take 10))) ((f.top + k) % 8)
    obtain ⟨_, _, _, _, _, _, _, _, hrest⟩ := ih (bs.drop 10) (k + 1) (f.setPhys ((f.top + k) % 8) _)
    exact ⟨_, _, _, _, _, _, _, _, by rw [loadStack, hrest, hset]⟩
theorem loadStack_top (bs : List Byte) (k n : Nat) (f : Fpu) : (loadStack bs k n f).top = f.top := by
  obtain ⟨_, _, _, _, _, _, _, _, h⟩ := loadStack_eq bs k n f
  rw [h]
  rfl
theorem envLoaded_loadStack {sz : OSize} {realLike : Bool} {env : List Byte} {f : Fpu} (h : envLoaded sz realLike env f)
    (bs : List Byte) (k n : Nat) : envLoaded sz realLike env (loadStack bs k n f) := by
  obtain ⟨_, _, _, _, _, _, _, _, hf⟩ := loadStack_eq bs k n f
  rw [hf]
  exact h
/-- A register outside the range that is loaded stays. -/
theorem loadStack_phys_other {k n r : Nat} (hr : r < 8) (bs : List Byte) (f : Fpu)
    (h : ∀ i < n, (f.top + (k + i)) % 8 ≠ r) : (loadStack bs k n f).phys r = f.phys r := by
  induction n generalizing bs k f with
  | zero => rfl
  | succ m ih =>
    have hrest (i : Nat) (hi : i < m) : ((f.setPhys ((f.top + k) % 8) (BitVec.ofNat 80 (leNat (bs.take 10)))).top +
        (k + 1 + i)) % 8 ≠ r := by
      rw [Fpu.setPhys_top, show k + 1 + i = k + (i + 1) by omega]
      exact h (i + 1) (by omega)
    exact (ih _ _ hrest).trans (f.phys_setPhys_other _ (Nat.mod_lt _ (by decide)) hr (h 0 (by omega)))
/-- ST(k + j) holds the j-th ten bytes: at most eight registers are loaded, so that each is written once. -/
theorem loadStack_phys {k n j : Nat} (hn : n ≤ 8) (hj : j < n) (bs : List Byte) (f : Fpu) :
    (loadStack bs k n f).phys ((f.top + (k + j)) % 8) = BitVec.ofNat 80 (leNat ((bs.drop (10 * j)).take 10)) := by
  induction n generalizing k j bs f with
  | zero => omega
  | succ m ih =>
    cases j with
    | zero =>
      have hlt : (f.top + k) % 8 < 8 := Nat.mod_lt _ (by decide)
      have hlater (i : Nat) (hi : i < m) :
          ((f.setPhys ((f.top + k) % 8) (BitVec.ofNat 80 (leNat (bs.take 10)))).top + (k + 1 + i)) % 8 ≠
            (f.top + k) % 8 := by
        rw [Fpu.setPhys_top]
        omega
      exact (loadStack_phys_other hlt _ _ hlater).trans (f.phys_setPhys_same _ hlt)
    | succ j =>
      have hrest := ih (k := k + 1) (j := j) (by omega) (by omega) (bs.drop 10)
        (f.setPhys ((f.top + k) % 8) (BitVec.ofNat 80 (leNat (bs.take 10))))
      rw [Fpu.setPhys_top, List.drop_drop] at hrest
      rw [show k + (j + 1) = k + 1 + j by omega, show 10 * (j + 1) = 10 + 10 * j by omega]
      exact hrest

end Sys2Proof.Machine
end

section
/-! SUPPORT, and O34. The instructions that store and load the state image (R403 to R407). -/
namespace Sys2Proof.Machine
open Sys2Proof

/-! Storing an image (R404, R407). -/

/-- FNSAVE and FNSTENV store an image, the environment and what `data` adds to it, and leave the unit as `after` says. -/
def storeImage (sz : OSize) (m : Mem) (n : Nat) (data : Fpu → List Byte) (after : Fpu → Fpu) : Act Unit := do
  escAvailable
  let s ← get
  let pas ← locateMem m n 1 .write
  let env ← envBytes s.fpu (s.envForm sz)
  physWrite pas (env ++ data s.fpu)
  upd fun s => { s with fpu := after s.fpu }

theorem fnsave_eq (sz : OSize) (m : Mem) :
    fnsave sz m = storeImage sz m (envLen sz + 80) (stackBytes · 0 8) Fpu.initialised := rfl
theorem fnstenv_eq (sz : OSize) (m : Mem) :
    fnstenv sz m = storeImage sz m (envLen sz) (fun _ => []) fun f => { f with mcr := f.mcr ||| 0x3F#16 } := by
  simp only [fnstenv, storeImage, List.append_nil]

theorem sameButAccess.fpu {s t : State} (h : sameButAccess s t) : t.fpu = s.fpu := by
  obtain ⟨_, _, _, _, _, _, _, _, rfl⟩ := (sameButAccess_iff s t).1 h
  rfl
theorem locateMem_accessOnly (m : Mem) (n al : Nat) (kind : Acc) : (locateMem m n al kind).AccessOnly :=
  .get fun _ => segAccess_accessOnly _ _ _ _ _
theorem envBytes_accessOnly (f : Fpu) (form : EnvForm) : (envBytes f form).AccessOnly := fun s _ _ h => by
  cases form <;> cases h <;> rfl

section
variable {sz : OSize} {m : Mem} {n : Nat} {s s1 s2 : State} {pas : List PA} {env : List Byte}

/-- The unit is what it was until the image is stored. -/
theorem storeImage_ok (data : Fpu → List Byte) (after : Fpu → Fpu) (hesc : (s.em || s.ts) = false)
    (hl : locateMem m n 1 .write s = .ok pas s1) (henv : envBytes s.fpu (s.envForm sz) s1 = .ok env s2)
    (hw : s2.writeOk pas = true) : storeImage sz m n data after s =
      .ok () { s2.storeBytes pas (env ++ data s.fpu) with fpu := after s.fpu } := by
  have hfpu : (s2.storeBytes pas (env ++ data s.fpu)).fpu = s.fpu :=
    (State.storeBytes_fpu _ _ _).trans <| (envBytes_accessOnly _ _ henv).fpu.trans (locateMem_accessOnly _ _ _ _ hl).fpu
  exact (run_bind_ok _ (escAvailable_ok hesc)).trans <| (run_bind_ok _ (run_get s)).trans <|
    (run_bind_ok _ hl).trans <| (run_bind_ok _ henv).trans <| (run_bind_ok _ (physWrite_ok hw _)).trans (by rw [run_upd, hfpu])
theorem fnsave_ok (hesc : (s.em || s.ts) = false) (hl : locateMem m (envLen sz + 80) 1 .write s = .ok pas s1)
    (henv : envBytes s.fpu (s.envForm sz) s1 = .ok env s2) (hw : s2.writeOk pas = true) : fnsave sz m s =
      .ok () { s2.storeBytes pas (env ++ stackBytes s.fpu 0 8) with fpu := s.fpu.initialised } := by
  rw [fnsave_eq]
  exact storeImage_ok _ _ hesc hl henv hw
theorem fnstenv_ok (hesc : (s.em || s.ts) = false) (hl : locateMem m (envLen sz) 1 .write s = .ok pas s1)
    (henv : envBytes s.fpu (s.envForm sz) s1 = .ok env s2) (hw : s2.writeOk pas = true) : fnstenv sz m s =
      .ok () { s2.storeBytes pas env with fpu := { s.fpu with mcr := s.fpu.mcr ||| 0x3F#16 } } := by
  rw [fnstenv_eq, storeImage_ok _ _ hesc hl henv hw, List.append_nil]
end

/-! WAIT before the second part (R405, R407). -/

section
variable {s : State} (hdev : (s.mp && s.ts) = false) (hes : s.fpu.es = false)
include hdev hes

theorem waitThen_quiet (hquiet : s.quiet = true) (part : Act Unit) :
    waitThen part s = runInstr part { s with cur := { s.cur with ip := s.offAfter s.cur.ip 1 } } := by
  have hwait : waitCheck.run s = .ok () s := (waitCheck_available hdev).trans (pendingError_ok hes)
  rw [waitThen, hwait]
  exact if_pos hquiet
theorem waitThen_apart (hquiet : s.quiet = false) (part : Act Unit) :
    waitThen part s = .next { s with eip := s.offAfter s.cur.ip 1 } := by
  have hwait : waitCheck.run s = .ok () s := (waitCheck_available hdev).trans (pendingError_ok hes)
  rw [waitThen, hwait]
  exact if_neg (by simp [hquiet])
end

/-- An instruction that stores an image, alone and after WAIT. -/
theorem runInstr_and_waitThen {part : Act Unit} {s u : State} (h : part s = .ok () u) :
    runInstr part s = .next u ∧
      ∀ t : State, s = { t with cur := { t.cur with ip := t.offAfter t.cur.ip 1 } } → (t.mp && t.ts) = false →
        t.fpu.es = false → t.quiet = true → waitThen part t = .next u := by
  refine ⟨runInstr_ok h, fun t hs hdev hes hquiet => ?_⟩
  rw [waitThen_quiet hdev hes hquiet, ← hs]
  exact runInstr_ok h

/-! FRSTOR (R406). -/

theorem frstor_ok {sz : OSize} {m : Mem} {s s1 u : State} {pas : List PA} {f : Fpu} (hesc : (s.em || s.ts) = false)
    (hl : locateMem m (envLen sz + 80) 1 .read s = .ok pas s1) (hr : s1.readOk = true)
    (hload : loadEnv (s.envForm sz) (s1.bytesAt (addrs pas)) s.fpu s1 = .ok f u) :
    frstor sz m s = .ok () { u with fpu := loadStack ((s1.bytesAt (addrs pas)).drop (envLen sz)) 0 8 f } :=
  (run_bind_ok _ (escAvailable_ok hesc)).trans <| (run_bind_ok _ (run_get s)).trans <| (run_bind_ok _ hl).trans <|
    (run_bind_ok _ (physRead_ok hr pas)).trans <| (run_bind_ok _ hload).trans rfl

/-- The unit after FRSTOR. -/
theorem exec_frstor {sz : OSize} {m : Mem} {s s1 : State} {pas : List PA} (hesc : (s.em || s.ts) = false)
    (hl : locateMem m (envLen sz + 80) 1 .read s = .ok pas s1) (hr : s1.readOk = true) :
    ∃ g k, exec (.frstor sz m) s = .next { s1 with fpu := g, freeCtr := k } ∧
      envLoaded sz s.realLike (s1.bytesAt (addrs pas)) g ∧ ∀ j < 8, g.phys ((g.top + j) % 8) =
        BitVec.ofNat 80 (leNat (((s1.bytesAt (addrs pas)).drop (envLen sz + 10 * j)).take 10)) := by
  obtain ⟨f, k, hload, hf⟩ := loadEnv_ok sz s (s1.bytesAt (addrs pas)) s.fpu s1
  refine ⟨_, k, runInstr_ok (frstor_ok hesc hl hr hload), envLoaded_loadStack hf _ 0 8, fun j hj => ?_⟩
  have hreg := loadStack_phys (k := 0) (Nat.le_refl 8) hj ((s1.bytesAt (addrs pas)).drop (envLen sz)) f
  rwa [Nat.zero_add, List.drop_drop, ← loadStack_top _ 0 8 f] at hreg

/-- Settles O34: what is stored, WAIT apart, what the image holds, and what is loaded. -/
theorem fpuImages : Obligations.FpuImages := by
  refine ⟨?stored, ?apart, fun f sz s t u env henv => envBytes_holds henv, ?loaded⟩
  case stored =>
    exact fun sz m s s1 s2 pas env hesc henv hw =>
      ⟨fun hl => runInstr_and_waitThen (fnsave_ok hesc hl henv hw),
        fun hl => runInstr_and_waitThen (fnstenv_ok hesc hl henv hw)⟩
  case apart =>
    exact fun sz m s hdev hes hquiet => ⟨waitThen_apart hdev hes hquiet _, waitThen_apart hdev hes hquiet _⟩
  case loaded =>
    intro sz m s s1 pas hesc hl hr
    obtain ⟨g, k, hexec, ⟨hmcr, htag, hstatus, hpointers⟩, hregs⟩ := exec_frstor hesc hl hr
    exact ⟨_, hexec, rfl, hmcr, htag, hstatus, hpointers, hregs⟩

end Sys2Proof.Machine
end

section
/-! SUPPORT. The system registers that R420 keeps for level 0, and parts of instructions whose answers leave them: the rules to
compose them, then what an access leaves. -/
namespace Sys2Proof.Machine
open Sys2Proof

/-- What an instruction outside level 0 cannot change (R420, R528), with the parameters (R8). -/
structure SysView where
  cr0 : Word
  cr3 : Word
  cr4 : Word
  gdtr : TableReg
  idtr : TableReg
  ldtr : Seg
  ldtrInvalid : Bool
  tr : Seg
  test : TestRegs
  dr0 : Word
  dr1 : Word
  dr2 : Word
  dr3 : Word
  tsc : BitVec 64
  cesr : BitVec 64
  pmc0 : BitVec 48
  pmc1 : BitVec 48
  iopl : BitVec 2
  inSmm : Bool
  part : Part

/-- The system registers of a state. -/
def State.sysView (s : State) : SysView :=
  { cr0 := s.cr0, cr3 := s.cr3, cr4 := s.cr4, gdtr := s.gdtr, idtr := s.idtr, ldtr := s.ldtr, ldtrInvalid := s.ldtrInvalid
    tr := s.tr, test := s.test, dr0 := s.dr.dr0, dr1 := s.dr.dr1, dr2 := s.dr.dr2, dr3 := s.dr.dr3, tsc := s.tsc
    cesr := s.cesr, pmc0 := s.pmc0, pmc1 := s.pmc1, iopl := s.flags.iopl, inSmm := s.inSmm, part := s.part }
/-- The system registers and the privilege level. -/
def State.levelView (s : State) : SysView × BitVec 2 := (s.sysView, s.cpl)

/-- Where `a` answers, it leaves `f` of the state as it was. -/
def Act.Leaves {α β : Type} (f : State → β) (a : Act α) : Prop := ∀ ⦃s t : State⦄ ⦃x : α⦄, a s = .ok x t → f t = f s
/-- Where `a` answers, system registers and privilege level are as they were. -/
abbrev Act.KeepsSystem {α : Type} (a : Act α) : Prop := a.Leaves State.levelView

section
variable {α β γ : Type} {v : State → γ}

@[simp] theorem Act.Leaves.pure (x : α) : (Pure.pure x : Act α).Leaves v := fun _ _ _ h => by cases h; rfl
@[simp] theorem Act.Leaves.raise (e : Exc) : (Machine.raise e : Act α).Leaves v := fun _ _ _ h => nomatch h
@[simp] theorem Act.Leaves.refuse (r : Refusal) : (Machine.refuse r : Act α).Leaves v := fun _ _ _ h => nomatch h
theorem Act.Leaves.upd {f : State → State} (hf : ∀ s, v (f s) = v s) : (Machine.upd f).Leaves v :=
  fun s _ _ h => by cases h; exact hf s
/-- An action that always answers. -/
theorem Act.Leaves.quiet {a : Act α} (h : ∀ s, ∃ x t, a s = .ok x t ∧ v t = v s) : a.Leaves v := fun s t y e => by
  obtain ⟨x, u, hu, hv⟩ := h s
  rw [hu] at e
  cases e
  exact hv
theorem Act.Leaves.bind {a : Act α} {f : α → Act β} (ha : a.Leaves v) (hf : ∀ x, (f x).Leaves v) : (a >>= f).Leaves v :=
  fun _ _ _ h => by
    obtain ⟨x, u, hau, hfu⟩ := run_bind_ok_iff.1 h
    exact (hf x hfu).trans (ha hau)
/-- After the state is read. -/
theorem Act.Leaves.get {f : State → Act β} (hf : ∀ s, (f s).Leaves v) : ((MonadState.get : Act State) >>= f).Leaves v :=
  fun s _ _ h => hf s h
theorem Act.Leaves.ite {c : Prop} [Decidable c] {a b : Act α} (ha : a.Leaves v) (hb : b.Leaves v) :
    (if c then a else b).Leaves v := by
  split
  · exact ha
  · exact hb
/-- A check that raises an exception where it fails. -/
theorem Act.Leaves.check {c : Prop} [Decidable c] {e : Exc} {f : α → Act β} {b : Act β} (hb : b.Leaves v) :
    (if c then Machine.raise e >>= f else b).Leaves v := .ite (fun _ _ _ h => nomatch h) hb
/-- A check that refuses where it fails. -/
theorem Act.Leaves.checkRefuse {c : Prop} [Decidable c] {r : Refusal} {f : α → Act β} {b : Act β} (hb : b.Leaves v) :
    (if c then Machine.refuse r >>= f else b).Leaves v := .ite (fun _ _ _ h => nomatch h) hb
theorem Act.Leaves.before {a : Act α} (h : a.Leaves v) (later : List Ref) : (Machine.before later a).Leaves v :=
  fun _ _ _ e => h (before_ok_inv e)
/-- Without the privilege level. -/
theorem Act.KeepsSystem.sys {a : Act α} (h : a.KeepsSystem) : a.Leaves State.sysView := fun _ _ _ e => congrArg Prod.fst (h e)
/-- An access to memory leaves all of it. -/
theorem Act.AccessOnly.keepsSystem {a : Act α} (h : a.AccessOnly) : a.KeepsSystem := fun _ _ _ e => by rw [h e]; rfl
end

/-! Free values, registers, and accesses, in the order of the model. -/

@[simp] theorem drawBit_keepsSystem : drawBit.KeepsSystem := .quiet fun _ => ⟨_, _, rfl, rfl⟩
@[simp] theorem drawWord_keepsSystem : drawWord.KeepsSystem := .quiet fun _ => ⟨_, _, rfl, rfl⟩
@[simp] theorem drawWord16_keepsSystem : drawWord16.KeepsSystem := .quiet fun _ => ⟨_, _, rfl, rfl⟩
@[simp] theorem drawByte_keepsSystem : drawByte.KeepsSystem := .quiet fun _ => ⟨_, _, rfl, rfl⟩
@[simp] theorem getReg_keepsSystem (r : Reg) : (getReg r).KeepsSystem := .quiet fun _ => ⟨_, _, rfl, rfl⟩
@[simp] theorem setReg_keepsSystem (r : Reg) (v : Word) : (setReg r v).KeepsSystem := .quiet fun _ => ⟨_, _, rfl, rfl⟩
@[simp] theorem setRegN_keepsSystem {n : Nat} (r : Reg) (v : BitVec n) : (setRegN r v).KeepsSystem :=
  .quiet fun _ => ⟨_, _, rfl, rfl⟩
@[simp] theorem getReg8_keepsSystem (r : Reg8) : (getReg8 r).KeepsSystem := .quiet fun _ => ⟨_, _, rfl, rfl⟩
@[simp] theorem setReg8_keepsSystem (r : Reg8) (v : Byte) : (setReg8 r v).KeepsSystem := .quiet fun _ => ⟨_, _, rfl, rfl⟩
@[simp] theorem getRegV_keepsSystem (sz : OSize) (r : Reg) : (getRegV sz r).KeepsSystem := .quiet fun _ => ⟨_, _, rfl, rfl⟩
@[simp] theorem setSeg_keepsSystem (r : SegReg) (g : Seg) : (setSeg r g).KeepsSystem := .quiet fun _ => ⟨_, _, rfl, rfl⟩
theorem physRead_keepsSystem (pas : List PA) : (physRead pas).KeepsSystem := (physRead_accessOnly _).keepsSystem
theorem physWrite_keepsSystem (pas : List PA) (bs : List Byte) : (physWrite pas bs).KeepsSystem :=
  (physWrite_accessOnly _ _).keepsSystem
theorem linRead_keepsSystem (la : Word) (n : Nat) : (linRead la n).KeepsSystem := (linRead_accessOnly _ _).keepsSystem
theorem segAccess_keepsSystem (r : SegReg) (off : Word) (n : Nat) (kind : Acc) (al : Nat) :
    (segAccess r off n kind al).KeepsSystem := (segAccess_accessOnly _ _ _ _ _).keepsSystem
theorem memRead_keepsSystem (r : SegReg) (off : Word) (n al : Nat) : (memRead r off n al).KeepsSystem :=
  (memRead_accessOnly _ _ _ _).keepsSystem
theorem memWrite_keepsSystem (r : SegReg) (off : Word) (n al v : Nat) : (memWrite r off n al v).KeepsSystem :=
  .bind (segAccess_keepsSystem _ _ _ _ _) fun _ => physWrite_keepsSystem _ _
theorem checkOnly_keepsSystem {α : Type} (a : Act α) : (checkOnly a).KeepsSystem := fun s t x h => by
  unfold checkOnly at h
  split at h
  · cases h; rfl
  · cases h

/-! The stack (R365). -/

theorem setStackPtr_keepsSystem (x : Word) : (setStackPtr x).KeepsSystem := .quiet fun _ => ⟨_, _, rfl, rfl⟩
theorem dropStack_keepsSystem (sz : OSize) (n m : Nat) : (dropStack sz n m).KeepsSystem := .quiet fun _ => ⟨_, _, rfl, rfl⟩
theorem pushPlaces_keepsSystem (sz : OSize) (k : Nat) (vals : List Word) : (pushPlaces sz k vals).KeepsSystem :=
  Act.AccessOnly.keepsSystem fun _ _ _ h => pushPlaces_same h
theorem writeItems_keepsSystem (sz : OSize) (places : List (List PA)) (vals : List Word) :
    (writeItems sz places vals).KeepsSystem := by
  induction places generalizing vals with
  | nil => exact .pure _
  | cons pas ps ih =>
    cases vals with
    | nil => exact .pure _
    | cons v vs => exact .bind (physWrite_keepsSystem _ _) fun _ => ih vs
theorem pushCommit_keepsSystem (sz : OSize) (places : List (List PA)) (vals : List Word) :
    (pushCommit sz places vals).KeepsSystem :=
  .bind (writeItems_keepsSystem _ _ _) fun _ => .get fun _ => setStackPtr_keepsSystem _
theorem pushMany_keepsSystem (sz : OSize) (vals : List Word) : (pushMany sz vals).KeepsSystem :=
  .bind (pushPlaces_keepsSystem _ _ _) fun _ => pushCommit_keepsSystem _ _ _
theorem push_keepsSystem (sz : OSize) (v : Word) : (push sz v).KeepsSystem := pushMany_keepsSystem _ _
theorem peekStack_keepsSystem (sz : OSize) (k : Nat) : (peekStack sz k).KeepsSystem := (peekStack_accessOnly _ _).keepsSystem
theorem peekItem_keepsSystem (sz : OSize) (n k : Nat) : (peekItem sz n k).KeepsSystem :=
  .get fun _ => .before (peekStack_keepsSystem _ _) _
theorem pop_keepsSystem (sz : OSize) : (pop sz).KeepsSystem :=
  .bind (peekStack_keepsSystem _ _) fun _ => .bind (dropStack_keepsSystem _ _ _) fun _ => .pure _
theorem selItem_keepsSystem (sz : OSize) (sel : Word16) : (selItem sz sel).KeepsSystem := by
  cases sz <;> exact .quiet fun _ => ⟨_, _, rfl, rfl⟩

/-! Descriptors, segment registers and EIP. -/

theorem readDesc_keepsSystem (sel : Word16) (bad : Exc) : (readDesc sel bad).KeepsSystem := (readDesc_accessOnly _ _).keepsSystem
theorem markAccessed_keepsSystem (a : Word) (d : BitVec 64) : (markAccessed a d).KeepsSystem :=
  (markAccessed_accessOnly _ _).keepsSystem
theorem checkStackSel_keepsSystem (sel : Word16) (lvl : BitVec 2) (nullX badX npX : Exc) :
    (checkStackSel sel lvl nullX badX npX).KeepsSystem := (checkStackSel_accessOnly _ _ _ _ _).keepsSystem
theorem loadSeg_keepsSystem (r : SegReg) (sel : Word16) : (loadSeg r sel).KeepsSystem :=
  .get fun _ => .ite (setSeg_keepsSystem _ _) <|
    .ite (.bind (checkStackSel_keepsSystem _ _ _ _ _) fun ⟨_, _⟩ => .bind (markAccessed_keepsSystem _ _) fun _ =>
      setSeg_keepsSystem _ _) <|
    .ite (setSeg_keepsSystem _ _) <|
    .bind (readDesc_keepsSystem _ _) fun ⟨_, _⟩ => .check <| .check <| .check <|
      .bind (markAccessed_keepsSystem _ _) fun _ => setSeg_keepsSystem _ _
theorem loadEip_keepsSystem (sz : OSize) (t : Word) : (loadEip sz t).KeepsSystem := .get fun _ => .check <| .upd fun _ => rfl
theorem transferred_keepsSystem : transferred.KeepsSystem := .quiet fun _ => ⟨_, _, rfl, rfl⟩
theorem branched_keepsSystem : branched.KeepsSystem := .quiet fun _ => ⟨_, _, rfl, rfl⟩

/-! Taking an exception or interrupt (R500 to R503): the handler may run at another level. -/

theorem realDeliver_leaves (v : Byte) (e : Word) : (realDeliver v e).Leaves State.sysView :=
  .get fun _ => .check <| .bind (linRead_keepsSystem _ _).sys fun _ => .bind (pushMany_keepsSystem _ _).sys fun _ =>
    .upd fun _ => rfl
theorem codeItems_keepsSystem (sz : OSize) (c : Option Word16) : (codeItems sz c).KeepsSystem := by
  cases c with
  | none => exact .pure _
  | some c => exact .bind (selItem_keepsSystem _ _) fun _ => .pure _
theorem enterHandler_leaves (sel : Word16) (d : BitVec 64) (off : Word) (lvl : BitVec 2) (gate : Bool) :
    (enterHandler sel d off lvl gate).Leaves State.sysView := .upd fun _ => rfl
theorem innerEntry_leaves (sz : OSize) (sel : Word16) (da : Word) (d : BitVec 64) (off : Word) (x : Word16) (e : Word)
    (c : Option Word16) (fault gate : Bool) : (innerEntry sz sel da d off x e c fault gate).Leaves State.sysView := by
  refine .get fun s => .bind (tssStack_accessOnly _ _).keepsSystem.sys fun ⟨nss, nsp⟩ =>
    .bind (checkStackSel_keepsSystem _ _ _ _ _).sys fun ⟨sa, sd⟩ => .check <| .check <|
    .bind (innerPlaces_accessOnly _ _ _ _ _).keepsSystem.sys fun places => .bind (markAccessed_keepsSystem _ _).sys fun _ =>
    .bind (markAccessed_keepsSystem _ _).sys fun _ => ?_
  have sels : ∀ y, (selItem sz y).Leaves State.sysView := fun y => (selItem_keepsSystem sz y).sys
  refine .ite (.bind (sels _) fun _ => .bind (sels _) fun _ => .bind (sels _) fun _ => .bind (sels _) fun _ => .bind (.pure _) ?_)
    (.bind (.pure _) ?_)
  all_goals
    exact fun dataSels => .bind (sels _) fun _ => .bind (sels _) fun _ => .bind (codeItems_keepsSystem _ _).sys fun _ =>
      .bind (writeItems_keepsSystem _ _ _).sys fun _ => .bind (.upd fun _ => rfl) fun _ =>
      .ite (.bind (.upd fun _ => rfl) fun _ => enterHandler_leaves _ _ _ _ _) (enterHandler_leaves _ _ _ _ _)
theorem sameEntry_leaves (sz : OSize) (sel : Word16) (da : Word) (d : BitVec 64) (off : Word) (x : Word16) (e : Word)
    (c : Option Word16) (fault gate : Bool) : (sameEntry sz sel da d off x e c fault gate).Leaves State.sysView :=
  .get fun _ => .check <| .check <| .bind (pushPlaces_keepsSystem _ _ _).sys fun _ =>
    .bind (markAccessed_keepsSystem _ _).sys fun _ => .bind (selItem_keepsSystem _ _).sys fun _ =>
    .bind (codeItems_keepsSystem _ _).sys fun _ => .bind (pushCommit_keepsSystem _ _ _).sys fun _ =>
    enterHandler_leaves _ _ _ _ _
theorem protDeliver_leaves (kind : Kind) (n : Byte) (e : Word) (c : Option Word16) (fault : Bool) :
    (protDeliver kind n e c fault).Leaves State.sysView :=
  .get fun _ => .check <| .bind (linRead_keepsSystem _ _).sys fun _ => .check <| .check <| .check <| .checkRefuse <| .check <|
    .bind (readDesc_keepsSystem _ _).sys fun ⟨_, _⟩ => .check <| .check <| .check <|
    .ite (innerEntry_leaves _ _ _ _ _ _ _ _ _ _) (sameEntry_leaves _ _ _ _ _ _ _ _ _ _)
/-- One attempt to deliver an event. -/
theorem deliver_leaves (kind : Kind) (n : Byte) (e : Word) (c : Option Word16) (fault : Bool) :
    (deliver kind n e c fault).Leaves State.sysView := by
  refine .get fun s => .ite (.bind (protDeliver_leaves _ _ _ _ _) fun _ => ?_) (.bind (realDeliver_leaves _ _) fun _ => ?_)
  all_goals exact .bind transferred_keepsSystem.sys fun _ => .upd fun _ => rfl

end Sys2Proof.Machine
end

section
/-! SUPPORT. The actions of the instructions that R420 does not keep for level 0, in the order of the model: each leaves system
registers and privilege level. -/
namespace Sys2Proof.Machine
open Sys2Proof

/-! Flags (R281, R297 to R300, R311). -/

@[simp] theorem getFlags_keepsSystem : getFlags.KeepsSystem := .quiet fun _ => ⟨_, _, rfl, rfl⟩
@[simp] theorem addA_keepsSystem {n : Nat} (a b : BitVec n) : (addA a b).KeepsSystem := .quiet fun _ => ⟨_, _, rfl, rfl⟩
@[simp] theorem adcA_keepsSystem {n : Nat} (a b : BitVec n) : (adcA a b).KeepsSystem := .quiet fun _ => ⟨_, _, rfl, rfl⟩
@[simp] theorem subA_keepsSystem {n : Nat} (a b : BitVec n) : (subA a b).KeepsSystem := .quiet fun _ => ⟨_, _, rfl, rfl⟩
@[simp] theorem sbbA_keepsSystem {n : Nat} (a b : BitVec n) : (sbbA a b).KeepsSystem := .quiet fun _ => ⟨_, _, rfl, rfl⟩
@[simp] theorem andA_keepsSystem {n : Nat} (a b : BitVec n) : (andA a b).KeepsSystem := .quiet fun _ => ⟨_, _, rfl, rfl⟩
@[simp] theorem orA_keepsSystem {n : Nat} (a b : BitVec n) : (orA a b).KeepsSystem := .quiet fun _ => ⟨_, _, rfl, rfl⟩
@[simp] theorem xorA_keepsSystem {n : Nat} (a b : BitVec n) : (xorA a b).KeepsSystem := .quiet fun _ => ⟨_, _, rfl, rfl⟩
@[simp] theorem incA_keepsSystem {n : Nat} (a : BitVec n) : (incA a).KeepsSystem := .quiet fun _ => ⟨_, _, rfl, rfl⟩
@[simp] theorem decA_keepsSystem {n : Nat} (a : BitVec n) : (decA a).KeepsSystem := .quiet fun _ => ⟨_, _, rfl, rfl⟩
@[simp] theorem negA_keepsSystem {n : Nat} (a : BitVec n) : (negA a).KeepsSystem := .quiet fun _ => ⟨_, _, rfl, rfl⟩
@[simp] theorem notA_keepsSystem {n : Nat} (a : BitVec n) : (notA a).KeepsSystem := .quiet fun _ => ⟨_, _, rfl, rfl⟩
@[simp] theorem freeFlagsA_keepsSystem : freeFlagsA.KeepsSystem := .quiet fun _ => ⟨_, _, rfl, rfl⟩
@[simp] theorem mulFlagsA_keepsSystem (ovf : Bool) : (mulFlagsA ovf).KeepsSystem := .quiet fun _ => ⟨_, _, rfl, rfl⟩
@[simp] theorem bitFlagsA_keepsSystem (bit : Bool) : (bitFlagsA bit).KeepsSystem := .quiet fun _ => ⟨_, _, rfl, rfl⟩

/-! Operands (R282). -/

@[simp] theorem locateMem_keepsSystem (m : Mem) (n al : Nat) (kind : Acc) : (locateMem m n al kind).KeepsSystem :=
  .get fun _ => segAccess_keepsSystem _ _ _ _ _
@[simp] theorem locate8_keepsSystem (d : RM8) (kind : Acc) : (locate8 d kind).KeepsSystem := by
  cases d with
  | reg r => exact .pure _
  | mem m => exact .bind (locateMem_keepsSystem _ _ _ _) fun _ => .pure _
@[simp] theorem locateN_keepsSystem (n : Nat) (d : RMv) (kind : Acc) : (locateN n d kind).KeepsSystem := by
  cases d with
  | reg r => exact .pure _
  | mem m => exact .bind (locateMem_keepsSystem _ _ _ _) fun _ => .pure _
@[simp] theorem locateV_keepsSystem (sz : OSize) (d : RMv) (kind : Acc) : (locateV sz d kind).KeepsSystem :=
  locateN_keepsSystem _ _ _
@[simp] theorem readPlace_keepsSystem (n : Nat) (p : Place) : (readPlace n p).KeepsSystem := by
  cases p with
  | reg r => exact .quiet fun _ => ⟨_, _, rfl, rfl⟩
  | reg8 r => exact .quiet fun _ => ⟨_, _, rfl, rfl⟩
  | mem pas => exact .bind (physRead_keepsSystem _) fun _ => .pure _
@[simp] theorem writePlace_keepsSystem {n : Nat} (p : Place) (v : BitVec n) : (writePlace p v).KeepsSystem := by
  cases p with
  | reg r => exact setRegN_keepsSystem _ _
  | reg8 r => exact .quiet fun _ => ⟨_, _, rfl, rfl⟩
  | mem pas => exact physWrite_keepsSystem _ _
@[simp] theorem readRM8_keepsSystem (d : RM8) : (readRM8 d).KeepsSystem :=
  .bind (locate8_keepsSystem _ _) fun _ => readPlace_keepsSystem _ _
@[simp] theorem readRMv_keepsSystem (sz : OSize) (d : RMv) : (readRMv sz d).KeepsSystem :=
  .bind (locateV_keepsSystem _ _ _) fun _ => readPlace_keepsSystem _ _
@[simp] theorem readRM16_keepsSystem (d : RMv) : (readRM16 d).KeepsSystem :=
  .bind (locateN_keepsSystem _ _ _) fun _ => readPlace_keepsSystem _ _
@[simp] theorem readRM32_keepsSystem (d : RMv) : (readRM32 d).KeepsSystem :=
  .bind (locateN_keepsSystem _ _ _) fun _ => readPlace_keepsSystem _ _
@[simp] theorem writeRM8_keepsSystem (d : RM8) (v : Byte) : (writeRM8 d v).KeepsSystem :=
  .bind (locate8_keepsSystem _ _) fun _ => writePlace_keepsSystem _ _
@[simp] theorem writeRMv_keepsSystem (sz : OSize) (d : RMv) (v : BitVec (osBits sz)) : (writeRMv sz d v).KeepsSystem :=
  .bind (locateV_keepsSystem _ _ _) fun _ => writePlace_keepsSystem _ _
theorem rmw8_keepsSystem {f : Byte → Act Byte} (hf : ∀ a, (f a).KeepsSystem) (d : RM8) : (rmw8 d f).KeepsSystem :=
  .bind (locate8_keepsSystem _ _) fun _ => .bind (readPlace_keepsSystem _ _) fun _ => .bind (hf _) fun _ => writePlace_keepsSystem _ _
theorem rmwV_keepsSystem {sz : OSize} {f : BitVec (osBits sz) → Act (BitVec (osBits sz))} (hf : ∀ a, (f a).KeepsSystem)
    (d : RMv) : (rmwV sz d f).KeepsSystem :=
  .bind (locateV_keepsSystem _ _ _) fun _ => .bind (readPlace_keepsSystem _ _) fun _ => .bind (hf _) fun _ =>
    writePlace_keepsSystem _ _

/-! Arithmetic and logical instructions (R283 to R300). -/

section
variable {op : Byte → Byte → Act Byte} (hop : ∀ a b, (op a b).KeepsSystem)
include hop
theorem aluEbGb_keepsSystem (d : RM8) (r : Reg8) : (aluEbGb op d r).KeepsSystem :=
  rmw8_keepsSystem (fun _ => .bind (getReg8_keepsSystem _) fun _ => hop _ _) d
theorem aluGbEb_keepsSystem (r : Reg8) (e : RM8) : (aluGbEb op r e).KeepsSystem :=
  .bind (readRM8_keepsSystem _) fun _ => .bind (getReg8_keepsSystem _) fun _ => .bind (hop _ _) fun _ => setReg8_keepsSystem _ _
theorem aluAlIb_keepsSystem (i : Byte) : (aluAlIb op i).KeepsSystem :=
  .bind (getReg8_keepsSystem _) fun _ => .bind (hop _ _) fun _ => setReg8_keepsSystem _ _
theorem aluEbIb_keepsSystem (d : RM8) (i : Byte) : (aluEbIb op d i).KeepsSystem := rmw8_keepsSystem (fun _ => hop _ _) d
end
section
variable {sz : OSize} {op : BitVec (osBits sz) → BitVec (osBits sz) → Act (BitVec (osBits sz))}
  (hop : ∀ a b, (op a b).KeepsSystem)
include hop
theorem aluEvGv_keepsSystem (d : RMv) (r : Reg) : (aluEvGv sz op d r).KeepsSystem :=
  rmwV_keepsSystem (fun _ => .bind (getRegV_keepsSystem _ _) fun _ => hop _ _) d
theorem aluGvEv_keepsSystem (r : Reg) (e : RMv) : (aluGvEv sz op r e).KeepsSystem :=
  .bind (readRMv_keepsSystem _ _) fun _ => .bind (getRegV_keepsSystem _ _) fun _ => .bind (hop _ _) fun _ => setRegN_keepsSystem _ _
theorem aluEvIbs_keepsSystem (d : RMv) (i : Byte) : (aluEvIbs sz op d i).KeepsSystem := rmwV_keepsSystem (fun _ => hop _ _) d
end
section
variable {i : Imm} {op : BitVec (osBits i.osize) → BitVec (osBits i.osize) → Act (BitVec (osBits i.osize))}
  (hop : ∀ a b, (op a b).KeepsSystem)
include hop
theorem aluAxIv_keepsSystem : (aluAxIv i op).KeepsSystem :=
  .bind (getRegV_keepsSystem _ _) fun _ => .bind (hop _ _) fun _ => setRegN_keepsSystem _ _
theorem aluEvIv_keepsSystem (d : RMv) : (aluEvIv d i op).KeepsSystem := rmwV_keepsSystem (fun _ => hop _ _) d
end
@[simp] theorem setProduct_keepsSystem {n : Nat} (p : BitVec (n + n)) : (setProduct p).KeepsSystem :=
  .bind (setRegN_keepsSystem _ _) fun _ => setRegN_keepsSystem _ _
@[simp] theorem getDividend_keepsSystem (sz : OSize) : (getDividend sz).KeepsSystem := .quiet fun _ => ⟨_, _, rfl, rfl⟩
@[simp] theorem getAx_keepsSystem : getAx.KeepsSystem := .quiet fun _ => ⟨_, _, rfl, rfl⟩
@[simp] theorem setDiv8_keepsSystem (r : Option (Byte × Byte)) : (setDiv8 r).KeepsSystem := by
  cases r with
  | none => exact .raise _
  | some x => exact .bind (setReg8_keepsSystem _ _) fun _ => .bind (setReg8_keepsSystem _ _) fun _ => freeFlagsA_keepsSystem
@[simp] theorem setDivV_keepsSystem {n : Nat} (r : Option (BitVec n × BitVec n)) : (setDivV r).KeepsSystem := by
  cases r with
  | none => exact .raise _
  | some x => exact .bind (setRegN_keepsSystem _ _) fun _ => .bind (setRegN_keepsSystem _ _) fun _ => freeFlagsA_keepsSystem

/-! Bit tests and shifts (R310 to R327). -/

@[simp] theorem bitAtPlace_keepsSystem (op : BitOp) (sz : OSize) (p : Place) (k : Nat) : (bitAtPlace op sz p k).KeepsSystem :=
  .bind (readPlace_keepsSystem _ _) fun _ => .bind (bitFlagsA_keepsSystem _) fun _ => writePlace_keepsSystem _ _
@[simp] theorem bitImm_keepsSystem (op : BitOp) (sz : OSize) (d : RMv) (i : Byte) : (bitImm op sz d i).KeepsSystem :=
  .bind (locateV_keepsSystem _ _ _) fun _ => bitAtPlace_keepsSystem _ _ _ _
@[simp] theorem bitReg_keepsSystem (op : BitOp) (sz : OSize) (d : RMv) (r : Reg) : (bitReg op sz d r).KeepsSystem := by
  cases d with
  | reg b => exact .get fun _ => bitAtPlace_keepsSystem _ _ _ _
  | mem m => exact .get fun _ => .bind (segAccess_keepsSystem _ _ _ _ _) fun _ => bitAtPlace_keepsSystem _ _ _ _
/-- Flags that keep IOPL keep the view. -/
theorem State.levelView_flags {s u : State} {f : Flags} (hu : u.levelView = s.levelView) (hf : f.iopl = s.flags.iopl) (k : Nat) :
    ({ u with flags := f, freeCtr := k } : State).levelView = s.levelView := by
  have hiopl : u.flags.iopl = s.flags.iopl := congrArg (fun v : SysView × BitVec 2 => v.1.iopl) hu
  rw [← hu]
  simp only [State.levelView, State.sysView, hf, hiopl]
theorem shiftResult_iopl (op : Shift) {n : Nat} (a : BitVec n) (c : Nat) (ofl af cf : Bool) (f : Flags) :
    (shiftResult op a c ofl af cf f).2.iopl = f.iopl := by cases op <;> rfl
/-- The flags are those of the start, changed by the operation. -/
@[simp] theorem shiftPlace_keepsSystem (op : Shift) (n : Nat) (p : Place) : (shiftPlace op n p).KeepsSystem := by
  intro s t _ h
  rw [shiftPlace, run_bind_ok _ (run_get s)] at h
  obtain ⟨a, u, hread, h⟩ := run_bind_ok_iff.1 h
  exact (writePlace_keepsSystem _ _ h).trans
    (State.levelView_flags (readPlace_keepsSystem _ _ hread) (shiftResult_iopl _ _ _ _ _ _ _) _)
theorem shiftAt_keepsSystem {loc : Act Place} (hloc : loc.KeepsSystem) (op : Shift) (n : Nat) : (shiftAt op n loc).KeepsSystem :=
  .get fun _ => .ite (checkOnly_keepsSystem _) (.bind hloc fun _ => shiftPlace_keepsSystem _ _ _)
theorem shiftEb_keepsSystem (op : Shift) (d : RM8) : (shiftEb op d).KeepsSystem := shiftAt_keepsSystem (locate8_keepsSystem _ _) _ _
theorem shiftEv_keepsSystem (op : Shift) (sz : OSize) (d : RMv) : (shiftEv op sz d).KeepsSystem :=
  shiftAt_keepsSystem (locateV_keepsSystem _ _ _) _ _

/-! Data transfer and stack instructions (R361 to R374). -/

@[simp] theorem readPfx_keepsSystem (f : Pfx → Pfx) : (readPfx f).KeepsSystem := .quiet fun _ => ⟨_, _, rfl, rfl⟩
@[simp] theorem locateMoffs_keepsSystem (o : Moffs) (n : Nat) (kind : Acc) : (locateMoffs o n kind).KeepsSystem :=
  .get fun _ => segAccess_keepsSystem _ _ _ _ _
@[simp] theorem storeSel_keepsSystem (sz : OSize) (d : RMv) (sel : Word16) : (storeSel sz d sel).KeepsSystem := by
  cases d with
  | reg r =>
    cases sz with
    | w16 => exact setRegN_keepsSystem _ _
    | w32 => exact .bind drawWord16_keepsSystem fun _ => setReg_keepsSystem _ _
  | mem m => exact .bind (locateMem_keepsSystem _ _ _ _) fun _ => writePlace_keepsSystem _ _
@[simp] theorem shadowIfSs_keepsSystem (r : SegReg) : (shadowIfSs r).KeepsSystem := .ite (.upd fun _ => rfl) (.pure _)
@[simp] theorem pushSeg_keepsSystem (sz : OSize) (r : SegReg) : (pushSeg sz r).KeepsSystem :=
  .get fun _ => .bind (selItem_keepsSystem _ _) fun _ => push_keepsSystem _ _
@[simp] theorem popSeg_keepsSystem (sz : OSize) (r : SegReg) : (popSeg sz r).KeepsSystem :=
  .bind (pop_keepsSystem _) fun _ => .bind (loadSeg_keepsSystem _ _) fun _ => shadowIfSs_keepsSystem _
@[simp] theorem v86Sensitive_keepsSystem : v86Sensitive.KeepsSystem := .get fun _ => .ite (.raise _) (.pure _)

/-! Control transfer (R330 to R347). -/

@[simp] theorem farSystem_keepsSystem (typ : BitVec 4) (bad : Exc) : (farSystem typ bad).KeepsSystem :=
  .ite (.refuse _) <| .ite (.refuse _) <| .ite (.refuse _) (.raise _)
@[simp] theorem checkFar_keepsSystem (sel : Word16) (off : Word) : (checkFar sel off).KeepsSystem :=
  .get fun _ => .ite (.check <| .pure _) <| .check <| .bind (readDesc_keepsSystem _ _) fun ⟨_, _⟩ => .ite
    (.check <| .check <| .check <| .check <| .pure _)
    (.ite (farSystem_keepsSystem _ _) (.raise _))
@[simp] theorem commitFar_keepsSystem (t : FarDest) : (commitFar t).KeepsSystem := by
  obtain ⟨cs, eip, desc⟩ := t
  cases desc with
  | none => exact .bind (.upd fun _ => rfl) fun _ => branched_keepsSystem
  | some x => exact .bind (markAccessed_keepsSystem _ _) fun _ => .bind (.upd fun _ => rfl) fun _ => branched_keepsSystem
@[simp] theorem relTarget_keepsSystem (disp : Word) : (relTarget disp).KeepsSystem := .quiet fun _ => ⟨_, _, rfl, rfl⟩
@[simp] theorem jumpNear_keepsSystem (sz : OSize) (t : Word) : (jumpNear sz t).KeepsSystem :=
  .bind (loadEip_keepsSystem _ _) fun _ => branched_keepsSystem
@[simp] theorem callNear_keepsSystem (sz : OSize) (t : Word) : (callNear sz t).KeepsSystem :=
  .get fun _ => .bind (loadEip_keepsSystem _ _) fun _ => .bind (push_keepsSystem _ _) fun _ => branched_keepsSystem
@[simp] theorem jumpFar_keepsSystem (sel : Word16) (off : Word) : (jumpFar sel off).KeepsSystem :=
  .bind (checkFar_keepsSystem _ _) fun _ => commitFar_keepsSystem _
@[simp] theorem callFar_keepsSystem (sz : OSize) (sel : Word16) (off : Word) : (callFar sz sel off).KeepsSystem := by
  refine .bind (checkFar_keepsSystem _ _) fun ⟨cs, eip, desc⟩ => .get fun _ => .bind (pushPlaces_keepsSystem _ _ _) fun _ =>
    .bind (selItem_keepsSystem _ _) fun _ => ?_
  cases desc with
  | none => exact .bind (pushCommit_keepsSystem _ _ _) fun _ => commitFar_keepsSystem _
  | some x =>
    exact .bind (markAccessed_keepsSystem _ _) fun _ => .bind (pushCommit_keepsSystem _ _ _) fun _ => commitFar_keepsSystem _
@[simp] theorem readFarPtr_keepsSystem (sz : OSize) (m : Mem) (later : List Ref) : (readFarPtr sz m later).KeepsSystem :=
  .get fun _ => .bind (.before (memRead_keepsSystem _ _ _ _) _) fun _ =>
    .bind (.before (memRead_keepsSystem _ _ _ _) _) fun _ => .pure _
@[simp] theorem retNear_keepsSystem (sz : OSize) (n : Word16) : (retNear sz n).KeepsSystem :=
  .bind (peekStack_keepsSystem _ _) fun _ => .bind (loadEip_keepsSystem _ _) fun _ => .bind (dropStack_keepsSystem _ _ _) fun _ =>
    transferred_keepsSystem
@[simp] theorem countDown_keepsSystem (az : ASize) : (countDown az).KeepsSystem := by
  cases az with
  | a16 => exact .bind (getReg_keepsSystem _) fun _ => .bind (setRegN_keepsSystem _ _) fun _ => .pure _
  | a32 => exact .bind (getReg_keepsSystem _) fun _ => .bind (setReg_keepsSystem _ _) fun _ => .pure _
@[simp] theorem loopIf_keepsSystem (sz : OSize) (az : ASize) (d : Byte) (cond : Flags → Bool) : (loopIf sz az d cond).KeepsSystem :=
  .bind (countDown_keepsSystem _) fun _ => .bind getFlags_keepsSystem fun _ =>
    .ite (.bind (relTarget_keepsSystem _) fun _ => loadEip_keepsSystem _ _) (.pure _)

/-! Floating point and MMX (R400 to R415). -/

@[simp] theorem pendingError_keepsSystem : pendingError.KeepsSystem := .get fun _ => .ite (.check <| .refuse _) (.pure _)
@[simp] theorem escAvailable_keepsSystem : escAvailable.KeepsSystem := .get fun _ => .ite (.raise _) (.pure _)
@[simp] theorem waitCheck_keepsSystem : waitCheck.KeepsSystem := .get fun _ => .check pendingError_keepsSystem
@[simp] theorem mmxAvailable_keepsSystem : mmxAvailable.KeepsSystem :=
  .get fun _ => .check <| .check pendingError_keepsSystem
@[simp] theorem getMm_keepsSystem (r : MmReg) : (getMm r).KeepsSystem := .quiet fun _ => ⟨_, _, rfl, rfl⟩
@[simp] theorem setMm_keepsSystem (r : MmReg) (v : BitVec 64) : (setMm r v).KeepsSystem := .quiet fun _ => ⟨_, _, rfl, rfl⟩
@[simp] theorem mmxDone_keepsSystem (tag : Word16) : (mmxDone tag).KeepsSystem := .quiet fun _ => ⟨_, _, rfl, rfl⟩
@[simp] theorem envBytes_keepsSystem (f : Fpu) (form : EnvForm) : (envBytes f form).KeepsSystem := by
  cases form <;> exact .quiet fun _ => ⟨_, _, rfl, rfl⟩
@[simp] theorem loadEnv_keepsSystem (form : EnvForm) (bs : List Byte) (f : Fpu) : (loadEnv form bs f).KeepsSystem := by
  cases form <;> exact .quiet fun _ => ⟨_, _, rfl, rfl⟩
@[simp] theorem fnsave_keepsSystem (sz : OSize) (m : Mem) : (fnsave sz m).KeepsSystem :=
  .bind escAvailable_keepsSystem fun _ => .get fun _ => .bind (locateMem_keepsSystem _ _ _ _) fun _ =>
    .bind (envBytes_keepsSystem _ _) fun _ => .bind (physWrite_keepsSystem _ _) fun _ => .upd fun _ => rfl
@[simp] theorem fnstenv_keepsSystem (sz : OSize) (m : Mem) : (fnstenv sz m).KeepsSystem :=
  .bind escAvailable_keepsSystem fun _ => .get fun _ => .bind (locateMem_keepsSystem _ _ _ _) fun _ =>
    .bind (envBytes_keepsSystem _ _) fun _ => .bind (physWrite_keepsSystem _ _) fun _ => .upd fun _ => rfl
@[simp] theorem frstor_keepsSystem (sz : OSize) (m : Mem) : (frstor sz m).KeepsSystem :=
  .bind escAvailable_keepsSystem fun _ => .get fun _ => .bind (locateMem_keepsSystem _ _ _ _) fun _ =>
    .bind (physRead_keepsSystem _) fun _ => .bind (loadEnv_keepsSystem _ _ _) fun _ => .upd fun _ => rfl
@[simp] theorem readMm64_keepsSystem (e : RMmm) : (readMm64 e).KeepsSystem := by
  cases e with
  | reg r => exact getMm_keepsSystem _
  | mem m => exact .bind (locateMem_keepsSystem _ _ _ _) fun _ => .bind (physRead_keepsSystem _) fun _ => .pure _
@[simp] theorem writeMm64_keepsSystem (d : RMmm) (v : BitVec 64) : (writeMm64 d v).KeepsSystem := by
  cases d with
  | reg r => exact setMm_keepsSystem _ _
  | mem m => exact .bind (locateMem_keepsSystem _ _ _ _) fun _ => physWrite_keepsSystem _ _

/-! I/O and strings (R143, R381 to R390, R530). -/

@[simp] theorem ioMapAllows_keepsSystem (base : Word) (k n : Nat) : (ioMapAllows base k n).KeepsSystem := by
  induction n generalizing k with
  | zero => exact .pure _
  | succ m ih => exact .bind (linRead_keepsSystem _ _) fun _ => .check (ih _)
@[simp] theorem ioPermit_keepsSystem (port : Word16) (n : Nat) : (ioPermit port n).KeepsSystem :=
  .get fun _ => .ite (.get fun _ => .check <| .check <| .bind (linRead_keepsSystem _ _) fun _ => .check <|
    ioMapAllows_keepsSystem _ _ _) (.pure _)
@[simp] theorem cfgRead_keepsSystem (i : Byte) : (cfgRead i).KeepsSystem := by
  refine .get fun s => ?_
  split
  · exact .pure _
  · exact .pure _
  · exact .pure _
  · exact drawByte_keepsSystem
@[simp] theorem consumeIndex_keepsSystem : consumeIndex.KeepsSystem := .quiet fun _ => ⟨_, _, rfl, rfl⟩
@[simp] theorem externalRead_keepsSystem (port : Word16) (n : Nat) : (externalRead port n).KeepsSystem :=
  .quiet fun _ => ⟨_, _, rfl, rfl⟩
@[simp] theorem externalWrite_keepsSystem (port : Word16) (n : Nat) (v : Word) : (externalWrite port n v).KeepsSystem :=
  .quiet fun _ => ⟨_, _, rfl, rfl⟩
theorem State.cfgWrite_levelView (s : State) (i v : Byte) : (s.cfgWrite i v).levelView = s.levelView := by
  unfold State.cfgWrite
  split
  · rfl
  · split
    · split <;> rfl
    · rfl
  · rfl
  · rfl
@[simp] theorem cfgPortRead_keepsSystem (port : Word16) : (cfgPortRead port).KeepsSystem :=
  .get fun _ => .ite (.bind (cfgRead_keepsSystem _) fun _ => .bind consumeIndex_keepsSystem fun _ => .pure _)
    (externalRead_keepsSystem _ _)
@[simp] theorem cfgPortWrite_keepsSystem (port : Word16) (v : Word) : (cfgPortWrite port v).KeepsSystem :=
  .get fun _ => .ite
    (.ite (.upd fun _ => rfl) (.bind consumeIndex_keepsSystem fun _ => externalWrite_keepsSystem _ _ _))
    (.ite (.bind (.upd fun s => s.cfgWrite_levelView _ _) fun _ => consumeIndex_keepsSystem) (externalWrite_keepsSystem _ _ _))
@[simp] theorem ioBounds_keepsSystem (port : Word16) (n : Nat) : (ioBounds port n).KeepsSystem :=
  .checkRefuse <| .ite (.refuse _) (.pure _)
@[simp] theorem noteIo_keepsSystem (write : Bool) (port : Word16) (n : Nat) (v : Word) (index : Option Word) :
    (noteIo write port n v index).KeepsSystem := .quiet fun _ => ⟨_, _, rfl, rfl⟩
@[simp] theorem ioRead_keepsSystem (port : Word16) (n : Nat) (index : Option Word) : (ioRead port n index).KeepsSystem :=
  .bind (ioBounds_keepsSystem _ _) fun _ => .ite
    (.bind (cfgPortRead_keepsSystem _) fun _ => .bind (noteIo_keepsSystem _ _ _ _ _) fun _ => .pure _)
    (.bind (externalRead_keepsSystem _ _) fun _ => .bind (noteIo_keepsSystem _ _ _ _ _) fun _ => .pure _)
@[simp] theorem ioWrite_keepsSystem (port : Word16) (n : Nat) (v : Word) (index : Option Word) :
    (ioWrite port n v index).KeepsSystem :=
  .bind (ioBounds_keepsSystem _ _) fun _ => .ite
    (.bind (cfgPortWrite_keepsSystem _ _) fun _ => noteIo_keepsSystem _ _ _ _ _)
    (.bind (externalWrite_keepsSystem _ _ _) fun _ => noteIo_keepsSystem _ _ _ _ _)
@[simp] theorem portDx_keepsSystem : portDx.KeepsSystem := .quiet fun _ => ⟨_, _, rfl, rfl⟩
@[simp] theorem inPort_keepsSystem (port : Word16) (n : Nat) : (inPort port n).KeepsSystem :=
  .bind (ioPermit_keepsSystem _ _) fun _ => ioRead_keepsSystem _ _ _
@[simp] theorem outPort_keepsSystem (port : Word16) (n : Nat) (v : Word) : (outPort port n v).KeepsSystem :=
  .bind (ioPermit_keepsSystem _ _) fun _ => ioWrite_keepsSystem _ _ _ _
@[simp] theorem indexReg_keepsSystem (az : ASize) (r : Reg) : (indexReg az r).KeepsSystem := .quiet fun _ => ⟨_, _, rfl, rfl⟩
@[simp] theorem stepIndex_keepsSystem (az : ASize) (r : Reg) (n : Nat) : (stepIndex az r n).KeepsSystem :=
  .quiet fun _ => ⟨_, _, rfl, rfl⟩
theorem repeated_keepsSystem {iter : Act Unit} (h : iter.KeepsSystem) (az : ASize) : (repeated az iter).KeepsSystem :=
  .get fun _ => .ite h <| .ite (.pure _) <| .bind h fun _ => .bind (countDown_keepsSystem _) fun _ =>
    .ite (.upd fun _ => rfl) (.pure _)
theorem repeatedIo_keepsSystem {iter : Act Unit} (h : iter.KeepsSystem) (write : Bool) (az : ASize) :
    (repeatedIo write az iter).KeepsSystem :=
  .get fun _ => .ite (.upd fun _ => rfl) (repeated_keepsSystem h _)
@[simp] theorem movsItem_keepsSystem (az : ASize) (n : Nat) : (movsItem az n).KeepsSystem :=
  .get fun _ => .bind (indexReg_keepsSystem _ _) fun _ => .bind (.before (memRead_keepsSystem _ _ _ _) _) fun _ =>
    .bind (indexReg_keepsSystem _ _) fun _ => .bind (memWrite_keepsSystem _ _ _ _ _) fun _ => .bind (stepIndex_keepsSystem _ _ _)
    fun _ => stepIndex_keepsSystem _ _ _
@[simp] theorem stosItem_keepsSystem (az : ASize) (n : Nat) : (stosItem az n).KeepsSystem :=
  .bind (indexReg_keepsSystem _ _) fun _ => .bind (getReg_keepsSystem _) fun _ => .bind (memWrite_keepsSystem _ _ _ _ _) fun _ =>
    stepIndex_keepsSystem _ _ _
@[simp] theorem insItem_keepsSystem (az : ASize) (n : Nat) : (insItem az n).KeepsSystem :=
  .bind portDx_keepsSystem fun _ => .bind (ioPermit_keepsSystem _ _) fun _ => .bind (indexReg_keepsSystem _ _) fun _ =>
    .bind (segAccess_keepsSystem _ _ _ _ _) fun _ => .bind (getReg_keepsSystem _) fun _ => .bind (ioRead_keepsSystem _ _ _) fun _ =>
    .bind (physWrite_keepsSystem _ _) fun _ => stepIndex_keepsSystem _ _ _
@[simp] theorem outsItem_keepsSystem (az : ASize) (n : Nat) : (outsItem az n).KeepsSystem :=
  .bind portDx_keepsSystem fun _ => .bind (ioPermit_keepsSystem _ _) fun _ => .get fun _ => .bind (indexReg_keepsSystem _ _) fun _ =>
    .bind (memRead_keepsSystem _ _ _ _) fun _ => .bind (getReg_keepsSystem _) fun _ => .bind (ioWrite_keepsSystem _ _ _ _) fun _ =>
    stepIndex_keepsSystem _ _ _

/-! System instructions that any level may run (R423, R425, R427, R434, R435, R439, R443). -/

@[simp] theorem storeTableReg_keepsSystem (sz : OSize) (m : Mem) (t : TableReg) : (storeTableReg sz m t).KeepsSystem := by
  refine .get fun _ => .bind (.before (segAccess_keepsSystem _ _ _ _ _) _) fun _ =>
    .bind (segAccess_keepsSystem _ _ _ _ _) fun _ => ?_
  cases sz with
  | w32 => exact .bind (.pure _) fun _ => .bind (physWrite_keepsSystem _ _) fun _ => physWrite_keepsSystem _ _
  | w16 =>
    exact .bind (.bind drawByte_keepsSystem fun _ => .pure _) fun _ => .bind (physWrite_keepsSystem _ _) fun _ =>
      physWrite_keepsSystem _ _
@[simp] theorem protectedOnly_keepsSystem : protectedOnly.KeepsSystem := .get fun _ => .ite (.raise _) (.pure _)
@[simp] theorem setEdxEax_keepsSystem (hi lo : Word) : (setEdxEax hi lo).KeepsSystem := .quiet fun _ => ⟨_, _, rfl, rfl⟩
@[simp] theorem ifSensitive_keepsSystem : ifSensitive.KeepsSystem := .get fun _ => .check v86Sensitive_keepsSystem

end Sys2Proof.Machine
end

section
/-! SUPPORT, and O56. Outside level 0 every instruction leaves the system registers: those that R420 keeps for level 0 do not get
past their check, a write of the flags keeps IOPL, and the exceptions that are raised change none. -/
namespace Sys2Proof.Machine
open Sys2Proof

/-- Protected mode outside level 0, SMINT kept for level 0 (R420, R460). -/
structure State.Outside (s : State) : Prop where
  pe : s.pe = true
  cpl : s.cpl ≠ 0#2
  smint : s.part.smintCpl0 = true

theorem State.Outside.of_levelView {s t : State} (hs : s.Outside) (h : t.levelView = s.levelView) : t.Outside := by
  have hcr0 : t.cr0 = s.cr0 := congrArg (fun v : SysView × BitVec 2 => v.1.cr0) h
  have hpart : t.part = s.part := congrArg (fun v : SysView × BitVec 2 => v.1.part) h
  have hcpl : t.cpl = s.cpl := congrArg Prod.snd h
  obtain ⟨hpe, hlvl, hsmint⟩ := hs
  exact ⟨by rw [State.pe, hcr0]; exact hpe, hcpl ▸ hlvl, hpart ▸ hsmint⟩

/-- Where `a` answers from a state outside level 0, it leaves the system registers. -/
def Act.SafeOutside {α : Type} (a : Act α) : Prop :=
  ∀ ⦃s t : State⦄ ⦃x : α⦄, s.Outside → a s = .ok x t → t.sysView = s.sysView

section
variable {α β : Type}

theorem Act.Leaves.safe {a : Act α} (h : a.Leaves State.sysView) : a.SafeOutside := fun _ _ _ _ e => h e
theorem Act.KeepsSystem.safe {a : Act α} (h : a.KeepsSystem) : a.SafeOutside := h.sys.safe
/-- First an action that leaves the level too. -/
theorem Act.SafeOutside.after {a : Act α} {f : α → Act β} (ha : a.KeepsSystem) (hf : ∀ x, (f x).SafeOutside) :
    (a >>= f).SafeOutside := fun _ _ _ hs h => by
  obtain ⟨x, u, hau, hfu⟩ := run_bind_ok_iff.1 h
  exact (hf x (hs.of_levelView (ha hau)) hfu).trans (ha.sys hau)
/-- Last an action that leaves the system registers from everywhere. -/
theorem Act.SafeOutside.andThen {a : Act α} {f : α → Act β} (ha : a.SafeOutside) (hf : ∀ x, (f x).Leaves State.sysView) :
    (a >>= f).SafeOutside := fun _ _ _ hs h => by
  obtain ⟨x, u, hau, hfu⟩ := run_bind_ok_iff.1 h
  exact (hf x hfu).trans (ha hs hau)
/-- The state is read first: it is outside level 0. -/
theorem Act.SafeOutside.get {f : State → Act β} (hf : ∀ s : State, s.Outside → (f s).SafeOutside) :
    ((MonadState.get : Act State) >>= f).SafeOutside := fun s _ _ hs h => hf s hs hs h
theorem Act.SafeOutside.ite {c : Prop} [Decidable c] {a b : Act α} (ha : c → a.SafeOutside) (hb : ¬ c → b.SafeOutside) :
    (if c then a else b).SafeOutside := by
  split
  · rename_i h; exact ha h
  · rename_i h; exact hb h
theorem Act.SafeOutside.check {c : Prop} [Decidable c] {e : Exc} {f : α → Act β} {b : Act β} (hb : ¬ c → b.SafeOutside) :
    (if c then Machine.raise e >>= f else b).SafeOutside := .ite (fun _ _ _ _ _ h => nomatch h) hb
theorem Act.SafeOutside.checkRefuse {c : Prop} [Decidable c] {r : Refusal} {f : α → Act β} {b : Act β}
    (hb : ¬ c → b.SafeOutside) : (if c then Machine.refuse r >>= f else b).SafeOutside := .ite (fun _ _ _ _ _ h => nomatch h) hb
end

/-! The checks that nothing outside level 0 passes (R420, R460). -/

section
variable {β : Type} (f : Unit → Act β)

theorem State.Outside.unprivileged {s : State} (hs : s.Outside) : s.unprivileged = true := by
  simp [State.unprivileged, hs.pe, hs.cpl]
theorem State.Outside.not_smmInsnAllowed {s : State} (hs : s.Outside) : s.smmInsnAllowed = false := by
  simp [State.smmInsnAllowed, hs.cpl]
theorem State.Outside.not_smintAllowed {s : State} (hs : s.Outside) : s.smintAllowed = false := by
  simp [State.smintAllowed, hs.cpl, hs.smint]
theorem requireCpl0_safe : (requireCpl0 >>= f).SafeOutside := fun s _ _ hs h => by
  have hgp : requireCpl0 s = .error (.exc (.gp 0#16)) s := congrFun (if_pos hs.unprivileged) s
  rw [run_bind_error _ hgp] at h
  cases h
theorem smmInsn_safe : (smmInsn >>= f).SafeOutside := fun s _ _ hs h => by
  have hud : smmInsn s = .error (.exc .ud) s := congrFun (if_pos (by rw [hs.not_smmInsnAllowed]; rfl)) s
  rw [run_bind_error _ hud] at h
  cases h
theorem debugMoveCheck_safe (n : Bits3) : (debugMoveCheck n >>= f).SafeOutside := fun _ _ _ hs h => by
  obtain ⟨_, _, hcheck, -⟩ := run_bind_ok_iff.1 h
  obtain ⟨_, _, hcpl, -⟩ := run_bind_ok_iff.1 hcheck
  exact nomatch (congrFun (if_pos hs.unprivileged) _).symm.trans hcpl
end

/-! Returning from an exception or interrupt (R338 to R340): IOPL stays, and V86 mode is entered at level 0 only. -/

theorem writeFlags_safe (w : Word) (sz : OSize) (isIret : Bool) : (writeFlags w sz isIret).SafeOutside := fun s t _ hs h => by
  have hiopl : (s.writtenFlags w sz isIret).iopl = s.flags.iopl := if_neg (by simp [hs.pe, hs.cpl])
  cases h
  simp only [State.sysView, hiopl]
theorem checkReturnSel_keepsSystem (sel : Word16) (off : Word) : (checkReturnSel sel off).KeepsSystem :=
  .get fun _ => .check <| .check <| .bind (readDesc_keepsSystem _ _) fun ⟨_, _⟩ => .check <| .check <| .check <| .check <|
    .check <| .pure _
theorem outerReturn_safe (sz : OSize) (sel : Word16) (off a : Word) (d : BitVec 64) (k extra : Nat) (fl : Option Word) :
    (outerReturn sz sel off a d k extra fl).SafeOutside := by
  refine .get fun s _ => .after (.before (memRead_keepsSystem _ _ _ _) _) fun _ => .after (memRead_keepsSystem _ _ _ _)
    fun _ => .after (checkStackSel_keepsSystem _ _ _ _ _) fun ⟨_, _⟩ => .after (markAccessed_keepsSystem _ _) fun _ =>
    .after (markAccessed_keepsSystem _ _) fun _ => ?_
  cases fl with
  | none => exact Act.Leaves.safe (.upd fun _ => rfl)
  | some w => exact .andThen (writeFlags_safe _ _ _) fun _ => .upd fun _ => rfl
theorem realReturn_safe (sz : OSize) : (realReturn sz).SafeOutside :=
  .after (peekItem_keepsSystem _ _ _) fun _ => .after (peekItem_keepsSystem _ _ _) fun _ => .after (peekItem_keepsSystem _ _ _)
    fun _ => .get fun _ _ => .check fun _ => .after (dropStack_keepsSystem _ _ _) fun _ => .after (.upd fun _ => rfl) fun _ =>
    writeFlags_safe _ _ _
theorem protReturn_safe (sz : OSize) : (protReturn sz).SafeOutside := by
  refine .get fun _ _ => .checkRefuse fun _ => .after (peekItem_keepsSystem _ _ _) fun _ => .after (peekItem_keepsSystem _ _ _)
    fun _ => .after (peekItem_keepsSystem _ _ _) fun fl => .get fun s hs => .ite (fun hv86 => ?toV86) fun _ =>
    .after (checkReturnSel_keepsSystem _ _) fun ⟨_, _⟩ => .ite (fun _ => ?sameLevel) fun _ => outerReturn_safe _ _ _ _ _ _ _ _
  case toV86 => exact absurd hv86 (by simp [hs.cpl])
  case sameLevel =>
    exact .after (markAccessed_keepsSystem _ _) fun _ => .after (dropStack_keepsSystem _ _ _) fun _ =>
      .after (.upd fun _ => rfl) fun _ => writeFlags_safe _ _ _
theorem interruptReturn_safe (sz : OSize) : (interruptReturn sz).SafeOutside := by
  have hend : ∀ _ : Unit, (transferred >>= fun _ => upd fun s => { s with nmiBlocked := false }).Leaves State.sysView :=
    fun _ => .bind transferred_keepsSystem.sys fun _ => .upd fun _ => rfl
  exact .get fun _ _ => .check fun _ => .ite (fun _ => .andThen (realReturn_safe _) hend) fun _ => .andThen (protReturn_safe _) hend
theorem retFar_safe (sz : OSize) (n : Word16) : (retFar sz n).SafeOutside :=
  .after (peekItem_keepsSystem _ _ _) fun _ => .after (peekItem_keepsSystem _ _ _) fun _ => .get fun _ _ => .ite
    (fun _ => .check fun _ => .after (dropStack_keepsSystem _ _ _) fun _ => .after (.upd fun _ => rfl) fun _ =>
      transferred_keepsSystem.safe)
    (fun _ => .after (checkReturnSel_keepsSystem _ _) fun ⟨_, _⟩ => .ite
      (fun _ => .after (markAccessed_keepsSystem _ _) fun _ => .after (dropStack_keepsSystem _ _ _) fun _ =>
        .after (.upd fun _ => rfl) fun _ => transferred_keepsSystem.safe)
      (fun _ => .andThen (outerReturn_safe _ _ _ _ _ _ _ _) fun _ => transferred_keepsSystem.sys))
theorem softInt_leaves (n : Byte) : (softInt n).Leaves State.sysView := .get fun _ => deliver_leaves _ _ _ _ _

/-! Outcomes: what a step may end in. -/

/-- Outcome `o`, where it is a next state, has system registers `v`. -/
def sysOutcome (v : SysView) (o : Host.Outcome State Fault Refusal) : Prop := ∀ ⦃t⦄, o = .next t → t.sysView = v

theorem sysOutcome.mapNext {v : SysView} {o : Host.Outcome State Fault Refusal} (h : sysOutcome v o) {f : State → State}
    (hf : ∀ s, (f s).sysView = s.sysView) : sysOutcome v (mapNext f o) := fun t e => by
  cases o with
  | next s =>
    cases e
    exact (hf s).trans (h rfl)
  | fault x => cases e
  | refused r => cases e
/-- An event with its consequences (R491): a handler, or shutdown. -/
theorem deliverAll_sys (fuel : Nat) (kind : Kind) (n : Byte) (e : Word) (c : Option Word16) (fault : Bool) (s : State) :
    sysOutcome s.sysView (deliverAll fuel kind n e c fault s) := by
  induction fuel generalizing kind n c fault s with
  | zero => exact fun _ h => nomatch h
  | succ k ih =>
    intro t ht
    cases hd : deliver kind n e c fault s with
    | ok x u =>
      rw [deliverAll_ok hd] at ht
      cases ht
      exact deliver_leaves _ _ _ _ _ hd
    | error y u =>
      cases y with
      | refuse r =>
        have hrun : (deliver kind n e c fault).run s = .error (.refuse r) u := hd
        rw [deliverAll, hrun] at ht
        cases ht
      | exc y =>
        cases hx : second kind n y with
        | none =>
          rw [deliverAll_shutdown hd hx] at ht
          cases ht
          rfl
        | some z =>
          rw [deliverAll_second hd hx] at ht
          exact ih _ _ _ _ (rollback s u) ht
theorem deliverFault_sys (x : Exc) (s : State) : sysOutcome s.sysView (deliverFault x s) := by
  unfold deliverFault
  split
  · exact (deliverAll_sys _ _ _ _ _ _ _).mapNext fun _ => rfl
  · exact (deliverAll_sys _ _ _ _ _ _ _).mapNext fun _ => rfl
/-- An instruction whose meaning is safe: it completes, or its exception is delivered from the state before it. -/
theorem runInstr_sys {s : State} (hs : s.Outside) {a : Act Unit} (ha : a.SafeOutside) : sysOutcome s.sysView (runInstr a s) := by
  intro t ht
  obtain h | ⟨x, u, -, h⟩ := runInstr_next ht
  · exact ha hs h
  · exact deliverFault_sys x (rollback s u) h
/-- WAIT with a second instruction: both in one step, or the step ends after WAIT. -/
theorem waitThen_sys {s : State} (hs : s.Outside) {part : Act Unit} (hp : part.KeepsSystem) :
    sysOutcome s.sysView (waitThen part s) := by
  unfold waitThen
  split
  · rename_i u s1 h
    have hview : s1.levelView = s.levelView := waitCheck_keepsSystem h
    rw [← show s1.sysView = s.sysView from congrArg Prod.fst hview]
    split
    · obtain ⟨hpe, hcpl, hsmint⟩ := hs.of_levelView hview
      exact runInstr_sys (by exact ⟨hpe, hcpl, hsmint⟩) hp.safe
    · intro t ht
      cases ht
      rfl
  · exact runInstr_sys hs waitCheck_keepsSystem.safe

/-! All instructions. -/

theorem execXchgAx_sys {s : State} (hs : s.Outside) (sz : OSize) (r : Reg) : sysOutcome s.sysView (execXchgAx sz r s) :=
  runInstr_sys hs <| Act.KeepsSystem.safe <| .bind (getRegV_keepsSystem _ _) fun _ => .bind (getRegV_keepsSystem _ _) fun _ =>
    .bind (setRegN_keepsSystem _ _) fun _ => setRegN_keepsSystem _ _
/-- Every instruction outside level 0. -/
theorem exec_sys {s : State} (hs : s.Outside) (i : Instr) : sysOutcome s.sysView (exec i s) := by
  have safe {a : Act Unit} (ha : a.SafeOutside) : sysOutcome s.sysView (runInstr a s) := runInstr_sys hs ha
  have keeps {a : Act Unit} (ha : a.KeepsSystem) : sysOutcome s.sysView (runInstr a s) := safe ha.safe
  cases i with
  -- Prefixes.
  | segEs | segCs | segSs | segDs | segFs | segGs | opsize | adsize | lock | repne | rep =>
    dsimp only [exec]
    exact keeps (readPfx_keepsSystem _)
  -- Arithmetic, logic, bits and shifts.
  | addEbGb d r | orEbGb d r | adcEbGb d r | sbbEbGb d r | andEbGb d r | subEbGb d r | xorEbGb d r =>
    exact keeps (aluEbGb_keepsSystem (by simp) d r)
  | addEvGv sz d r | orEvGv sz d r | adcEvGv sz d r | sbbEvGv sz d r | andEvGv sz d r | subEvGv sz d r
    | xorEvGv sz d r =>
    exact keeps (aluEvGv_keepsSystem (by simp) d r)
  | addGbEb r d | orGbEb r d | adcGbEb r d | sbbGbEb r d | andGbEb r d | subGbEb r d | xorGbEb r d =>
    exact keeps (aluGbEb_keepsSystem (by simp) r d)
  | addGvEv sz r d | orGvEv sz r d | adcGvEv sz r d | sbbGvEv sz r d | andGvEv sz r d | subGvEv sz r d
    | xorGvEv sz r d =>
    exact keeps (aluGvEv_keepsSystem (by simp) r d)
  | addAlIb k | orAlIb k | adcAlIb k | sbbAlIb k | andAlIb k | subAlIb k | xorAlIb k =>
    dsimp only [exec]
    exact keeps (aluAlIb_keepsSystem (by simp) k)
  | addAxIv k | orAxIv k | adcAxIv k | sbbAxIv k | andAxIv k | subAxIv k | xorAxIv k =>
    dsimp only [exec]
    exact keeps (aluAxIv_keepsSystem (i := k) (by simp))
  | addEbIb d k | orEbIb d k | adcEbIb d k | sbbEbIb d k | andEbIb d k | subEbIb d k | xorEbIb d k =>
    exact keeps (aluEbIb_keepsSystem (by simp) d k)
  | addEvIv d k | orEvIv d k | adcEvIv d k | sbbEvIv d k | andEvIv d k | subEvIv d k | xorEvIv d k =>
    dsimp only [exec]
    exact keeps (aluEvIv_keepsSystem (by simp) d)
  | addEvIbs sz d k | orEvIbs sz d k | adcEvIbs sz d k | sbbEvIbs sz d k | andEvIbs sz d k | subEvIbs sz d k
    | xorEvIbs sz d k =>
    exact keeps (aluEvIbs_keepsSystem (by simp) d k)
  | incR sz r | decR sz r =>
    dsimp only [exec]
    exact keeps (rmwV_keepsSystem (by simp) (.reg r))
  | incEb d | decEb d | negEb d | notEb d => exact keeps (rmw8_keepsSystem (by simp) d)
  | incEv sz d | decEv sz d | negEv sz d | notEv sz d => exact keeps (rmwV_keepsSystem (by simp) d)
  | btsEvGv sz d r | btrEvGv sz d r | btcEvGv sz d r => exact keeps (bitReg_keepsSystem _ sz d r)
  | btsEvIb sz d k | btrEvIb sz d k | btcEvIb sz d k => exact keeps (bitImm_keepsSystem _ sz d k)
  | rolEbCl d | rorEbCl d | rclEbCl d | rcrEbCl d | shlEbCl d | shrEbCl d | sarEbCl d =>
    exact keeps (shiftEb_keepsSystem _ d)
  | rolEvCl sz d | rorEvCl sz d | rclEvCl sz d | rcrEvCl sz d | shlEvCl sz d | shrEvCl sz d | sarEvCl sz d =>
    exact keeps (shiftEv_keepsSystem _ sz d)
  | xaddEbGb d r =>
    exact keeps <| .bind (locate8_keepsSystem _ _) fun _ => .bind (readPlace_keepsSystem _ _) fun _ => .bind
      (getReg8_keepsSystem _) fun _ => .bind (addA_keepsSystem _ _) fun _ => .bind (setReg8_keepsSystem _ _) fun _ =>
      writePlace_keepsSystem _ _
  | xaddEvGv sz d r =>
    exact keeps <| .bind (locateV_keepsSystem _ _ _) fun _ => .bind (readPlace_keepsSystem _ _) fun _ => .bind
      (getRegV_keepsSystem _ _) fun _ => .bind (addA_keepsSystem _ _) fun _ => .bind (setRegN_keepsSystem _ _) fun _ =>
      writePlace_keepsSystem _ _
  | cmpxchgEbGb d r =>
    exact keeps <| .bind (locate8_keepsSystem _ _) fun _ => .bind (readPlace_keepsSystem _ _) fun _ => .bind
      (getReg8_keepsSystem _) fun _ => .bind (subA_keepsSystem _ _) fun _ => .ite (.bind (getReg8_keepsSystem _) fun _ =>
      writePlace_keepsSystem _ _) (.bind (writePlace_keepsSystem _ _) fun _ => setReg8_keepsSystem _ _)
  | cmpxchgEvGv sz d r =>
    exact keeps <| .bind (locateV_keepsSystem _ _ _) fun _ => .bind (readPlace_keepsSystem _ _) fun _ => .bind
      (getRegV_keepsSystem _ _) fun _ => .bind (subA_keepsSystem _ _) fun _ => .ite (.bind (getRegV_keepsSystem _ _) fun _
      => writePlace_keepsSystem _ _) (.bind (writePlace_keepsSystem _ _) fun _ => setRegN_keepsSystem _ _)
  | mulEb d =>
    exact keeps <| .bind (readRM8_keepsSystem _) fun _ => .bind (getReg8_keepsSystem _) fun _ => .bind (setRegN_keepsSystem
      _ _) fun _ => mulFlagsA_keepsSystem _
  | mulEv sz d =>
    exact keeps <| .bind (readRMv_keepsSystem _ _) fun _ => .bind (getRegV_keepsSystem _ _) fun _ => .bind
      (setProduct_keepsSystem _) fun _ => mulFlagsA_keepsSystem _
  | imulEb d =>
    exact keeps <| .bind (readRM8_keepsSystem _) fun _ => .bind (getReg8_keepsSystem _) fun _ => .bind (setRegN_keepsSystem
      _ _) fun _ => mulFlagsA_keepsSystem _
  | imulEv sz d =>
    exact keeps <| .bind (readRMv_keepsSystem _ _) fun _ => .bind (getRegV_keepsSystem _ _) fun _ => .bind
      (setProduct_keepsSystem _) fun _ => mulFlagsA_keepsSystem _
  | divEb d =>
    exact keeps <| .bind (readRM8_keepsSystem _) fun _ => .bind getAx_keepsSystem fun _ => setDiv8_keepsSystem _
  | divEv sz d =>
    exact keeps <| .bind (readRMv_keepsSystem _ _) fun _ => .bind (getDividend_keepsSystem _) fun _ => setDivV_keepsSystem _
  | idivEb d =>
    exact keeps <| .bind (readRM8_keepsSystem _) fun _ => .bind getAx_keepsSystem fun _ => setDiv8_keepsSystem _
  | idivEv sz d =>
    exact keeps <| .bind (readRMv_keepsSystem _ _) fun _ => .bind (getDividend_keepsSystem _) fun _ => setDivV_keepsSystem _
  -- Data transfer and the stack.
  | pushEs sz | pushCs sz | pushSs sz | pushDs sz | pushFs sz | pushGs sz => exact keeps (pushSeg_keepsSystem sz _)
  | popEs sz | popSs sz | popDs sz | popFs sz | popGs sz => exact keeps (popSeg_keepsSystem sz _)
  | pushIv k => exact keeps (push_keepsSystem _ _)
  | pushIbs sz k => exact keeps (push_keepsSystem _ _)
  | movRIb r k => exact keeps (setReg8_keepsSystem r k)
  | movRIv r k => exact keeps (setRegN_keepsSystem r _)
  | movEbIb d k => exact keeps (writeRM8_keepsSystem d k)
  | movEvIv d k => exact keeps (writeRMv_keepsSystem _ d _)
  | nop =>
    dsimp only [exec]
    exact keeps (.pure _)
  | movEbGb d r =>
    exact keeps <| .bind (getReg8_keepsSystem _) fun _ => writeRM8_keepsSystem _ _
  | movEvGv sz d r =>
    exact keeps <| .bind (getRegV_keepsSystem _ _) fun _ => writeRMv_keepsSystem _ _ _
  | movGbEb d r =>
    exact keeps <| .bind (readRM8_keepsSystem _) fun _ => setReg8_keepsSystem _ _
  | movGvEv sz d r =>
    exact keeps <| .bind (readRMv_keepsSystem _ _) fun _ => setRegN_keepsSystem _ _
  | movAlOb o =>
    exact keeps <| .bind (locateMoffs_keepsSystem _ _ _) fun _ => .bind (readPlace_keepsSystem _ _) fun _ =>
      setReg8_keepsSystem _ _
  | movAxOv sz o =>
    exact keeps <| .bind (locateMoffs_keepsSystem _ _ _) fun _ => .bind (readPlace_keepsSystem _ _) fun _ =>
      setRegN_keepsSystem _ _
  | movObAl o =>
    exact keeps <| .bind (locateMoffs_keepsSystem _ _ _) fun _ => .bind (getReg8_keepsSystem _) fun _ =>
      writePlace_keepsSystem _ _
  | movOvAx sz o =>
    exact keeps <| .bind (locateMoffs_keepsSystem _ _ _) fun _ => .bind (getRegV_keepsSystem _ _) fun _ =>
      writePlace_keepsSystem _ _
  | movEwSw sz d r =>
    exact keeps <| .get fun _ => storeSel_keepsSystem _ _ _
  | movSwEw d r =>
    exact keeps <| .bind (readRM16_keepsSystem _) fun _ => .bind (loadSeg_keepsSystem _ _) fun _ => shadowIfSs_keepsSystem _
  | pushR sz r =>
    exact keeps <| .bind (getReg_keepsSystem _) fun _ => push_keepsSystem _ _
  | pushEv sz d =>
    exact keeps <| .get fun _ => .bind (.before (readRMv_keepsSystem _ _) _) fun _ => push_keepsSystem _ _
  | popR sz r =>
    exact keeps <| .bind (pop_keepsSystem _) fun _ => setRegN_keepsSystem _ _
  | popEv sz d =>
    exact keeps <| .get fun _ => .bind (.before (peekStack_keepsSystem _ _) _) fun _ => .bind (dropStack_keepsSystem _ _ _)
      fun _ => writeRMv_keepsSystem _ _ _
  | pusha sz =>
    exact keeps <| .get fun _ => pushMany_keepsSystem _ _
  | popa sz =>
    exact keeps <| .bind (peekItem_keepsSystem _ _ _) fun _ => .bind (peekItem_keepsSystem _ _ _) fun _ => .bind
      (peekItem_keepsSystem _ _ _) fun _ => .bind (peekItem_keepsSystem _ _ _) fun _ => .bind (peekItem_keepsSystem _ _ _)
      fun _ => .bind (peekItem_keepsSystem _ _ _) fun _ => .bind (peekItem_keepsSystem _ _ _) fun _ => .bind
      (peekItem_keepsSystem _ _ _) fun _ => .bind (dropStack_keepsSystem _ _ _) fun _ => .bind (setRegN_keepsSystem _ _)
      fun _ => .bind (setRegN_keepsSystem _ _) fun _ => .bind (setRegN_keepsSystem _ _) fun _ => .bind (setRegN_keepsSystem
      _ _) fun _ => .bind (setRegN_keepsSystem _ _) fun _ => .bind (setRegN_keepsSystem _ _) fun _ => setRegN_keepsSystem _
      _
  | pushf sz =>
    exact keeps <| .bind v86Sensitive_keepsSystem fun _ => .bind getFlags_keepsSystem fun _ => push_keepsSystem _ _
  | popf sz =>
    exact safe <| .after v86Sensitive_keepsSystem fun _ => .after (pop_keepsSystem _) fun _ => writeFlags_safe _ _ _
  | xchgEbGb d r =>
    exact keeps <| .bind (locate8_keepsSystem _ _) fun _ => .get fun _ => .bind (readPlace_keepsSystem _ _) fun _ => .bind
      (getReg8_keepsSystem _) fun _ => .bind (writePlace_keepsSystem _ _) fun _ => setReg8_keepsSystem _ _
  | xchgEvGv sz d r =>
    exact keeps <| .bind (locateV_keepsSystem _ _ _) fun _ => .get fun _ => .bind (readPlace_keepsSystem _ _) fun _ =>
      .bind (getRegV_keepsSystem _ _) fun _ => .bind (writePlace_keepsSystem _ _) fun _ => setRegN_keepsSystem _ _
  | xchgAx sz r => exact execXchgAx_sys hs sz r
  | xlat az =>
    exact keeps <| .get fun _ => .bind (memRead_keepsSystem _ _ _ _) fun _ => setReg8_keepsSystem _ _
  -- Control transfer.
  | jmpPtr p => exact keeps (jumpFar_keepsSystem _ _)
  | callPtr p => exact keeps (callFar_keepsSystem _ _ _)
  | ret sz => exact keeps (retNear_keepsSystem sz _)
  | retIw sz n => exact keeps (retNear_keepsSystem sz n)
  | retf sz => exact safe (retFar_safe sz _)
  | retfIw sz n => exact safe (retFar_safe sz n)
  | iret sz => exact safe (interruptReturn_safe sz)
  | int3 => exact safe (softInt_leaves 3#8).safe
  | loop sz az k | loope sz az k | loopne sz az k => exact keeps (loopIf_keepsSystem sz az k _)
  | jmpRel8 sz k =>
    exact keeps <| .bind (relTarget_keepsSystem _) fun _ => jumpNear_keepsSystem _ _
  | jmpRel k =>
    exact keeps <| .bind (relTarget_keepsSystem _) fun _ => jumpNear_keepsSystem _ _
  | jmpEv sz d =>
    exact keeps <| .bind (readRMv_keepsSystem _ _) fun _ => jumpNear_keepsSystem _ _
  | jmpMp sz m =>
    exact keeps <| .bind (readFarPtr_keepsSystem _ _ _) fun _ => jumpFar_keepsSystem _ _
  | callRel k =>
    exact keeps <| .bind (relTarget_keepsSystem _) fun _ => callNear_keepsSystem _ _
  | callEv sz d =>
    exact keeps <| .get fun _ => .bind (.before (readRMv_keepsSystem _ _) _) fun _ => callNear_keepsSystem _ _
  | callMp sz m =>
    exact keeps <| .get fun _ => .bind (readFarPtr_keepsSystem _ _ _) fun _ => callFar_keepsSystem _ _ _
  | intN n =>
    exact safe <| .after v86Sensitive_keepsSystem fun _ => (softInt_leaves n).safe
  | into =>
    exact safe <| .after getFlags_keepsSystem fun _ => .ite (fun _ => (softInt_leaves _).safe) fun _ =>
      Act.KeepsSystem.safe (.pure _)
  | bound sz r m =>
    exact keeps <| .get fun _ => .bind (.before (memRead_keepsSystem _ _ _ _) _) fun _ => .bind (memRead_keepsSystem _ _ _
      _) fun _ => .bind (getRegV_keepsSystem _ _) fun _ => .ite (.raise _) (.pure _)
  -- Floating point and MMX.
  | wait => exact keeps waitCheck_keepsSystem
  | fnsave sz m => exact keeps (fnsave_keepsSystem sz m)
  | fnstenv sz m => exact keeps (fnstenv_keepsSystem sz m)
  | frstor sz m => exact keeps (frstor_keepsSystem sz m)
  | fsave sz m => exact waitThen_sys hs (fnsave_keepsSystem sz m)
  | fstenv sz m => exact waitThen_sys hs (fnstenv_keepsSystem sz m)
  | esc op ext rm =>
    exact keeps <| .bind escAvailable_keepsSystem fun _ => .ite (.bind pendingError_keepsSystem fun _ => .refuse _)
      (.refuse _)
  | emms =>
    exact keeps <| .bind mmxAvailable_keepsSystem fun _ => mmxDone_keepsSystem _
  | movdPE d r =>
    exact keeps <| .bind mmxAvailable_keepsSystem fun _ => .bind (readRM32_keepsSystem _) fun _ => .bind (setMm_keepsSystem
      _ _) fun _ => mmxDone_keepsSystem _
  | movdEP d r =>
    exact keeps <| .bind mmxAvailable_keepsSystem fun _ => .bind (locateN_keepsSystem _ _ _) fun _ => .bind
      (getMm_keepsSystem _) fun _ => .bind (writePlace_keepsSystem _ _) fun _ => mmxDone_keepsSystem _
  | movqPQ d r =>
    exact keeps <| .bind mmxAvailable_keepsSystem fun _ => .bind (readMm64_keepsSystem _) fun _ => .bind (setMm_keepsSystem
      _ _) fun _ => mmxDone_keepsSystem _
  | movqQP d r =>
    exact keeps <| .bind mmxAvailable_keepsSystem fun _ => .bind (getMm_keepsSystem _) fun _ => .bind
      (writeMm64_keepsSystem _ _) fun _ => mmxDone_keepsSystem _
  -- Input, output and strings.
  | insb az => exact keeps (repeatedIo_keepsSystem (insItem_keepsSystem az _) _ az)
  | insv sz az => exact keeps (repeatedIo_keepsSystem (insItem_keepsSystem az _) _ az)
  | outsb az => exact keeps (repeatedIo_keepsSystem (outsItem_keepsSystem az _) _ az)
  | outsv sz az => exact keeps (repeatedIo_keepsSystem (outsItem_keepsSystem az _) _ az)
  | movsb az => exact keeps (repeated_keepsSystem (movsItem_keepsSystem az _) az)
  | movsv sz az => exact keeps (repeated_keepsSystem (movsItem_keepsSystem az _) az)
  | stosb az => exact keeps (repeated_keepsSystem (stosItem_keepsSystem az _) az)
  | stosv sz az => exact keeps (repeated_keepsSystem (stosItem_keepsSystem az _) az)
  | inAlIb p =>
    exact keeps <| .bind (inPort_keepsSystem _ _) fun _ => setReg8_keepsSystem _ _
  | inAxIb sz p =>
    exact keeps <| .bind (inPort_keepsSystem _ _) fun _ => setRegN_keepsSystem _ _
  | outIbAl p =>
    exact keeps <| .bind (getReg8_keepsSystem _) fun _ => outPort_keepsSystem _ _ _
  | outIbAx sz p =>
    exact keeps <| .bind (getReg_keepsSystem _) fun _ => outPort_keepsSystem _ _ _
  | inAlDx =>
    exact keeps <| .bind portDx_keepsSystem fun _ => .bind (inPort_keepsSystem _ _) fun _ => setReg8_keepsSystem _ _
  | inAxDx sz =>
    exact keeps <| .bind portDx_keepsSystem fun _ => .bind (inPort_keepsSystem _ _) fun _ => setRegN_keepsSystem _ _
  | outDxAl =>
    exact keeps <| .bind portDx_keepsSystem fun _ => .bind (getReg8_keepsSystem _) fun _ => outPort_keepsSystem _ _ _
  | outDxAx sz =>
    exact keeps <| .bind portDx_keepsSystem fun _ => .bind (getReg_keepsSystem _) fun _ => outPort_keepsSystem _ _ _
  -- The system and System Management Mode.
  | sgdt sz m =>
    exact keeps <| .get fun _ => storeTableReg_keepsSystem _ _ _
  | sidt sz m =>
    exact keeps <| .get fun _ => storeTableReg_keepsSystem _ _ _
  | lldt r =>
    exact safe <| .after protectedOnly_keepsSystem fun _ => requireCpl0_safe _
  | sldt sz d =>
    exact keeps <| .bind protectedOnly_keepsSystem fun _ => .get fun _ => storeSel_keepsSystem _ _ _
  | ltr r =>
    exact safe <| .after protectedOnly_keepsSystem fun _ => requireCpl0_safe _
  | str sz d =>
    exact keeps <| .bind protectedOnly_keepsSystem fun _ => .get fun _ => storeSel_keepsSystem _ _ _
  | rdtsc =>
    exact keeps <| .get fun _ => .check <| setEdxEax_keepsSystem _ _
  | rdpmc =>
    exact keeps <| .get fun _ => .check <| .ite (setEdxEax_keepsSystem _ _) <| .ite (setEdxEax_keepsSystem _ _) (.raise _)
  | cli =>
    exact keeps <| .bind ifSensitive_keepsSystem fun _ => .upd fun _ => rfl
  | sti =>
    exact keeps <| .bind ifSensitive_keepsSystem fun _ => .upd fun _ => rfl
  | cpuid =>
    exact keeps <| .get fun _ => .check <| .bind (setReg_keepsSystem _ _) fun _ => .bind (setReg_keepsSystem _ _) fun _ =>
      .bind (setReg_keepsSystem _ _) fun _ => setReg_keepsSystem _ _
  | smint =>
    exact safe <| .get fun _ ht => .check fun h => absurd ht.not_smintAllowed (by simpa using h)
  -- Kept for level 0 (R420, R460).
  | lgdt sz m | lidt sz m | invlpg m | invd | wbinvd | movRCr r n | movCrR n r | movRTr r n | movTrR n r | rdmsr
    | wrmsr | hlt =>
    exact safe (requireCpl0_safe _)
  | movRDr r n | movDrR n r =>
    exact safe (debugMoveCheck_safe _ _)
  | svdc m r | rsdc d m | svldt m | rsldt m | svts m | rsts m | rsm | rdshr d | wrshr r =>
    exact safe (smmInsn_safe _)

/-- Settles O56: each register is part of the view that every instruction leaves outside level 0. -/
theorem userCannotChange : Obligations.UserCannotChange := by
  intro i s t hpe hcpl hsmint h
  have hview : t.sysView = s.sysView := exec_sys ⟨hpe, hcpl, hsmint⟩ i h
  simp only [State.sysView, SysView.mk.injEq] at hview
  obtain ⟨hcr0, hcr3, hcr4, hgdtr, hidtr, hldtr, hinvalid, htr, htest, hdr0, hdr1, hdr2, hdr3, htsc, hcesr, hpmc0, hpmc1, hiopl,
    hsmm, -⟩ := hview
  exact ⟨hcr0, hcr3, hcr4, hgdtr, hidtr, hldtr, hinvalid, htr, htest, hdr0, hdr1, hdr2, hdr3, htsc, hcesr, hpmc0, hpmc1, hiopl, hsmm⟩

end Sys2Proof.Machine
end

section
/-! SUPPORT, and O42. Where an instruction is not allowed (R420, R528, R530, R531): its first check raises #GP(0). -/
namespace Sys2Proof.Machine
open Sys2Proof

section
variable {s : State}

/-- Outside level 0, and in V86 mode, the check of R420 fails. -/
theorem requireCpl0_gp (h : s.unprivileged = true) : requireCpl0 s = .error (.exc (.gp 0#16)) s := congrFun (if_pos h) s
theorem debugMoveCheck_gp (h : s.unprivileged = true) (n : Bits3) : debugMoveCheck n s = .error (.exc (.gp 0#16)) s :=
  run_bind_error _ (requireCpl0_gp h)
theorem protectedOnly_ok (h : s.realLike = false) : protectedOnly s = .ok () s := congrFun (if_neg (by simp [h])) s
theorem protectedOnly_ud (h : s.realLike = true) : protectedOnly s = .error (.exc .ud) s := congrFun (if_pos h) s
/-- In V86 mode with IOPL below 3 (R531). -/
theorem v86Sensitive_gp (hv86 : s.v86 = true) (hiopl : s.flags.iopl ≠ 3#2) : v86Sensitive s = .error (.exc (.gp 0#16)) s :=
  congrFun (if_pos (by simp [hv86, hiopl])) s
/-- Above IOPL in protected mode (R530). -/
theorem ifSensitive_gp (hpe : s.pe = true) (hvm : s.flags.vm = false) (hiopl : s.flags.iopl < s.cpl) :
    ifSensitive s = .error (.exc (.gp 0#16)) s :=
  (run_bind_ok _ (run_get s)).trans (run_check_raise (by simp [hpe, hvm, hiopl]))
theorem ifSensitive_v86 (hv86 : s.v86 = true) (hiopl : s.flags.iopl ≠ 3#2) :
    ifSensitive s = .error (.exc (.gp 0#16)) s := by
  have hvm : s.flags.vm = true := (Bool.and_eq_true_iff.1 hv86).2
  exact (run_bind_ok _ (run_get s)).trans <| (run_check_pass (by simp [hvm])).trans (v86Sensitive_gp hv86 hiopl)
theorem ifSensitive_ok
    (h : s.pe = false ∨ s.flags.vm = false ∧ s.cpl ≤ s.flags.iopl ∨ s.flags.vm = true ∧ s.flags.iopl = 3#2) :
    ifSensitive s = .ok () s := by
  have hpass : ¬ (s.pe && !s.flags.vm && decide (s.flags.iopl < s.cpl)) = true ∧ (s.v86 = false ∨ s.flags.iopl = 3#2) := by
    rcases h with hpe | ⟨hvm, hle⟩ | ⟨hvm, hiopl⟩
    · simp [State.v86, hpe]
    · simp [State.v86, hvm, hle]
    · simp [hvm, hiopl]
  exact (run_bind_ok _ (run_get s)).trans <| (run_check_pass hpass.1).trans (v86Sensitive_ok hpass.2)
theorem interruptReturn_v86 (hv86 : s.v86 = true) (hiopl : s.flags.iopl ≠ 3#2) (sz : OSize) :
    interruptReturn sz s = .error (.exc (.gp 0#16)) s :=
  (run_bind_ok _ (run_get s)).trans (run_check_raise (by simp [hv86, hiopl]))
end

/-- Settles O42. -/
theorem privilegeTraps : Obligations.PrivilegeTraps := by
  intro s sz m r n e v gp
  refine ⟨fun h i hi => ?privileged, fun h hreal => ?tables, fun hpe hvm hiopl => ?flag, fun hv86 hiopl i hi => ?v86⟩
  case privileged =>
    have hcpl := requireCpl0_gp h
    have hdebug := debugMoveCheck_gp h n
    simp only [List.mem_cons, List.not_mem_nil, or_false] at hi
    rcases hi with rfl | rfl | rfl | rfl | rfl | rfl | rfl | rfl | rfl | rfl | rfl | rfl | rfl | rfl
    case inr.inr.inr.inr.inr.inr.inr.inl | inr.inr.inr.inr.inr.inr.inr.inr.inl => exact runInstr_exc (run_bind_error _ hdebug)
    all_goals exact runInstr_exc (run_bind_error _ hcpl)
  case tables =>
    have hcheck {f : Unit → Act Unit} : (protectedOnly >>= fun _ => requireCpl0 >>= f) s = .error (.exc (.gp 0#16)) s :=
      (run_bind_ok _ (protectedOnly_ok hreal)).trans (run_bind_error _ (requireCpl0_gp h))
    exact ⟨runInstr_exc hcheck, runInstr_exc hcheck⟩
  case flag =>
    have hcheck := ifSensitive_gp hpe hvm hiopl
    exact ⟨runInstr_exc (run_bind_error _ hcheck), runInstr_exc (run_bind_error _ hcheck)⟩
  case v86 =>
    have hsens := v86Sensitive_gp hv86 hiopl
    have hif := ifSensitive_v86 hv86 hiopl
    simp only [List.mem_cons, List.not_mem_nil, or_false] at hi
    rcases hi with rfl | rfl | rfl | rfl | rfl | rfl
    · exact runInstr_exc (run_bind_error _ hsens)
    · exact runInstr_exc (run_bind_error _ hsens)
    · exact runInstr_exc (interruptReturn_v86 hv86 hiopl sz)
    · exact runInstr_exc (run_bind_error _ hsens)
    · exact runInstr_exc (run_bind_error _ hif)
    · exact runInstr_exc (run_bind_error _ hif)

end Sys2Proof.Machine
end

section
/-! SUPPORT, and O36. The descriptor table registers (R421 to R423, R434). -/
namespace Sys2Proof.Machine
open Sys2Proof

section
variable {sz : OSize} {m : Mem} {s s1 s2 : State}

/-- The base that an operand of 16 bits loads is 24 bits of the one read (R421). -/
theorem and_low24 (b : Nat) : BitVec.ofNat 32 b &&& 0x00FFFFFF#32 = BitVec.ofNat 32 (b % 2 ^ 24) := by
  refine BitVec.eq_of_toNat_eq ?_
  rw [BitVec.toNat_and, BitVec.toNat_ofNat, BitVec.toNat_ofNat,
    show 0x00FFFFFF % 2 ^ 32 = 2 ^ 24 - 1 from rfl, Nat.and_two_pow_sub_one_eq_mod, BitVec.toNat_ofNat]
  omega

theorem readTableReg_ok {lim b : Nat} (h1 : memRead (s.dataSeg (defaultSeg m)) (effAddr s.regs m) 2 2 s = .ok lim s1)
    (h2 : memRead (s.dataSeg (defaultSeg m)) (effAddr s.regs m + 2#32) 4 4 s1 = .ok b s2) :
    readTableReg sz m s = .ok
      { limit := BitVec.ofNat 16 lim, base := BitVec.ofNat 32 (if sz = .w32 then b else b % 2 ^ 24) } s2 := by
  have hbase : (if sz = .w32 then BitVec.ofNat 32 b else BitVec.ofNat 32 b &&& 0x00FFFFFF#32) =
      BitVec.ofNat 32 (if sz = .w32 then b else b % 2 ^ 24) := by
    rw [and_low24, apply_ite (BitVec.ofNat 32)]
  rw [← hbase]
  exact (run_bind_ok _ (run_get s)).trans <| (run_bind_ok _ (before_ok _ h1)).trans <| run_bind_ok _ h2

/-- Two writes, both checked in the state before them. -/
theorem physWrite_physWrite {p1 p2 : List PA} (hw1 : s.writeOk p1 = true) (hw2 : s.writeOk p2 = true) (b1 b2 : List Byte) :
    (physWrite p1 b1 >>= fun _ => physWrite p2 b2) s = .ok () ((s.storeBytes p1 b1).storeBytes p2 b2) :=
  (run_bind_ok _ (physWrite_ok hw1 b1)).trans (physWrite_ok ((State.storeBytes_writeOk ..).trans hw2) b2)

section
variable {t : TableReg} {p1 p2 : List PA}
  (h1 : segAccess (s.dataSeg (defaultSeg m)) (effAddr s.regs m) 2 .write 2 s = .ok p1 s1)
  (h2 : segAccess (s.dataSeg (defaultSeg m)) (effAddr s.regs m + 2#32) 4 .write 4 s1 = .ok p2 s2)
  (hw1 : s2.writeOk p1 = true) (hw2 : s2.writeOk p2 = true)
include h1 h2 hw1 hw2

theorem storeTableReg_w32 : storeTableReg .w32 m t s =
    .ok () ((s2.storeBytes p1 (bytesOf 2 t.limit.toNat)).storeBytes p2 (bytesOf 4 t.base.toNat)) :=
  (run_bind_ok _ (run_get s)).trans <| (run_bind_ok _ (before_ok _ h1)).trans <| (run_bind_ok _ h2).trans <|
    physWrite_physWrite hw1 hw2 _ _
/-- The last byte is a free one (R423). -/
theorem storeTableReg_w16 : storeTableReg .w16 m t s =
    .ok () (({ s2 with freeCtr := s2.freeCtr + 1 }.storeBytes p1 (bytesOf 2 t.limit.toNat)).storeBytes p2
      (bytesOf 4 ((Config.freeWord s2.freeCtr).setWidth 8 ++ t.base.extractLsb' 0 24 : Word).toNat)) :=
  (run_bind_ok _ (run_get s)).trans <| (run_bind_ok _ (before_ok _ h1)).trans <| (run_bind_ok _ h2).trans <|
    (run_bind_ok (s := s2) (t := { s2 with freeCtr := s2.freeCtr + 1 }) _ rfl).trans <|
    physWrite_physWrite (s := { s2 with freeCtr := s2.freeCtr + 1 }) hw1 hw2 _ _

theorem storeTableReg_ok : storeTableReg sz m t s = .ok () (match sz with
    | .w32 => (s2.storeBytes p1 (bytesOf 2 t.limit.toNat)).storeBytes p2 (bytesOf 4 t.base.toNat)
    | .w16 => ({ s2 with freeCtr := s2.freeCtr + 1 }.storeBytes p1 (bytesOf 2 t.limit.toNat)).storeBytes p2
        (bytesOf 4 ((Config.freeWord s2.freeCtr).setWidth 8 ++ t.base.extractLsb' 0 24 : Word).toNat)) := by
  cases sz with
  | w16 => exact storeTableReg_w16 h1 h2 hw1 hw2
  | w32 => exact storeTableReg_w32 h1 h2 hw1 hw2
end
end

/-- Settles O36. -/
theorem tableRegisters : Obligations.TableRegisters := by
  intro sz m s s1 s2
  refine ⟨fun lim b hpriv h1 h2 => ?load, fun i t p1 p2 hi h1 h2 hw1 hw2 => ?store⟩
  case load =>
    have hread := run_bind_ok (fun t => upd fun u => { u with gdtr := t }) (readTableReg_ok (sz := sz) h1 h2)
    have hread' := run_bind_ok (fun t => upd fun u => { u with idtr := t }) (readTableReg_ok (sz := sz) h1 h2)
    exact ⟨runInstr_ok ((run_bind_ok _ (requireCpl0_ok hpriv)).trans hread),
      runInstr_ok ((run_bind_ok _ (requireCpl0_ok hpriv)).trans hread')⟩
  case store =>
    have hstore := storeTableReg_ok (sz := sz) (t := t) h1 h2 hw1 hw2
    simp only [List.mem_cons, List.not_mem_nil, or_false, Prod.mk.injEq] at hi
    obtain ⟨rfl, rfl⟩ | ⟨rfl, rfl⟩ := hi
    · exact runInstr_ok ((run_bind_ok _ (run_get s)).trans hstore)
    · exact runInstr_ok ((run_bind_ok _ (run_get s)).trans hstore)

end Sys2Proof.Machine
end

section
/-! SUPPORT, and O40. The counters and model specific registers (R435 to R439). -/
namespace Sys2Proof.Machine
open Sys2Proof

section
variable {s : State}

/-- Both halves of EDX:EAX written. -/
def State.putEdxEax (s : State) (hi lo : Word) : State := { s with regs := { s.regs with edx := hi, eax := lo } }
theorem setEdxEax_ok (hi lo : Word) : setEdxEax hi lo s = .ok () (s.putEdxEax hi lo) := rfl
theorem setWidth_16_32 (x : Word16) : x.setWidth 32 = 0#16 ++ x := by
  refine BitVec.eq_of_getLsbD_eq fun i hi => ?_
  rw [BitVec.getLsbD_setWidth, BitVec.getLsbD_append]
  by_cases h : i < 16
  · simp [h, hi]
  · rw [BitVec.getLsbD_of_ge x i (by omega)]
    simp [h]
theorem setWidth_32_16 (x : Word) : x.setWidth 16 = x.extractLsb' 0 16 := BitVec.setWidth_eq_extractLsb' (by decide)

/-- RDMSR and WRMSR answer what their register does. -/
theorem exec_rdmsr_ok {c : Nat} {hi lo : Word} {t : State} (hpriv : s.unprivileged = false) (hc : s.regs.ecx.toNat = c)
    (h : readMsr c s = .ok (hi, lo) t) : exec .rdmsr s = .next (t.putEdxEax hi lo) := by
  subst hc
  exact runInstr_ok ((run_bind_ok _ (requireCpl0_ok hpriv)).trans (run_bind_ok _ h))
theorem exec_wrmsr_ok {c : Nat} {t : State} (hpriv : s.unprivileged = false) (hc : s.regs.ecx.toNat = c)
    (h : writeMsr c s.regs.edx s.regs.eax s = .ok () t) : exec .wrmsr s = .next t := by
  subst hc
  exact runInstr_ok ((run_bind_ok _ (requireCpl0_ok hpriv)).trans h)
theorem exec_msr_ok {c : Nat} {hi lo : Word} {t u : State} (hpriv : s.unprivileged = false) (hc : s.regs.ecx.toNat = c)
    (hr : readMsr c s = .ok (hi, lo) t) (hw : writeMsr c s.regs.edx s.regs.eax s = .ok () u) :
    exec .rdmsr s = .next (t.putEdxEax hi lo) ∧ exec .wrmsr s = .next u :=
  ⟨exec_rdmsr_ok hpriv hc hr, exec_wrmsr_ok hpriv hc hw⟩
theorem exec_rdmsr_exc {x : Exc} {t : State} (hpriv : s.unprivileged = false)
    (h : readMsr s.regs.ecx.toNat s = .error (.exc x) t) : exec .rdmsr s = deliverFault x (rollback s t) :=
  runInstr_exc ((run_bind_ok _ (requireCpl0_ok hpriv)).trans <| (run_bind_ok _ (run_getReg .ecx s)).trans (run_bind_error _ h))
theorem exec_wrmsr_exc {x : Exc} {t : State} (hpriv : s.unprivileged = false)
    (h : writeMsr s.regs.ecx.toNat s.regs.edx s.regs.eax s = .error (.exc x) t) :
    exec .wrmsr s = deliverFault x (rollback s t) :=
  runInstr_exc ((run_bind_ok _ (requireCpl0_ok hpriv)).trans h)

/-- The indexes that name no register (R438). -/
def noMsr (i : Nat) : Prop := i < 3 ∨ 5 < i ∧ i < 0x10 ∨ 0x13 < i
theorem readMsr_none {i : Nat} (h : noMsr i) : readMsr i s = .error (.exc (.gp 0#16)) s := by
  unfold noMsr at h
  unfold readMsr
  rw [run_bind_ok _ (run_get s)]
  split
  case h_8 => rfl
  all_goals omega
theorem writeMsr_none {i : Nat} (h : noMsr i) (hi lo : Word) : writeMsr i hi lo s = .error (.exc (.gp 0#16)) s := by
  unfold noMsr at h
  unfold writeMsr
  split
  case h_8 => rfl
  all_goals omega
end

/-- Settles O40. -/
theorem countersAndMsrs : Obligations.CountersAndMsrs := by
  intro s
  refine ⟨fun h => ?tsc, fun hcr4 hpriv => ?tscGp, fun h => ⟨fun hc => ?pmc0, fun hc => ?pmc1, fun hc => ?pmcNone⟩,
    fun hcr4 hpriv => ?pmcGp, fun hpriv => ⟨fun hc => ?tr3, fun hc => ?tr4, fun hc => ?tr5, fun hc => ?msrTsc,
      fun hc => ?cesr, fun hc => ?msrPmc0, fun hc => ?msrPmc1, fun hc => ?none⟩⟩
  case tsc =>
    have hpass : ¬ (s.cr4.getLsbD 2 && s.unprivileged) = true := by rcases h with h | h <;> rw [h] <;> simp
    exact runInstr_ok ((run_bind_ok _ (run_get s)).trans (run_check_pass hpass))
  case tscGp => exact runInstr_exc ((run_bind_ok _ (run_get s)).trans (run_check_raise (by rw [hcr4, hpriv]; rfl)))
  case pmcGp => exact runInstr_exc ((run_bind_ok _ (run_get s)).trans (run_check_raise (by rw [hcr4, hpriv]; rfl)))
  case tr3 => exact exec_msr_ok hpriv (congrArg BitVec.toNat hc) rfl rfl
  case tr4 => exact exec_msr_ok hpriv (congrArg BitVec.toNat hc) rfl rfl
  case tr5 =>
    exact ⟨exec_rdmsr_ok hpriv (congrArg BitVec.toNat hc) rfl, fun t ht =>
      exec_wrmsr_ok hpriv (congrArg BitVec.toNat hc) ht⟩
  case msrTsc => exact exec_msr_ok hpriv (congrArg BitVec.toNat hc) rfl rfl
  case cesr => exact exec_msr_ok hpriv (congrArg BitVec.toNat hc) rfl rfl
  case msrPmc0 =>
    rw [← setWidth_32_16]
    exact exec_msr_ok hpriv (congrArg BitVec.toNat hc) rfl rfl
  case msrPmc1 =>
    rw [← setWidth_32_16]
    exact exec_msr_ok hpriv (congrArg BitVec.toNat hc) rfl rfl
  case none =>
    have hnone : noMsr s.regs.ecx.toNat := by
      unfold noMsr
      bv_omega
    exact ⟨exec_rdmsr_exc hpriv (readMsr_none hnone), exec_wrmsr_exc hpriv (writeMsr_none hnone _ _)⟩
  all_goals have hpass : ¬ (!s.cr4.getLsbD 8 && s.unprivileged) = true := by rcases h with h | h <;> rw [h] <;> simp
  case pmc0 =>
    rw [← setWidth_16_32]
    exact runInstr_ok ((run_bind_ok _ (run_get s)).trans <| (run_check_pass hpass).trans <|
      congrFun (if_pos (beq_iff_eq.2 hc)) s)
  case pmc1 =>
    rw [← setWidth_16_32]
    have h0 : ¬ (s.regs.ecx == 0#32) = true := by rw [show s.regs.ecx = 1#32 from hc]; decide
    exact runInstr_ok ((run_bind_ok _ (run_get s)).trans <| (run_check_pass hpass).trans <|
      (congrFun (if_neg h0) s).trans <| congrFun (if_pos (beq_iff_eq.2 hc)) s)
  case pmcNone =>
    have h0 : ¬ (s.regs.ecx == 0#32) = true := by rw [beq_iff_eq]; bv_omega
    have h1 : ¬ (s.regs.ecx == 1#32) = true := by rw [beq_iff_eq]; bv_omega
    exact runInstr_exc ((run_bind_ok _ (run_get s)).trans <| (run_check_pass hpass).trans <|
      (congrFun (if_neg h0) s).trans <| congrFun (if_neg h1) s)

end Sys2Proof.Machine
end

section
/-! SUPPORT, and O41. INVLPG, INVD, WBINVD, HLT, CLI, STI and CPUID (R431 to R433, R440 to R443). -/
namespace Sys2Proof.Machine
open Sys2Proof

/-- What INVD refuses: a line that may be modified (D9). -/
theorem modifiedLine_eq_false_iff (c : Cache) :
    ¬ (c.dirty || (c.lines.any fun e => e.2.anySector (· == 0x8#4))) = true ↔
      c.dirty = false ∧ ∀ e ∈ c.lines, e.2.mesi0 ≠ 8#4 ∧ e.2.mesi1 ≠ 8#4 := by
  simp [CacheLine.anySector]

/-- Settles O41. -/
theorem systemForms : Obligations.SystemForms := by
  intro s
  refine ⟨fun hpriv => ⟨fun m => ?invlpg, ⟨fun hc => ?invd, fun hc => ?invdModified⟩, ?wbinvd, ?hlt⟩, fun h => ?ifl,
    fun h => ?cpuid, fun h => ?cpuidUd⟩
  case invlpg => exact runInstr_ok (run_bind_ok _ (requireCpl0_ok hpriv))
  case invd =>
    exact runInstr_ok ((run_bind_ok _ (requireCpl0_ok hpriv)).trans <| (run_bind_ok _ (run_get s)).trans <|
      run_check_pass ((modifiedLine_eq_false_iff s.cache).2 hc))
  case invdModified =>
    exact runInstr_refuse ((run_bind_ok _ (requireCpl0_ok hpriv)).trans <| (run_bind_ok _ (run_get s)).trans <|
      run_check_refuse (Decidable.not_not.1 fun h => hc ((modifiedLine_eq_false_iff s.cache).1 h)))
  case wbinvd => exact runInstr_ok (run_bind_ok _ (requireCpl0_ok hpriv))
  case hlt => exact runInstr_ok (run_bind_ok _ (requireCpl0_ok hpriv))
  case ifl =>
    have hcheck := ifSensitive_ok h
    exact ⟨runInstr_ok (run_bind_ok _ hcheck), runInstr_ok (run_bind_ok _ hcheck)⟩
  case cpuid => exact runInstr_ok ((run_bind_ok _ (run_get s)).trans (run_check_pass (by rw [h]; decide)))
  case cpuidUd => exact runInstr_exc ((run_bind_ok _ (run_get s)).trans (run_check_raise (by rw [h]; rfl)))

end Sys2Proof.Machine
end

section
/-! SUPPORT, and O37. LDTR and TR (R424 to R427). -/
namespace Sys2Proof.Machine
open Sys2Proof

/-- The place of a descriptor in its table: the index times 8 (R191). -/
theorem and_FFF8_toNat (sel : Word16) : (sel &&& 0xFFF8#16).toNat = sel.toNat / 8 * 8 := by
  have hbits : sel &&& 0xFFF8#16 = sel >>> 3 <<< 3 := by
    refine BitVec.eq_of_getLsbD_eq fun i hi => ?_
    interval_cases i <;> simp
  rw [hbits, BitVec.toNat_shiftLeft, BitVec.toNat_ushiftRight, Nat.shiftLeft_eq, Nat.shiftRight_eq_div_pow]
  have hlt := sel.isLt
  omega

/-! The descriptor that LLDT and LTR load. -/

section
variable {sel : Word16} {ok : BitVec 4 → Bool} {s t : State} {a : Word} {d : BitVec 64}

theorem systemDesc_ofLdt (hti : sel.getLsbD 2 = true) : systemDesc sel ok s = .error (.exc (.gp (selCode sel))) s :=
  run_check_raise hti
section
variable (hti : sel.getLsbD 2 = false)
include hti
theorem systemDesc_noDesc {x : Stop} (hd : readDesc sel (.gp (selCode sel)) s = .error x t) :
    systemDesc sel ok s = .error x t := (run_check_pass (by rw [hti]; decide)).trans (run_bind_error _ hd)
variable (hd : readDesc sel (.gp (selCode sel)) s = .ok (a, d) t)
include hd
theorem systemDesc_badType (h : ((descAttr d).dt || !ok (descAttr d).typ) = true) :
    systemDesc sel ok s = .error (.exc (.gp (selCode sel))) t :=
  (run_check_pass (by rw [hti]; decide)).trans <| (run_bind_ok _ hd).trans (run_check_raise h)
variable (h : ((descAttr d).dt || !ok (descAttr d).typ) = false)
include h
theorem systemDesc_absent (hp : (descAttr d).p = false) : systemDesc sel ok s = .error (.exc (.np (selCode sel))) t :=
  (run_check_pass (by rw [hti]; decide)).trans <| (run_bind_ok _ hd).trans <| (run_check_pass (by simp [h])).trans
    (run_check_raise (by simp [hp]))
theorem systemDesc_ok (hp : (descAttr d).p = true) : systemDesc sel ok s = .ok (a, d) t :=
  (run_check_pass (by rw [hti]; decide)).trans <| (run_bind_ok _ hd).trans <| (run_check_pass (by simp [h])).trans
    (run_check_pass (by simp [hp]))
end
end

/-- While LDTR is marked invalid it holds no descriptor (R424). -/
theorem readDesc_ldtrInvalid {sel : Word16} {s : State} (bad : Exc) (hinv : s.ldtrInvalid = true)
    (hti : sel.getLsbD 2 = true) : readDesc sel bad s = .error (.exc bad) s :=
  (run_bind_ok _ (run_get s)).trans <| (congrFun (if_pos hti) s).trans (run_check_raise (by simp [hinv]))

/-! What LLDT and LTR do with the selector read. -/

section
variable {e : RMv} {sel : Word16} {s s1 s2 : State} (hreal : s.realLike = false) (hpriv : s.unprivileged = false)
  (hsel : readRM16 e s = .ok sel s1)
include hreal hpriv hsel

/-- Their checks pass, and the selector is read. -/
theorem run_tableSelector {β : Type} (f : Word16 → Act β) :
    (protectedOnly >>= fun _ => requireCpl0 >>= fun _ => readRM16 e >>= f) s = f sel s1 :=
  (run_bind_ok _ (protectedOnly_ok hreal)).trans <| (run_bind_ok _ (requireCpl0_ok hpriv)).trans (run_bind_ok _ hsel)

theorem exec_lldt_null (hnull : nullSel sel = true) :
    exec (.lldt e) s = .next { s1 with ldtr := s1.ldtr.nullLoad sel, ldtrInvalid := true } :=
  runInstr_ok ((run_tableSelector hreal hpriv hsel _).trans (congrFun (if_pos hnull) s1))
theorem exec_ltr_null (hnull : nullSel sel = true) :
    exec (.ltr e) s = deliverFault (.gp (selCode sel)) (rollback s s1) :=
  runInstr_exc ((run_tableSelector hreal hpriv hsel _).trans (run_check_raise hnull))

variable (hnull : nullSel sel = false)
include hnull

theorem exec_lldt_exc {x : Exc} (h : systemDesc sel (· == 0x2#4) s1 = .error (.exc x) s2) :
    exec (.lldt e) s = deliverFault x (rollback s s2) :=
  runInstr_exc ((run_tableSelector hreal hpriv hsel _).trans <| (congrFun (if_neg (by simp [hnull])) s1).trans
    (run_bind_error _ h))
theorem exec_lldt_ok {a : Word} {d : BitVec 64} (h : systemDesc sel (· == 0x2#4) s1 = .ok (a, d) s2) :
    exec (.lldt e) s = .next { s2 with ldtr := Seg.ofDesc sel d, ldtrInvalid := false } :=
  runInstr_ok ((run_tableSelector hreal hpriv hsel _).trans <| (congrFun (if_neg (by simp [hnull])) s1).trans <|
    (run_bind_ok _ h).trans (run_upd _ s2))
theorem exec_ltr_exc {x : Exc} (h : systemDesc sel (fun t => t == 0x1#4 || t == 0x9#4) s1 = .error (.exc x) s2) :
    exec (.ltr e) s = deliverFault x (rollback s s2) :=
  runInstr_exc ((run_tableSelector hreal hpriv hsel _).trans <| (run_check_pass (by simp [hnull])).trans
    (run_bind_error _ h))
theorem exec_ltr_ok {a : Word} {d : BitVec 64} {s3 : State}
    (h : systemDesc sel (fun t => t == 0x1#4 || t == 0x9#4) s1 = .ok (a, d) s2)
    (hbusy : linWrite (a + 5#32) 1 ((d ||| busyBit).extractLsb' 40 8).toNat s2 = .ok () s3) :
    exec (.ltr e) s = .next { s3 with tr := Seg.ofDesc sel (d ||| busyBit) } :=
  runInstr_ok ((run_tableSelector hreal hpriv hsel _).trans <| (run_check_pass (by simp [hnull])).trans <|
    (run_bind_ok _ h).trans (run_bind_ok _ hbusy))
end

/-- The checks of the descriptor's type, as bits (R424, R426). -/
theorem ldtType_iff (t : Attr) : (t.dt || !(t.typ == 0x2#4)) = false ↔ t.dt = false ∧ t.typ = 2#4 := by simp
theorem tssType_iff (t : Attr) :
    (t.dt || !(t.typ == 0x1#4 || t.typ == 0x9#4)) = false ↔ t.dt = false ∧ (t.typ = 1#4 ∨ t.typ = 9#4) := by
  cases t.dt <;> simp [Decidable.or_iff_not_imp_left]

/-- The last byte of a descriptor beyond the GDT. -/
theorem systemDesc_pastGdt {sel : Word16} {ok : BitVec 4 → Bool} {s : State}
    (h : sel.getLsbD 2 = true ∨ s.gdtr.limit.toNat < sel.toNat / 8 * 8 + 7) :
    systemDesc sel ok s = .error (.exc (.gp (selCode sel))) s := by
  rw [← and_FFF8_toNat] at h
  cases hti : sel.getLsbD 2 with
  | true => exact systemDesc_ofLdt hti
  | false => exact systemDesc_noDesc hti (readDesc_pastGdt _ hti (h.resolve_left (by rw [hti]; decide)))

theorem exec_sldt (sz : OSize) (d : RMv) {s : State} (hreal : s.realLike = false) :
    exec (.sldt sz d) s = runInstr (storeSel sz d s.ldtr.sel) s :=
  runInstr_congr ((run_bind_ok _ (protectedOnly_ok hreal)).trans (run_bind_ok _ (run_get s)))
theorem exec_str (sz : OSize) (d : RMv) {s : State} (hreal : s.realLike = false) :
    exec (.str sz d) s = runInstr (storeSel sz d s.tr.sel) s :=
  runInstr_congr ((run_bind_ok _ (protectedOnly_ok hreal)).trans (run_bind_ok _ (run_get s)))

/-- Settles O37. -/
theorem ldtrAndTr : Obligations.LdtrAndTr := by
  refine ⟨fun s sz d e hreal i hi => ?real, fun s hreal => ⟨fun i sel hi => ?store, fun e sel s1 hpriv hsel =>
    ⟨fun hnull => ?null, fun hnull h => ?outside, fun x s2 hnull hti hd => ?noDesc, fun a d s2 hnull hti hd => ?refused,
      fun a d s2 hnull hti hd hdt hp => ?loaded⟩⟩, fun s sel bad hinv hti => readDesc_ldtrInvalid bad hinv hti⟩
  case real =>
    have hud := protectedOnly_ud hreal
    simp only [List.mem_cons, List.not_mem_nil, or_false] at hi
    rcases hi with rfl | rfl | rfl | rfl
    all_goals exact runInstr_exc (run_bind_error _ hud)
  case store =>
    have hexec (sz : OSize) (d : RMv) : exec (i sz d) s = runInstr (storeSel sz d sel) s := by
      simp only [List.mem_cons, List.not_mem_nil, or_false, Prod.mk.injEq] at hi
      obtain ⟨rfl, rfl⟩ | ⟨rfl, rfl⟩ := hi
      · exact exec_sldt sz d hreal
      · exact exec_str sz d hreal
    refine ⟨fun r => ⟨?_, ?_⟩, fun sz m s1 pas hl hw => ?_⟩
    · exact (hexec _ _).trans (runInstr_ok (storeSel_reg16 r))
    · exact (hexec _ _).trans (runInstr_ok (storeSel_reg32 r))
    · exact (hexec _ _).trans (runInstr_ok (storeSel_mem hl hw))
  case null => exact ⟨exec_lldt_null hreal hpriv hsel hnull, exec_ltr_null hreal hpriv hsel hnull⟩
  case outside =>
    exact ⟨exec_lldt_exc hreal hpriv hsel hnull (systemDesc_pastGdt h),
      exec_ltr_exc hreal hpriv hsel hnull (systemDesc_pastGdt h)⟩
  case noDesc =>
    exact ⟨exec_lldt_exc hreal hpriv hsel hnull (systemDesc_noDesc hti hd),
      exec_ltr_exc hreal hpriv hsel hnull (systemDesc_noDesc hti hd)⟩
  case refused =>
    refine ⟨fun h => ?_, fun h hp => ?_, fun h => ?_, fun h hp => ?_⟩
    · have hbad := Bool.eq_true_of_not_eq_false (mt (ldtType_iff _).1 h)
      exact exec_lldt_exc hreal hpriv hsel hnull (systemDesc_badType hti hd hbad)
    · exact exec_lldt_exc hreal hpriv hsel hnull (systemDesc_absent hti hd ((ldtType_iff _).2 h) hp)
    · have hbad := Bool.eq_true_of_not_eq_false (mt (tssType_iff _).1 h)
      exact exec_ltr_exc hreal hpriv hsel hnull (systemDesc_badType hti hd hbad)
    · exact exec_ltr_exc hreal hpriv hsel hnull (systemDesc_absent hti hd ((tssType_iff _).2 h) hp)
  case loaded =>
    refine ⟨fun h => ?_, fun h s3 hbusy => ?_⟩
    · exact exec_lldt_ok hreal hpriv hsel hnull (systemDesc_ok hti hd ((ldtType_iff _).2 ⟨hdt, h⟩) hp)
    · exact exec_ltr_ok hreal hpriv hsel hnull (systemDesc_ok hti hd ((tssType_iff _).2 ⟨hdt, h⟩) hp) hbusy

end Sys2Proof.Machine
end

section
/-! SUPPORT, and O52. The values after RESET (R642). -/
namespace Sys2Proof.Machine
open Sys2Proof

section
variable (p : Part)
/-- The revision in EDX, then the device's identification (D13). -/
theorem resetEdx_eq : 0x600#32 + p.deviceId.setWidth 32 = BitVec.ofNat 32 (0x600 + p.deviceId.toNat) := by bv_omega
/-- EAX tells whether the self-test passed. -/
theorem resetEax_eq_zero_iff (h : p.selfTestRequested = true) : p.resetEax = 0#32 ↔ p.selfTestPassed = true := by
  unfold Part.resetEax
  cases hp : p.selfTestPassed with
  | true => simp
  | false =>
    have hne (n : Nat) : BitVec.ofNat 32 (n % 0xFFFFFFFF + 1) ≠ 0#32 := by bv_omega
    simp [h, hne]
/-- CCR4 is 80h beside its IORT field (C2). -/
theorem resetCcr4_extract : (0x80#8 ||| p.ccr4Iort.setWidth 8).extractLsb' 3 5 = 0x10#5 := by
  refine BitVec.eq_of_getLsbD_eq fun i hi => ?_
  interval_cases i <;> simp
theorem resetCfg_arr (n : Nat) : (CfgRegs.reset p).arr n = 0#24 := by
  unfold CfgRegs.arr
  split <;> rfl
theorem resetCfg_rcr (n : Nat) : (CfgRegs.reset p).rcr n = 0#8 := by
  unfold CfgRegs.rcr
  split <;> rfl
end

/-- Settles O52. -/
theorem resetValues : Obligations.ResetValues := by
  have hflags : Flags.reset.toWord = 2#32 := by decide
  have hfetch : Seg.resetCs.base + 0xFFF0#32 = 0xFFFFFFF0#32 := by decide
  exact ⟨rfl, fun p => ⟨hflags, rfl, ⟨rfl, rfl, rfl⟩, ⟨rfl, rfl, rfl⟩, ⟨rfl, rfl, rfl⟩, ⟨rfl, rfl, rfl⟩, ⟨rfl, rfl, rfl⟩,
    ⟨rfl, rfl, rfl⟩, rfl, rfl, rfl, rfl, resetEdx_eq p, resetEax_eq_zero_iff p,
    ⟨rfl, rfl, rfl, rfl, resetCcr4_extract p, rfl, rfl⟩, fun n => ⟨resetCfg_arr p n, resetCfg_rcr p n⟩, rfl,
    BitVec.getLsbD_zero, rfl, BitVec.zero_and, rfl, rfl, hfetch⟩⟩

end Sys2Proof.Machine
end

section
/-! SUPPORT, and O46. Exceptions and interrupts in real mode (R487, R491, R501): the handler, the double fault, shutdown. -/
namespace Sys2Proof.Machine
open Sys2Proof

section
variable {kind : Kind} {v : Byte} {e : Word} {c : Option Word16} {fault : Bool} {s : State}

/-- A vector past the IDT limit is exception 8 (R501). -/
theorem deliver_real_pastIdt (hpe : s.pe = false) (hlim : s.idtr.limit.toNat < 4 * v.toNat + 3) :
    deliver kind v e c fault s = .error (.exc ⟨8#8, none⟩) s :=
  (congrFun (if_neg (by simp [hpe])) s).trans <| run_bind_error _ <| (run_bind_ok _ (run_get s)).trans <|
    run_check_raise (by simpa using hlim)
/-- Exception 8 is not contributory, so it follows whatever was to be delivered, except itself (R491). -/
theorem second_exception8 (h : ¬ (kind = .exception ∧ v = 8#8)) : second kind v ⟨8#8, none⟩ = some ⟨8#8, none⟩ := by
  refine second_single h ?_
  rintro ⟨-, ⟨-, h8⟩ | ⟨-, h8 | h8⟩⟩ <;> exact absurd h8 (by decide)

/-- Past the IDT limit exception 8 is delivered in the event's place. -/
theorem deliverAll_real_second {fuel : Nat} (hpe : s.pe = false) (hlim : s.idtr.limit.toNat < 4 * v.toNat + 3)
    (h : ¬ (kind = .exception ∧ v = 8#8)) :
    deliverAll (fuel + 1) kind v e c fault s = deliverAll fuel .exception 8#8 e none true s :=
  deliverAll_second (deliver_real_pastIdt hpe hlim) (second_exception8 h)
/-- Where exception 8 lies past the limit too, its delivery shuts the machine down (R614). -/
theorem deliverAll_real_shutdown {fuel : Nat} (hpe : s.pe = false) (hlim : s.idtr.limit.toNat < 0x23) :
    deliverAll (fuel + 1) .exception 8#8 e c fault s = .next { s with shutdown := true } :=
  deliverAll_shutdown (deliver_real_pastIdt hpe hlim) (second_none rfl rfl)
end

/-- A chain of deliveries that ends is the end of the step. -/
theorem taken_ended {o : Host.Outcome State Fault Refusal} {kind : Kind} {v : Byte} {e : Word} {c : Option Word16}
    {fault : Bool} {s t : State} (htaken : taken o s kind v e c fault)
    (h : deliverAll deliveryFuel kind v e c fault s = .next t) : o = .next t.ended :=
  (taken_eq htaken).trans (congrArg (mapNext State.ended) h)

/-- Settles O46. -/
theorem realExceptionEntry : Obligations.RealExceptionEntry := by
  intro o s kind v e c fault htaken hpe
  refine ⟨fun hlim hlim8 => taken_ended htaken ?shutdown, fun s1 pl n hpg hread hn hlim => ?handler⟩
  case shutdown =>
    by_cases h8 : kind = .exception ∧ v = 8#8
    · obtain ⟨rfl, rfl⟩ := h8
      exact deliverAll_real_shutdown hpe hlim8
    · exact (deliverAll_real_second hpe hlim h8).trans (deliverAll_real_shutdown hpe hlim8)
  case handler =>
    intro entry items hpl hitems off sel
    refine taken_ended htaken ?_
    by_cases hpast : s.idtr.limit.toNat < 4 * v.toNat + 3
    · obtain rfl : n = 8 := hn.trans (if_pos hpast)
      have h8 : ¬ (kind = .exception ∧ v = 8#8) := by
        rintro ⟨-, rfl⟩
        exact absurd hlim (Nat.not_le.2 hpast)
      have hdeliver := realDeliver_ok (v := 8#8) hpe hpg hread hlim hpl hitems
      exact (deliverAll_real_second hpe hpast h8).trans (deliverAll_ok (deliver_real_ok hpe hdeliver))
    · obtain rfl : n = v.toNat := hn.trans (if_neg hpast)
      exact deliverAll_ok (deliver_real_ok hpe (realDeliver_ok hpe hpg hread hlim hpl hitems))

end Sys2Proof.Machine
end

section
/-! SUPPORT. The rows of the SMM header (R556): consecutive doublewords in memory, written and read. -/
namespace Sys2Proof.Machine
open Sys2Proof

/-! Consecutive addresses. -/

theorem paRange_append (a : Word) (m n : Nat) :
    paRange a (m + n) = paRange a m ++ paRange (a + BitVec.ofNat 32 m) n := by
  induction m generalizing a with
  | zero => simp [paRange]
  | succ k ih =>
    have hnext : a + 1#32 + BitVec.ofNat 32 k = a + BitVec.ofNat 32 (k + 1) := by bv_omega
    rw [Nat.succ_add_eq_add_succ, Nat.add_succ, paRange, ih, hnext]
    rfl
theorem mem_paRange {a b : Word} {n : Nat} : b ∈ paRange a n ↔ ∃ i < n, b = a + BitVec.ofNat 32 i := by
  induction n generalizing a with
  | zero => simp [paRange]
  | succ k ih =>
    rw [paRange, List.mem_cons, ih]
    constructor
    · rintro (rfl | ⟨i, hi, rfl⟩)
      · exact ⟨0, by omega, by simp⟩
      · exact ⟨i + 1, by omega, by bv_omega⟩
    · rintro ⟨i, hi, rfl⟩
      cases i with
      | zero => exact .inl (by simp)
      | succ j => exact .inr ⟨j, by omega, by bv_omega⟩
theorem paRange_nodup (a : Word) {n : Nat} (hn : n ≤ 2 ^ 32) : (paRange a n).Nodup := by
  induction n generalizing a with
  | zero => exact List.nodup_nil
  | succ k ih =>
    refine List.nodup_cons.2 ⟨fun h => ?_, ih _ (by omega)⟩
    obtain ⟨i, hi, heq⟩ := mem_paRange.1 h
    bv_omega
@[simp] theorem paRange_length (a : Word) (n : Nat) : (paRange a n).length = n := by
  induction n generalizing a with
  | zero => rfl
  | succ k ih => rw [paRange, List.length_cons, ih]
@[simp] theorem plain_length (l : List Word) : (plain l).length = l.length := List.length_map _
theorem plain_append (l m : List Word) : plain (l ++ m) = plain l ++ plain m := List.map_append

/-! Bytes stored one after the other. -/

theorem State.storeBytes_append {s : State} {p q : List PA} {b c : List Byte} (h : p.length = b.length) :
    s.storeBytes (p ++ q) (b ++ c) = (s.storeBytes p b).storeBytes q c := by
  induction p generalizing s b with
  | nil =>
    obtain rfl : b = [] := List.length_eq_zero_iff.1 h.symm
    rfl
  | cons x p ih =>
    obtain ⟨y, b, rfl⟩ : ∃ y b', b = y :: b' := List.exists_cons_of_length_eq_add_one h.symm
    exact ih (by simpa using h)
theorem State.writeOk_append {s : State} {p q : List PA} (h : s.writeOk (p ++ q) = true) :
    s.writeOk p = true ∧ s.writeOk q = true := by
  simp only [State.writeOk, State.storeOk, List.all_append, Bool.and_eq_true] at h
  obtain ⟨⟨hregion, hp, hq⟩, hbus⟩ := h
  simp [State.writeOk, State.storeOk, hregion, hp, hq, hbus]
theorem State.bytesAt_append (s : State) (l m : List Word) : s.bytesAt (l ++ m) = s.bytesAt l ++ s.bytesAt m :=
  List.map_append
@[simp] theorem State.bytesAt_length (s : State) (l : List Word) : (s.bytesAt l).length = l.length := List.length_map _

/-! Rows. -/

/-- The bytes of rows. -/
def rowBytes (rows : List Word) : List Byte := rows.flatMap fun w => bytesOf 4 w.toNat
/-- The row that memory holds at an address. -/
def State.rowOf (s : State) (a : Word) : Word := BitVec.ofNat 32 (leNat (s.bytesAt (paRange a 4)))

@[simp] theorem rowBytes_length (rows : List Word) : (rowBytes rows).length = 4 * rows.length := by
  induction rows with
  | nil => rfl
  | cons w rest ih =>
    rw [rowBytes, List.flatMap_cons, List.length_append, bytesOf_length, List.length_cons]
    unfold rowBytes at ih
    omega
theorem ofNat_leNat_bytesOf (w : Word) : BitVec.ofNat 32 (leNat (bytesOf 4 w.toNat)) = w := by
  rw [leNat_bytesOf]
  exact BitVec.eq_of_toNat_eq (by simpa using w.isLt)
/-- Memory that holds the bytes of rows holds each of them in its place. -/
theorem State.rowOf_of_bytesAt {s : State} {a : Word} {rows : List Word}
    (h : s.bytesAt (paRange a (4 * rows.length)) = rowBytes rows) {j : Nat} (hj : j < rows.length) :
    s.rowOf (a + BitVec.ofNat 32 (4 * j)) = rows[j] := by
  induction rows generalizing a j with
  | nil => exact absurd hj (Nat.not_lt_zero j)
  | cons w rest ih =>
    rw [List.length_cons, Nat.mul_succ, Nat.add_comm, paRange_append, State.bytesAt_append, rowBytes,
      List.flatMap_cons] at h
    obtain ⟨hhead, htail⟩ := List.append_inj h (by simp)
    cases j with
    | zero => simpa [State.rowOf, hhead] using ofNat_leNat_bytesOf w
    | succ i =>
      have hplace : a + BitVec.ofNat 32 (4 * (i + 1)) = a + BitVec.ofNat 32 4 + BitVec.ofNat 32 (4 * i) := by bv_omega
      rw [hplace, List.getElem_cons_succ]
      exact ih htail (by simpa using hj)

theorem writeRows_ok {s : State} (a : Word) (rows : List Word)
    (h : s.writeOk (plain (paRange a (4 * rows.length))) = true) :
    writeRows a rows s = .ok () (s.storeBytes (plain (paRange a (4 * rows.length))) (rowBytes rows)) := by
  induction rows generalizing a s with
  | nil => rfl
  | cons w rest ih =>
    rw [List.length_cons, Nat.mul_succ, Nat.add_comm, paRange_append, plain_append] at h ⊢
    obtain ⟨hw, hrest⟩ := State.writeOk_append h
    rw [rowBytes, List.flatMap_cons, State.storeBytes_append (by simp)]
    exact (run_bind_ok _ (physWrite_ok hw _)).trans (ih (a + 4#32) ((State.storeBytes_writeOk ..).trans hrest))
theorem readRows_ok {s : State} (hr : s.readOk = true) (a : Word) (n : Nat) :
    readRows a n s = .ok ((List.range n).map fun k => s.rowOf (a + BitVec.ofNat 32 (4 * k))) s := by
  induction n generalizing a with
  | zero => rfl
  | succ m ih =>
    have hrow : physReadN a 4 s = .ok (leNat (s.bytesAt (paRange a 4))) s := by
      have h := run_bind_ok (fun bs => pure (leNat bs)) (physRead_ok hr (plain (paRange a 4)))
      rwa [addrs_plain] at h
    have hplace (k : Nat) : a + BitVec.ofNat 32 (4 * (k + 1)) = a + 4#32 + BitVec.ofNat 32 (4 * k) := by bv_omega
    rw [List.range_succ_eq_map, List.map_cons, List.map_map]
    simp only [Function.comp_def, Nat.succ_eq_add_one, hplace, Nat.mul_zero, BitVec.add_zero]
    exact (run_bind_ok _ hrow).trans (run_bind_ok _ (ih (a + 4#32)))

end Sys2Proof.Machine
end

section
/-! SUPPORT. Entering and leaving System Management Mode (R554 to R557, R565). -/
namespace Sys2Proof.Machine
open Sys2Proof

/-! The rows that an entry saves. -/

/-- The I/O fields saved are those of the last instruction, where it was an I/O instruction (R557 f). -/
def IoFields.record (f : IoFields) (io : Option IoRecord) : Prop :=
  ∀ x : IoRecord, io = some x → f.rep = x.rep ∧ f.write = x.write ∧ ∀ y : IoTransfer, x.transfer = some y →
    (x.write = true → f.target = ioSizeCode y.size ++ y.port ∧ f.data = y.data) ∧ ∀ j : Word, y.index = some j → f.index = j
/-- The rows from h - 30h up, with what the source leaves undefined (R556). -/
def State.header (s : State) (smint : Bool) (cur next : Word) (f : IoFields) (internal : Bool) (reserved : Word)
    (selFree : Word16) : List Word :=
  let row := statusRow s.cpl s.inSmm internal (s.halted || s.shutdown) smint f.rep f.write s.csWritable
  [f.index, f.data, f.target, (reserved &&& ~~~statusRowMask) ||| row, s.segs.cs.toDesc.extractLsb' 0 32,
    s.segs.cs.toDesc.extractLsb' 32 32, selRow s.part.smmCsSelHigh s.segs.cs.sel selFree, next, cur, s.cr0,
    s.flags.toWord, s.dr.dr7]
/-- Some rows that an entry may save: internal is 0 for SMI# (R557). -/
def State.HeaderRows (s : State) (smint : Bool) (cur next : Word) (io : Option IoRecord) (rows : List Word) : Prop :=
  ∃ (f : IoFields) (internal : Bool) (reserved : Word) (selFree : Word16), f.record io ∧
    (smint = false → internal = false) ∧ rows = s.header smint cur next f internal reserved selFree

/-- The I/O fields of an I/O instruction, where `w1`, `w2` and `w3` stand for what is undefined. -/
def IoRecord.fields (x : IoRecord) (w1 w2 w3 : Word) : IoFields :=
  match x.transfer with
  | none => { write := x.write, rep := x.rep, target := w1, data := w2, index := w3 }
  | some t =>
    { write := x.write, rep := x.rep, target := if x.write then ioSizeCode t.size ++ t.port else w1
      data := if x.write then t.data else w2, index := t.index.getD w3 }
theorem IoRecord.fields_record (x : IoRecord) (w1 w2 w3 : Word) : (x.fields w1 w2 w3).record (some x) := by
  rintro z hz
  obtain rfl : x = z := Option.some.inj hz
  unfold IoRecord.fields
  cases x.transfer with
  | none => exact ⟨rfl, rfl, nofun⟩
  | some t =>
    refine ⟨rfl, rfl, fun y h => ?_⟩
    obtain rfl : t = y := Option.some.inj h
    exact ⟨fun hw => ⟨if_pos hw, if_pos hw⟩, fun j hj => congrArg (·.getD w3) hj⟩
theorem ioFields_some (x : IoRecord) (s : State) :
    ioFields (some x) s = .ok (x.fields (Config.freeWord (s.freeCtr + 2)) (Config.freeWord (s.freeCtr + 3))
      (Config.freeWord (s.freeCtr + 4))) { s with freeCtr := s.freeCtr + 5 } := by
  obtain ⟨write, rep, _ | t⟩ := x <;> rfl
theorem ioFields_ok (io : Option IoRecord) (s : State) :
    ∃ f : IoFields, f.record io ∧ ioFields io s = .ok f { s with freeCtr := s.freeCtr + 5 } := by
  cases io with
  | none => exact ⟨_, nofun, rfl⟩
  | some x => exact ⟨_, x.fields_record _ _ _, ioFields_some x s⟩

theorem headerRows_ok {s u : State} {smint : Bool} {cur next : Word} {io : Option IoRecord} :
    ∃ (rows : List Word) (k : Nat), s.HeaderRows smint cur next io rows ∧
      headerRows s smint s.inSmm (s.halted || s.shutdown) cur next io u = .ok rows { u with freeCtr := k } := by
  obtain ⟨f, hf, hio⟩ := ioFields_ok io u
  cases smint with
  | true => exact ⟨_, _, ⟨f, _, _, _, hf, nofun, rfl⟩, (run_bind_ok _ hio).trans rfl⟩
  | false => exact ⟨_, _, ⟨f, _, _, _, hf, fun _ => rfl, rfl⟩, (run_bind_ok _ hio).trans rfl⟩

/-! The state in which the service routine starts. -/

/-- The state with SMM entered, the header pointer valid. -/
def State.entering (s : State) : State := { s with smhr := s.entrySmhr, inSmm := true }
/-- The address of the lowest row. -/
def State.headerBase (s : State) : Word := (s.entrySmhr &&& 0xFFFFFFFC#32) - 0x30#32

theorem enterSmm_ok {s : State} {smint : Bool} {cur next : Word} {io : Option IoRecord}
    (hw : s.entering.writeOk (plain (paRange s.headerBase 48)) = true) :
    ∃ (rows : List Word) (k : Nat), s.HeaderRows smint cur next io rows ∧
      enterSmm smint cur next io s = .ok () (({ s.entering with freeCtr := k } : State).storeBytes
        (plain (paRange s.headerBase 48)) (rowBytes rows)).smmStart := by
  obtain ⟨rows, k, hrows, hdraw⟩ := headerRows_ok (s := s) (u := s.entering) (smint := smint) (cur := cur) (next := next)
    (io := io)
  have hlen : 4 * rows.length = 48 := by
    obtain ⟨_, _, _, _, _, _, rfl⟩ := hrows
    rfl
  have hwrite := writeRows_ok (s := { s.entering with freeCtr := k }) s.headerBase rows (by rw [hlen]; exact hw)
  rw [hlen] at hwrite
  refine ⟨rows, k, hrows, ?_⟩
  exact (run_bind_ok _ (run_get s)).trans <| (run_bind_ok _ (run_upd _ s)).trans <| (run_bind_ok _ hdraw).trans <|
    (run_bind_ok _ hwrite).trans (run_upd _ _)

/-! Leaving. -/

section
variable {s : State} (hr : s.readOk = true) {rows : List Word}
  (hrows : rows = (List.range 12).map fun k => s.rowOf (s.headerTop - 0x30#32 + BitVec.ofNat 32 (4 * k)))
include hr hrows

theorem exitSmm_ok (hok : (Header.ofRows s.part.smmCsSelHigh rows).ok = true) :
    exitSmm s = .ok () (s.restored (Header.ofRows s.part.smmCsSelHigh rows)) := by
  subst hrows
  exact (run_bind_ok _ (readRows_ok hr _ 12)).trans (run_check_pass (by simp [hok]))
theorem exitSmm_refused (hok : (Header.ofRows s.part.smmCsSelHigh rows).ok = false) :
    exitSmm s = .error (.refuse .inconsistentHeader) s := by
  subst hrows
  exact (run_bind_ok _ (readRows_ok hr _ 12)).trans (run_check_refuse (by simp [hok]))
end

/-! The checks before (R460, R467, R468). -/

section
variable {s : State}
theorem smmInsn_ok (h : s.smmInsnAllowed = true) : smmInsn s = .ok () s := congrFun (if_neg (by simp [h])) s
theorem smmInsn_ud (h : s.smmInsnAllowed = false) : smmInsn s = .error (.exc .ud) s := congrFun (if_pos (by simp [h])) s

theorem exec_smint_ud (h : s.smintAllowed = false) : exec .smint s = deliverFault .ud (rollback s s) :=
  runInstr_exc ((run_bind_ok _ (run_get s)).trans (run_check_raise (by simp [h])))
section
variable (h : s.smintAllowed = true)
include h
theorem exec_smint_nested (hin : s.inSmm = true) (hnest : (s.smmMode && s.nestEnabled) = false) :
    exec .smint s = .refused .nestedSmint :=
  runInstr_refuse ((run_bind_ok _ (run_get s)).trans <| (run_check_pass (by simp [h])).trans
    (run_check_refuse (by rw [hin, hnest]; rfl)))
theorem exec_smint_ok {t : State} (hin : s.inSmm = false ∨ s.smmMode = true ∧ s.nestEnabled = true)
    (ht : enterSmm true s.cur.ip s.eip none s = .ok () t) : exec .smint s = .next t := by
  have hpass : ¬ (s.inSmm && !(s.smmMode && s.nestEnabled)) = true := by
    rcases hin with hin | ⟨hmode, hnest⟩
    · simp [hin]
    · simp [hmode, hnest]
  exact runInstr_ok ((run_bind_ok _ (run_get s)).trans <| (run_check_pass (by simp [h])).trans <|
    (run_check_pass hpass).trans ht)
end

section
variable (h : s.smmInsnAllowed = true)
include h
theorem exec_rsm_outside (hin : s.inSmm = false) : exec .rsm s = .refused .rsmOutsideSmm :=
  runInstr_refuse ((run_bind_ok _ (smmInsn_ok h)).trans <| (run_bind_ok _ (run_get s)).trans
    (run_check_refuse (by simp [hin])))
variable (hin : s.inSmm = true)
include hin
theorem exec_rsm_ok {t : State} (ht : exitSmm s = .ok () t) : exec .rsm s = .next t :=
  runInstr_ok ((run_bind_ok _ (smmInsn_ok h)).trans <| (run_bind_ok _ (run_get s)).trans <|
    (run_check_pass (by simp [hin])).trans ht)
theorem exec_rsm_refused {x : Refusal} {t : State} (ht : exitSmm s = .error (.refuse x) t) : exec .rsm s = .refused x :=
  runInstr_refuse ((run_bind_ok _ (smmInsn_ok h)).trans <| (run_bind_ok _ (run_get s)).trans <|
    (run_check_pass (by simp [hin])).trans ht)
end
end

end Sys2Proof.Machine
end

section
/-! SUPPORT, and O43. The SMM instructions that save and restore registers (R460 to R471). -/
namespace Sys2Proof.Machine
open Sys2Proof

/-! The 80-bit operand (R471). -/

/-- What a layout orders it orders back. -/
theorem layIn_layOut {layout : List Nat} (h : layout.Perm (List.range 10)) {bs : List Byte} (hlen : bs.length = 10) :
    layIn layout (layOut layout bs) = bs := by
  have hat (i : Nat) (hi : i < 10) : (layOut layout bs).getD (layout.findIdx (· == i)) 0#8 = bs.getD i 0#8 := by
    have hmem : i ∈ layout := h.mem_iff.2 (List.mem_range.2 hi)
    have hidx : layout.findIdx (· == i) < layout.length := List.findIdx_lt_length_of_exists ⟨i, hmem, by simp⟩
    have hval : layout[layout.findIdx (· == i)] = i := by simpa using List.findIdx_getElem (w := hidx)
    rw [layOut, List.getD_eq_getElem _ _ (by simpa using hidx), List.getElem_map, hval]
  refine List.ext_getElem (by simp [layIn, hlen]) fun i hi hi' => ?_
  have hi10 : i < 10 := hlen ▸ hi'
  have hget : bs.getD i 0#8 = bs[i] := List.getD_eq_getElem _ _ hi'
  simp only [layIn, List.getElem_map, List.getElem_range]
  exact (hat i hi10).trans hget

/-! The fields of a descriptor image (R194): those of the register it was made of. -/

theorem getLsbD_of_extractLsb' {n i : Nat} {x : BitVec n} {b : Bool} (h : x.extractLsb' i 1 = BitVec.ofBool b) :
    x.getLsbD i = b := by
  have h0 := congrArg (BitVec.getLsbD · 0) h
  simpa [BitVec.getLsbD_extractLsb'] using h0

section
variable (g : Seg)
/-- The limit as a descriptor holds it. -/
def Seg.rawLimit (g : Seg) : BitVec 20 := if g.attr.g then g.limit.extractLsb' 12 20 else g.limit.extractLsb' 0 20

theorem toDesc_fields :
    let d := g.toDesc
    d.extractLsb' 0 16 = g.rawLimit.extractLsb' 0 16 ∧ d.extractLsb' 48 4 = g.rawLimit.extractLsb' 16 4 ∧
      d.extractLsb' 16 24 = g.base.extractLsb' 0 24 ∧ d.extractLsb' 56 8 = g.base.extractLsb' 24 8 ∧
      d.extractLsb' 40 4 = g.attr.typ ∧ d.extractLsb' 44 1 = BitVec.ofBool g.attr.dt ∧ d.extractLsb' 45 2 = g.attr.dpl ∧
      d.extractLsb' 47 1 = BitVec.ofBool g.attr.p ∧ d.extractLsb' 52 1 = BitVec.ofBool g.attr.avl ∧
      d.extractLsb' 54 1 = BitVec.ofBool g.attr.d ∧ d.extractLsb' 55 1 = BitVec.ofBool g.attr.g := by
  simp (disch := decide) only [Seg.toDesc, Seg.rawLimit, BitVec.extractLsb'_append_eq_of_le,
    BitVec.extractLsb'_append_eq_of_add_le, BitVec.extractLsb'_eq_self, Nat.reduceSub, and_self]

theorem descBase_toDesc : descBase g.toDesc = g.base := by
  obtain ⟨-, -, hlow, hhigh, -⟩ := toDesc_fields g
  have hmid : g.toDesc.extractLsb' 32 8 ++ g.toDesc.extractLsb' 16 16 = g.toDesc.extractLsb' 16 24 :=
    BitVec.extractLsb'_append_extractLsb'_eq_extractLsb' rfl
  rw [descBase, BitVec.append_assoc, hmid, hhigh, hlow]
  exact BitVec.extractLsb'_append_extractLsb'
theorem descAttr_toDesc : descAttr g.toDesc = g.attr := by
  obtain ⟨-, -, -, -, htyp, hdt, hdpl, hp, havl, hd, hg⟩ := toDesc_fields g
  rw [descAttr, htyp, hdpl, getLsbD_of_extractLsb' hdt, getLsbD_of_extractLsb' hp, getLsbD_of_extractLsb' havl,
    getLsbD_of_extractLsb' hd, getLsbD_of_extractLsb' hg]
/-- The limit comes back where it is one that a descriptor can give: in pages, or below 1 MByte (R196). -/
theorem descLimit_toDesc (h : g.limit = if g.attr.g then g.limit.extractLsb' 12 20 ++ 0xFFF#12
    else (g.limit.extractLsb' 0 20).setWidth 32) : descLimit g.toDesc = g.limit := by
  obtain ⟨hlow, hhigh, -, -, -, -, -, -, -, -, hg⟩ := toDesc_fields g
  have hraw : g.toDesc.extractLsb' 48 4 ++ g.toDesc.extractLsb' 0 16 = g.rawLimit := by
    rw [hhigh, hlow]
    exact BitVec.extractLsb'_append_extractLsb'
  rw [descLimit, hraw, getLsbD_of_extractLsb' hg, h, Seg.rawLimit]
  cases g.attr.g <;> simp
end

theorem leNat_le16 (v : Word16) : leNat (le16 v) = v.toNat := by
  have hlt := v.isLt
  simp only [le16, leNat, BitVec.extractLsb'_toNat, Nat.shiftRight_eq_div_pow]
  omega
/-- What was packed unpacks to itself, in every layout, where the descriptor image can hold the limit. -/
theorem unpack80_pack80 {layout : List Nat} (hlayout : layout.Perm (List.range 10)) (g : Seg)
    (hlimit : g.limit = if g.attr.g then g.limit.extractLsb' 12 20 ++ 0xFFF#12
      else (g.limit.extractLsb' 0 20).setWidth 32) : Seg.unpack80 layout (g.pack80 layout) = g := by
  have hbytes : layIn layout (g.pack80 layout) = bytesOf 8 g.toDesc.toNat ++ le16 g.sel :=
    layIn_layOut hlayout (by simp [le16])
  have hdesc : BitVec.ofNat 64 (leNat ((bytesOf 8 g.toDesc.toNat ++ le16 g.sel).take 8)) = g.toDesc := by
    rw [List.take_left' (bytesOf_length ..), leNat_bytesOf]
    exact BitVec.eq_of_toNat_eq (by simpa using g.toDesc.isLt)
  have hsel : BitVec.ofNat 16 (leNat ((bytesOf 8 g.toDesc.toNat ++ le16 g.sel).drop 8)) = g.sel := by
    rw [List.drop_left' (bytesOf_length ..), leNat_le16, BitVec.ofNat_toNat, BitVec.setWidth_eq]
  rw [Seg.unpack80, hbytes, hdesc, hsel, descBase_toDesc, descAttr_toDesc, descLimit_toDesc g hlimit]
/-- The limit that a descriptor's 20 bits give (R196). -/
theorem pageLimit_extract (x : BitVec 20) : (x ++ 0xFFF#12).extractLsb' 12 20 = x := BitVec.extractLsb'_append_eq_left
theorem byteLimit_extract (x : BitVec 20) : (x.setWidth 32).extractLsb' 0 20 = x := by
  refine BitVec.eq_of_getLsbD_eq fun i hi => ?_
  rw [BitVec.getLsbD_extractLsb', BitVec.getLsbD_setWidth]
  simp [hi, show i < 32 by omega]
theorem ofDesc_limit (sel : Word16) (d : BitVec 64) :
    (Seg.ofDesc sel d).limit = if (Seg.ofDesc sel d).attr.g then (Seg.ofDesc sel d).limit.extractLsb' 12 20 ++ 0xFFF#12
      else ((Seg.ofDesc sel d).limit.extractLsb' 0 20).setWidth 32 := by
  have hg : (Seg.ofDesc sel d).attr.g = d.getLsbD 55 := rfl
  have hl : (Seg.ofDesc sel d).limit = descLimit d := rfl
  rw [hg, hl, descLimit]
  cases d.getLsbD 55 with
  | true => exact congrArg (· ++ 0xFFF#12) (pageLimit_extract _).symm
  | false => exact congrArg (BitVec.setWidth 32) (byteLimit_extract _).symm

/-! The register moved to its image and back. -/

section
variable {m : Mem} {s s1 : State} {pas : List PA}
theorem savePack_ok (hl : locateMem m 10 1 .write s = .ok pas s1) (hw : s1.writeOk pas = true) (g : Seg) :
    savePack m g s = .ok () (s1.storeBytes pas (g.pack80 s1.part.svdcLayout)) :=
  (run_bind_ok _ hl).trans <| (run_bind_ok _ (run_get s1)).trans (physWrite_ok hw _)
theorem loadPack_ok (hl : locateMem m 10 1 .read s = .ok pas s1) (hr : s1.readOk = true) :
    loadPack m s = .ok (Seg.unpack80 s1.part.svdcLayout (s1.bytesAt (addrs pas))) s1 :=
  (run_bind_ok _ hl).trans <| (run_bind_ok _ (physRead_ok hr pas)).trans (run_bind_ok _ (run_get s1))
end

/-! A selector of the LDT, looked up by LDTR as it stands (R191, R464). -/

section
variable {sel : Word16} {s : State} (bad : Exc) (hinv : s.ldtrInvalid = false) (hti : sel.getLsbD 2 = true)
include hinv hti
theorem readDesc_pastLdt (h : s.ldtr.limit.toNat < sel.toNat / 8 * 8 + 7) : readDesc sel bad s = .error (.exc bad) s := by
  rw [← and_FFF8_toNat] at h
  exact (run_bind_ok _ (run_get s)).trans <| (congrFun (if_pos hti) s).trans (run_check_raise (by simpa [hinv] using h))
theorem readDesc_ofLdt {v : Nat} {u : State} (h : sel.toNat / 8 * 8 + 7 ≤ s.ldtr.limit.toNat)
    (hread : linRead (s.ldtr.base + BitVec.ofNat 32 (sel.toNat / 8 * 8)) 8 s = .ok v u) :
    readDesc sel bad s = .ok (s.ldtr.base + BitVec.ofNat 32 (sel.toNat / 8 * 8), BitVec.ofNat 64 v) u := by
  rw [← and_FFF8_toNat] at h hread ⊢
  exact (run_bind_ok _ (run_get s)).trans <| (congrFun (if_pos hti) s).trans <|
    (run_check_pass (by simpa [hinv] using h)).trans (run_bind_ok _ hread)
end

/-- Settles O43. -/
theorem smmSaveForms : Obligations.SmmSaveForms := by
  refine ⟨fun s h => ⟨fun m s1 pas hl hw => ?save, fun m s1 pas hl hr => ?load, fun d s1 p hl hw => ?rdshr,
    fun e s1 v hv => ?wrshr, fun m => ?cs⟩, fun s m r d h i hi => ?refused, fun layout sel d h => ?roundTrip,
    fun s h hin hw => ?smint, fun s rows h hin hr hrows hok => ?rsm⟩
  case roundTrip => exact unpack80_pack80 h _ (ofDesc_limit sel d)
  case save =>
    have hcheck := smmInsn_ok h
    refine ⟨fun r hr => ?_, ?_, ?_⟩
    · exact runInstr_ok ((run_bind_ok _ hcheck).trans <| (run_check_pass hr).trans <| (run_bind_ok _ (run_get s)).trans
        (savePack_ok hl hw _))
    · exact runInstr_ok ((run_bind_ok _ hcheck).trans <| (run_bind_ok _ (run_get s)).trans (savePack_ok hl hw _))
    · exact runInstr_ok ((run_bind_ok _ hcheck).trans <| (run_bind_ok _ (run_get s)).trans (savePack_ok hl hw _))
  case load =>
    have hcheck := smmInsn_ok h
    have hload := loadPack_ok hl hr
    refine ⟨fun r hr => ?_, ?_, ?_, fun t sel bad hldtr hinv hti => ⟨fun hlim => ?_, fun hlim v u hread => ?_⟩⟩
    · exact runInstr_ok ((run_bind_ok _ hcheck).trans <| (run_check_pass hr).trans (run_bind_ok _ hload))
    · exact runInstr_ok ((run_bind_ok _ hcheck).trans (run_bind_ok _ hload))
    · exact runInstr_ok ((run_bind_ok _ hcheck).trans (run_bind_ok _ hload))
    · rw [← hldtr] at hlim
      exact readDesc_pastLdt bad hinv hti hlim
    · rw [← hldtr] at hlim hread ⊢
      exact readDesc_ofLdt bad hinv hti hlim hread
  case rdshr =>
    exact runInstr_ok ((run_bind_ok _ (smmInsn_ok h)).trans <| (run_bind_ok _ hl).trans <|
      (run_bind_ok _ (run_get s1)).trans (writePlace_ok hw _))
  case wrshr => exact runInstr_ok ((run_bind_ok _ (smmInsn_ok h)).trans (run_bind_ok _ hv))
  case cs =>
    exact ⟨runInstr_refuse ((run_bind_ok _ (smmInsn_ok h)).trans (run_check_refuse rfl)),
      runInstr_exc ((run_bind_ok _ (smmInsn_ok h)).trans (run_check_raise rfl))⟩
  case refused =>
    have hud := smmInsn_ud h
    simp only [List.mem_cons, List.not_mem_nil, or_false] at hi
    rcases hi with rfl | rfl | rfl | rfl | rfl | rfl | rfl | rfl | rfl
    all_goals exact runInstr_exc (run_bind_error _ hud)
  case smint =>
    obtain ⟨rows, k, -, hok⟩ := enterSmm_ok (s := s) (smint := true) (cur := s.cur.ip) (next := s.eip) (io := none) hw
    refine ⟨_, exec_smint_ok h hin hok, ?_, rfl⟩
    obtain ⟨_, _, _, _, heq⟩ := ({ s.entering with freeCtr := k } : State).storeBytes_eq
      (plain (paRange s.headerBase 48)) (rowBytes rows)
    rw [heq]
    rfl
  case rsm => exact ⟨_, exec_rsm_ok h hin (exitSmm_ok hr hrows hok), rfl⟩

end Sys2Proof.Machine
end

section
/-! SUPPORT, and O44. What an entry to System Management Mode saves and leaves, and what RSM restores (R554 to R557, R565). -/
namespace Sys2Proof.Machine
open Sys2Proof

/-! Memory while the service routine starts. -/

theorem KeepsByte.storeBytes {s : State} (hc : s.cacheOk = true) {pas : List PA} (bs : List Byte) {b : Word}
    (hb : b ∉ addrs pas) : KeepsByte s (s.storeBytes pas bs) b := by
  induction pas generalizing s bs with
  | nil => cases bs <;> exact .refl s b
  | cons p rest ih =>
    cases bs with
    | nil => exact .refl s b
    | cons v bs =>
      obtain ⟨hp, hrest⟩ : b ≠ p.addr ∧ b ∉ addrs rest := by simpa [addrs] using hb
      exact (KeepsByte.storeByte hc v hp).trans (ih (State.storeByte_cacheOk v hc p) bs hrest)
section
variable (s : State) (b : Word)
/-- Nesting disabled leaves the mode of SMM as it is (R570). -/
theorem State.smmStart_smmMode : s.smmStart.smmMode = s.smmMode := by
  have hbit (x : Byte) : (x &&& ~~~0x40#8).getLsbD 0 = x.getLsbD 0 := by simp
  exact hbit s.cfg.ccr6
theorem State.smmStart_lineAt : s.smmStart.lineAt b = s.lineAt b := by
  have hsl : s.smmStart.slSmm b = s.slSmm b := congrArg (fun m => !m && s.smmSelected b) s.smmStart_smmMode
  rw [State.lineAt, hsl]
  rfl
theorem State.smmStart_physByte : s.smmStart.physByte b = s.physByte b := by
  rw [State.physByte, State.smmStart_lineAt]
  rfl
theorem KeepsByte.smmStart : KeepsByte s s.smmStart b :=
  ⟨congrArg (fun l : Option (Nat × CacheLine) => l.isNone && !s.smmSelected b && s.part.nothing b) (s.smmStart_lineAt b),
    fun _ => s.smmStart_physByte b⟩
end

/-! The rows saved. -/

section
variable (reserved : Word) (cpl : BitVec 2) (nested internal halted smint rep write writable : Bool)
/-- The named bits of the status row (R556). -/
def statusWord : Word :=
  (reserved &&& ~~~statusRowMask) ||| statusRow cpl nested internal halted smint rep write writable
theorem statusWord_bits :
    let x := statusWord reserved cpl nested internal halted smint rep write writable
    x.getLsbD 15 = nested ∧ x.getLsbD 13 = internal ∧ x.getLsbD 4 = halted ∧ x.getLsbD 3 = smint ∧ x.getLsbD 2 = rep ∧
      x.getLsbD 1 = write ∧ x.getLsbD 0 = writable := by
  simp [-BitVec.getLsbD_eq_getElem, statusWord, statusRow, statusRowMask, getLsbD_bitAt]
theorem statusWord_cpl :
    (statusWord reserved cpl nested internal halted smint rep write writable).extractLsb' 21 2 = cpl := by
  refine BitVec.eq_of_getLsbD_eq fun i hi => ?_
  interval_cases i <;>
    simp [-BitVec.getLsbD_eq_getElem, statusWord, statusRow, statusRowMask, getLsbD_bitAt]
end
theorem selRow_sel (high : Bool) (sel free : Word16) :
    (if high then (selRow high sel free).extractLsb' 16 16 else (selRow high sel free).extractLsb' 0 16) = sel := by
  cases high with
  | true => exact BitVec.extractLsb'_append_eq_left
  | false => exact BitVec.extractLsb'_append_eq_right
theorem ioSizeCode_eq (n : Nat) : ioSizeCode n = if n = 1 then 1#16 else if n = 2 then 3#16 else 0xF#16 := by
  unfold ioSizeCode
  split
  · rfl
  · rfl
  · rw [if_neg ‹_›, if_neg ‹_›]

/-! The state that an entry ends in. -/

section
variable (s : State) (k : Nat) (rows : List Word)
/-- The state with the rows stored, when `k` free values have been drawn. -/
def State.headerStored (s : State) (k : Nat) (rows : List Word) : State :=
  ({ s.entering with freeCtr := k } : State).storeBytes (plain (paRange s.headerBase 48)) (rowBytes rows)
/-- Beside memory it is that of R555. -/
theorem State.headerStored_smmStart :
    let t := (s.headerStored k rows).smmStart
    t = { s with
      smhr := s.entrySmhr, inSmm := true, cr0 := 0x60000010#32, flags := Flags.reset, eip := 0#32, cpl := 0#2
      dr := { s.dr with dr7 := 0x400#32 }
      segs := { s.segs with cs := s.smmCs }
      cfg := { s.cfg with ccr6 := s.cfg.ccr6 &&& 0xBF#8 }
      halted := false, shutdown := false, suspended := false, stale := []
      freeCtr := t.freeCtr, mem := t.mem, smm := t.smm, cache := t.cache } := by
  obtain ⟨m, m', c, st, h⟩ := ({ s.entering with freeCtr := k } : State).storeBytes_eq (plain (paRange s.headerBase 48))
    (rowBytes rows)
  rw [State.headerStored, h]
  rfl
variable {s k rows} (hc : s.cacheOk = true)
include hc
theorem State.headerStored_sameByte {a : Word} (ha : a ∉ paRange s.headerBase 48) :
    sameByte s.entering (s.headerStored k rows).smmStart a := by
  have hc' : ({ s.entering with freeCtr := k } : State).cacheOk = true := hc
  have hstore := KeepsByte.storeBytes hc' (pas := plain (paRange s.headerBase 48)) (rowBytes rows) (b := a)
    (by rwa [addrs_plain])
  exact (((KeepsByte.freeCtr s.entering k a).trans hstore).trans (KeepsByte.smmStart _ a)).same
/-- Where memory keeps them, the rows stand in it. -/
theorem State.headerStored_rowOf (hm : s.memoryOk = true) (hlen : rows.length = 12)
    (hkeep : ∀ a ∈ paRange s.headerBase 48, s.entering.keepsWrite a = true) {j : Nat} (hj : j < rows.length) :
    (s.headerStored k rows).smmStart.rowOf (s.headerBase + BitVec.ofNat 32 (4 * j)) = rows[j] := by
  refine State.rowOf_of_bytesAt ?_ hj
  rw [hlen]
  have hstart : (s.headerStored k rows).smmStart.bytesAt (paRange s.headerBase 48) =
      (s.headerStored k rows).bytesAt (paRange s.headerBase 48) :=
    List.map_congr_left fun a _ => (s.headerStored k rows).smmStart_physByte a
  have hbytes := State.storeBytes_bytesAt (s := { s.entering with freeCtr := k }) hm hc
    (pas := plain (paRange s.headerBase 48)) (bs := rowBytes rows) (by simp [hlen])
    (by rw [addrs_plain]; exact paRange_nodup _ (by decide)) (by rw [addrs_plain]; exact hkeep)
  rw [addrs_plain] at hbytes
  exact hstart.trans hbytes
end

/-- SMI# enters with the EIP of the last instruction and of the next (R557). -/
theorem takeSmi_ok {s t : State} {cur : Word} (hip : s.lastIp = some cur)
    (ht : enterSmm false cur s.eip s.lastIo s = .ok () t) :
    takeSmi s = .next ({ t with smiPending := false } : State).ended := by
  have hcur : currentIp s = .ok cur s := by
    unfold currentIp
    rw [run_bind_ok _ (run_get s), hip]
    rfl
  have hentry : smiEntry.run s = .ok () { t with smiPending := false } :=
    (run_bind_ok _ (run_get s)).trans <| (run_bind_ok _ hcur).trans (run_bind_ok _ ht)
  rw [takeSmi, hentry]
  rfl
/-- A row by its distance from the header's end. -/
theorem State.headerStored_row {s : State} {k : Nat} {rows : List Word} (hm : s.memoryOk = true) (hc : s.cacheOk = true)
    (hlen : rows.length = 12) (hkeep : ∀ a ∈ paRange s.headerBase 48, s.entering.keepsWrite a = true) {j : Nat} {d : Word}
    (hj : j < rows.length) (hd : d + BitVec.ofNat 32 (4 * j) = 0x30#32) :
    (s.headerStored k rows).smmStart.rowOf ((s.entrySmhr &&& 0xFFFFFFFC#32) - d) = rows[j] := by
  have hplace : (s.entrySmhr &&& 0xFFFFFFFC#32) - d = s.headerBase + BitVec.ofNat 32 (4 * j) := by
    unfold State.headerBase
    bv_omega
  rw [hplace]
  exact State.headerStored_rowOf hc hm hlen hkeep hj

/-- Settles O44. -/
theorem smmEntryExit : Obligations.SmmEntryExit := by
  refine ⟨fun smint cur next io s hm hc => ?entry, fun s t h => ⟨fun hin ht => exec_smint_ok h hin ht,
    fun hin hnest => exec_smint_nested h hin hnest⟩, fun s h => exec_smint_ud h, fun s t cur hip ht => ?smi,
    fun s rows h hin hr hrows => ?rsm, fun s h hin => exec_rsm_outside h hin⟩
  case smi => exact takeSmi_ok hip ht
  case rsm =>
    exact ⟨fun hok => exec_rsm_ok h hin (exitSmm_ok hr hrows hok), fun hok =>
      exec_rsm_refused h hin (exitSmm_refused hr hrows hok)⟩
  case entry =>
    intro s0 h rows hw
    obtain ⟨saved, k, ⟨f, internal, reserved, selFree, hio, hinternal, hsaved⟩, hok⟩ :=
      enterSmm_ok (s := s) (smint := smint) (cur := cur) (next := next) (io := io) hw
    have hstate := State.headerStored_smmStart s k saved
    have hcs : (s.headerStored k saved).smmStart.segs.cs = s.smmCs := congrArg (fun u : State => u.segs.cs) hstate
    refine ⟨_, hok, hstate, congrArg Seg.base hcs, congrArg Seg.sel hcs, congrArg Seg.limit hcs,
      fun a ha => State.headerStored_sameByte hc ha, fun hkeep => ?_⟩
    subst hsaved
    have hrow (j : Nat) (d : Word) (hj : j < 12) (hd : d + BitVec.ofNat 32 (4 * j) = 0x30#32) :=
      State.headerStored_row (k := k) (rows := s.header smint cur next f internal reserved selFree) hm hc rfl hkeep hj hd
    obtain ⟨hN, hI, hH, hS, hP, hW, hC⟩ :=
      statusWord_bits reserved s.cpl s.inSmm internal (s.halted || s.shutdown) smint f.rep f.write s.csWritable
    have hstatus := hrow 3 0x24#32 (by decide) (by decide)
    have hdesc := congrArg₂ (· ++ ·) (hrow 5 0x1C#32 (by decide) (by decide)) (hrow 4 0x20#32 (by decide) (by decide))
    have hsel := congrArg (fun w : Word => if s.part.smmCsSelHigh then w.extractLsb' 16 16 else w.extractLsb' 0 16)
      (hrow 6 0x18#32 (by decide) (by decide))
    refine ⟨hrow 11 4#32 (by decide) (by decide), hrow 10 8#32 (by decide) (by decide), hrow 9 0xC#32 (by decide) (by decide),
      hrow 8 0x10#32 (by decide) (by decide), hrow 7 0x14#32 (by decide) (by decide), hsel.trans (selRow_sel ..),
      hdesc.trans BitVec.extractLsb'_append_extractLsb', ?_⟩
    have hcpl := (congrArg (BitVec.extractLsb' 21 2) hstatus).trans (statusWord_cpl ..)
    have hbit (i : Nat) := congrArg (BitVec.getLsbD · i) hstatus
    refine ⟨hcpl, (hbit 15).trans hN, fun hs => ((hbit 13).trans hI).trans (hinternal hs), (hbit 4).trans hH,
      (hbit 3).trans hS, (hbit 0).trans hC, fun x hx => ?_⟩
    obtain ⟨hrep, hwrite, htransfer⟩ := hio x hx
    refine ⟨((hbit 2).trans hP).trans hrep, ((hbit 1).trans hW).trans hwrite, fun y hy => ?_⟩
    obtain ⟨hsent, hindex⟩ := htransfer y hy
    refine ⟨fun hw => ?_, fun i hi => (hrow 0 0x30#32 (by decide) (by decide)).trans (hindex i hi)⟩
    obtain ⟨htarget, hdata⟩ := hsent hw
    rw [ioSizeCode_eq] at htarget
    exact ⟨(hrow 2 0x28#32 (by decide) (by decide)).trans htarget, (hrow 1 0x2C#32 (by decide) (by decide)).trans hdata⟩

end Sys2Proof.Machine
end

section
/-! SUPPORT. RESET (R640): what it leaves of memory where an instruction was in progress. -/
namespace Sys2Proof.Machine
open Sys2Proof

/-! A list of bytes in the order of its addresses: what was written is read, whatever its addresses and bytes are. -/

/-- The addresses rise. -/
def Memory.ascending (m : Memory) : Prop := m.Pairwise fun c d => c.1 < d.1

theorem Memory.ascending_of_wfFrom {lo : Nat} {m : Memory} (h : m.wfFrom lo = true) :
    m.ascending ∧ ∀ c ∈ m, lo ≤ c.1 := by
  induction m generalizing lo with
  | nil => exact ⟨.nil, nofun⟩
  | cons c rest ih =>
    simp only [Memory.wfFrom, Bool.and_eq_true, decide_eq_true_eq] at h
    obtain ⟨⟨⟨hlo, -⟩, -⟩, hrest⟩ := h
    obtain ⟨hasc, hall⟩ := ih hrest
    refine ⟨List.pairwise_cons.2 ⟨fun d hd => hall d hd, hasc⟩, List.forall_mem_cons.2 ⟨hlo, fun d hd => ?_⟩⟩
    exact Nat.le_trans hlo (Nat.le_of_succ_le (hall d hd))
theorem Memory.read_of_lt {m : Memory} {a : Nat} (h : ∀ c ∈ m, a < c.1) : m.read a = Memory.unlisted := by
  induction m with
  | nil => rfl
  | cons c rest ih =>
    obtain ⟨hc, hrest⟩ := List.forall_mem_cons.1 h
    rw [Memory.read, if_neg (Nat.ne_of_lt hc)]
    exact ih hrest
theorem Memory.mem_write {m : Memory} {a : Nat} {v : Byte} {c : Host.Cell} (h : c ∈ m.write a v) : c.1 = a ∨ c ∈ m := by
  induction m with
  | nil =>
    rw [Memory.write] at h
    split at h
    · exact .inr h
    · exact .inl (by rw [List.mem_singleton.1 h])
  | cons d rest ih =>
    rw [Memory.write] at h
    split_ifs at h
    · exact .inr h
    · exact (List.mem_cons.1 h).imp (fun h => by rw [h]) id
    · exact .inr (List.mem_cons_of_mem _ h)
    · exact (List.mem_cons.1 h).imp (fun h => by rw [h]) (List.mem_cons_of_mem _)
    · rcases List.mem_cons.1 h with rfl | h
      · exact .inr (List.mem_cons_self ..)
      · exact (ih h).imp id (List.mem_cons_of_mem _)
theorem Memory.write_ascending {m : Memory} (h : m.ascending) (a : Nat) (v : Byte) : (m.write a v).ascending := by
  induction m with
  | nil =>
    rw [Memory.write]
    split
    · exact .nil
    · exact List.pairwise_singleton ..
  | cons d rest ih =>
    obtain ⟨hd, hrest⟩ := List.pairwise_cons.1 h
    rw [Memory.write]
    split_ifs with hlt hv heq hv
    · exact h
    · exact List.pairwise_cons.2 ⟨List.forall_mem_cons.2 ⟨hlt, fun c hc => Nat.lt_trans hlt (hd c hc)⟩, h⟩
    · exact hrest
    · exact List.pairwise_cons.2 ⟨heq ▸ hd, hrest⟩
    · refine List.pairwise_cons.2 ⟨fun c hc => ?_, ih hrest⟩
      rcases Memory.mem_write hc with hca | hc
      · rw [hca]
        omega
      · exact hd c hc
theorem Memory.read_write_ascending {m : Memory} (h : m.ascending) (a : Nat) (v : Byte) : (m.write a v).read a = v := by
  induction m with
  | nil =>
    rw [Memory.write]
    split_ifs with hv
    · exact hv.symm
    · exact if_pos rfl
  | cons d rest ih =>
    obtain ⟨hd, hrest⟩ := List.pairwise_cons.1 h
    rw [Memory.write]
    split_ifs with hlt hv heq hv
    · rw [hv]
      exact Memory.read_of_lt (List.forall_mem_cons.2 ⟨hlt, fun c hc => Nat.lt_trans hlt (hd c hc)⟩)
    · exact if_pos rfl
    · rw [hv]
      exact Memory.read_of_lt (heq ▸ hd)
    · exact if_pos rfl
    · exact (if_neg heq).trans (ih hrest)

/-- Of a memory partly stored each byte is the old or the new one. -/
theorem Memory.partly_read (done : Nat → Bool) {old new : Memory} (h : old.wf = true) (a : Nat) :
    (Memory.partly done old new).read a = old.read a ∨ (Memory.partly done old new).read a = new.read a := by
  have hall : (Memory.partly done old new).ascending ∧
      ((Memory.partly done old new).read a = old.read a ∨ (Memory.partly done old new).read a = new.read a) := by
    refine List.foldlRecOn (motive := fun m : Memory => m.ascending ∧ (m.read a = old.read a ∨ m.read a = new.read a)) _ _
      ⟨(Memory.ascending_of_wfFrom h).1, .inl rfl⟩ fun m ⟨hm, hread⟩ c _ => ?_
    split
    · refine ⟨Memory.write_ascending hm _ _, ?_⟩
      by_cases hac : a = c.1
      · subst hac
        exact .inr (Memory.read_write_ascending hm _ _)
      · rwa [Memory.read_write_other _ _ hac]
    · exact ⟨hm, hread⟩
  exact hall.2

/-! The instruction abandoned (R640). -/

section
variable {s : State} (hbus : s.bus = [])
include hbus
theorem State.busRest_empty : s.busRest = s := by
  cases s
  subst hbus
  rfl
/-- While nothing runs, nothing is abandoned. -/
theorem State.abandoned_held (h : (s.halted || s.shutdown || s.suspended || s.starting) = true) : s.abandoned = s := by
  rw [State.abandoned, State.busRest_empty hbus]
  exact if_pos h
/-- Nor is an instruction that leaves no state. -/
theorem State.abandoned_noState (h : ∀ u, runInstruction s ≠ .next u) : s.abandoned = s := by
  rw [State.abandoned, State.busRest_empty hbus]
  split
  · rfl
  · split
    next u hrun => exact absurd hrun (h u)
    next => rfl
/-- Of memory each byte is the old one or that of the instruction in progress; beside memory, the I/O log and the free values
drawn nothing changes. -/
theorem State.abandoned_eq : ∃ m m' l k, s.abandoned = { s with mem := m, smm := m', ioLog := l, freeCtr := k } ∧
    ((s.halted || s.shutdown || s.suspended || s.starting) = true → m = s.mem ∧ m' = s.smm ∧ l = s.ioLog) ∧
    (s.memoryOk = true → ∀ a : Nat, m.read a = s.mem.read a ∨
      s.starting = false ∧ ∃ u : State, runInstruction s = .next u ∧ m.read a = u.mem.read a) := by
  by_cases hruns : (s.halted || s.shutdown || s.suspended || s.starting) = false ∧ ∃ u, runInstruction s = .next u
  · obtain ⟨hheld, u, hrun⟩ := hruns
    have habandoned := State.abandoned.eq_1 s
    rw [State.busRest_empty hbus, hrun] at habandoned
    refine ⟨_, _, _, _, habandoned.trans (if_neg (by simp [hheld])), fun h => absurd (hheld.symm.trans h) (by decide),
      fun hm a => ?_⟩
    have hwf : s.mem.wf = true := (Bool.and_eq_true_iff.1 hm).1
    have hstart : s.starting = false := (Bool.or_eq_false_iff.1 hheld).2
    exact (Memory.partly_read _ hwf a).imp id fun h => ⟨hstart, u, hrun, h⟩
  · have hsame : s.abandoned = s := by
      cases hheld : s.halted || s.shutdown || s.suspended || s.starting with
      | true => exact State.abandoned_held hbus hheld
      | false => exact State.abandoned_noState hbus fun u hu => hruns ⟨hheld, u, hu⟩
    exact ⟨s.mem, s.smm, s.ioLog, s.freeCtr, hsame, fun _ => ⟨rfl, rfl, rfl⟩, fun _ _ => .inl rfl⟩
end

end Sys2Proof.Machine
end

section
/-! SUPPORT. Breakpoint conditions (R591, R592), the debug exception that is due (R498), and what a completed instruction leaves
(R590 to R594). -/
namespace Sys2Proof.Machine
open Sys2Proof

/-! Bits of the conditions. -/

theorem hitBits_getLsbD (f : Nat → Bool) {i : Nat} (hi : i < 4) : (hitBits f).getLsbD i = f i := by
  refine getLsbD_of_extractLsb' ?_
  interval_cases i <;>
    simp (disch := decide) only [hitBits, BitVec.extractLsb'_append_eq_of_le, BitVec.extractLsb'_append_eq_of_add_le,
      BitVec.extractLsb'_eq_self, Nat.reduceSub]
/-- Some condition belongs to an enabled breakpoint. -/
theorem State.hitEnabled_iff (s : State) (h : BitVec 4) : s.hitEnabled h = true ↔
    ∃ i, i < 4 ∧ h.getLsbD i = true ∧ (s.dr.dr7.getLsbD (2 * i) = true ∨ s.dr.dr7.getLsbD (2 * i + 1) = true) := by
  have hat (i : Nat) : (h.getLsbD i && s.dr.enabled i) = true ↔
      h.getLsbD i = true ∧ (s.dr.dr7.getLsbD (2 * i) = true ∨ s.dr.dr7.getLsbD (2 * i + 1) = true) := by
    rw [DebugRegs.enabled, Bool.and_eq_true, Bool.or_eq_true]
  rw [State.hitEnabled, Bool.or_eq_true, Bool.or_eq_true, Bool.or_eq_true]
  constructor
  · rintro (((h0 | h1) | h2) | h3)
    · exact ⟨0, by decide, (hat 0).1 h0⟩
    · exact ⟨1, by decide, (hat 1).1 h1⟩
    · exact ⟨2, by decide, (hat 2).1 h2⟩
    · exact ⟨3, by decide, (hat 3).1 h3⟩
  · rintro ⟨i, hi, h⟩
    have hbit := (hat i).2 h
    interval_cases i
    · exact .inl (.inl (.inl hbit))
    · exact .inl (.inl (.inr hbit))
    · exact .inl (.inr hbit)
    · exact .inr hbit

/-! Where an access meets a breakpoint. -/

/-- Two ranges, taken modulo the size of the address, have an address in common. -/
theorem rangesMeet_iff {w : Nat} (a lo : BitVec w) {n len : Nat} (hn : 1 ≤ n) (hlen : 1 ≤ len) :
    rangesMeet a n lo len = true ↔ ∃ j k : Nat, j < n ∧ k < len ∧ a + BitVec.ofNat w j = lo + BitVec.ofNat w k := by
  have hself (x y : BitVec w) : x + BitVec.ofNat w (y - x).toNat = y := by
    rw [BitVec.ofNat_toNat, BitVec.setWidth_eq, BitVec.add_comm, BitVec.sub_add_cancel]
  rw [rangesMeet, Bool.or_eq_true, decide_eq_true_eq, decide_eq_true_eq]
  constructor
  · rintro (h | h)
    · exact ⟨_, 0, h, hlen, by rw [hself]; simp⟩
    · exact ⟨0, _, hn, h, by rw [hself]; simp⟩
  · rintro ⟨j, k, hj, hk, h⟩
    have hdiff (x y : BitVec w) {j k : Nat} (h : x + BitVec.ofNat w j = y + BitVec.ofNat w k) (hkj : k ≤ j) :
        (y - x).toNat ≤ j - k := by
      have heq : y - x = BitVec.ofNat w (j - k) := by
        have hjk : BitVec.ofNat w j = BitVec.ofNat w (j - k) + BitVec.ofNat w k := by
          rw [← BitVec.ofNat_add, Nat.sub_add_cancel hkj]
        rw [hjk, ← BitVec.add_assoc] at h
        have hy := (BitVec.add_left_inj _).1 h
        rw [← hy, BitVec.add_comm, BitVec.add_sub_cancel]
      rw [heq, BitVec.toNat_ofNat]
      exact Nat.mod_le _ _
    rcases Nat.le_total k j with hkj | hjk
    · exact .inl (Nat.lt_of_le_of_lt (hdiff a lo h hkj) (by omega))
    · exact .inr (Nat.lt_of_le_of_lt (hdiff lo a h.symm hjk) (by omega))

section
variable (d : DebugRegs)
/-- R/Wi and LENi as numbers (R47). -/
theorem DebugRegs.rw_toNat (i : Nat) : (d.rw i).toNat = d.dr7.toNat / 2 ^ (16 + 4 * i) % 4 := by
  rw [DebugRegs.rw, BitVec.extractLsb'_toNat, Nat.shiftRight_eq_div_pow]
theorem DebugRegs.len_toNat (i : Nat) : (d.len i).toNat = d.dr7.toNat / 2 ^ (18 + 4 * i) % 4 := by
  rw [DebugRegs.len, BitVec.extractLsb'_toNat, Nat.shiftRight_eq_div_pow]
theorem DebugRegs.rw_eq_iff (i k : Nat) (hk : k < 4) : (d.rw i == BitVec.ofNat 2 k) = true ↔
    d.dr7.toNat / 2 ^ (16 + 4 * i) % 4 = k := by
  rw [beq_iff_eq, ← BitVec.toNat_inj, d.rw_toNat, BitVec.toNat_ofNat, Nat.mod_eq_of_lt (show k < 2 ^ 2 from hk)]
theorem DebugRegs.addr_getD {i : Nat} (hi : i < 4) : d.addr i = [d.dr0, d.dr1, d.dr2, d.dr3].getD i 0#32 := by
  interval_cases i <;> rfl

/-- The low bits of a breakpoint address do not count (R591). -/
theorem and_FFFFFFFE (x : Word) : x &&& 0xFFFFFFFE#32 = BitVec.ofNat 32 (x.toNat / 2 * 2) := by
  have hbits : x &&& 0xFFFFFFFE#32 = x >>> 1 <<< 1 := by
    refine BitVec.eq_of_getLsbD_eq fun i hi => ?_
    interval_cases i <;> simp
  rw [hbits, ← BitVec.toNat_inj, BitVec.toNat_shiftLeft, BitVec.toNat_ushiftRight, Nat.shiftLeft_eq,
    Nat.shiftRight_eq_div_pow, BitVec.toNat_ofNat]
theorem and_FFFFFFFC (x : Word) : x &&& 0xFFFFFFFC#32 = BitVec.ofNat 32 (x.toNat / 4 * 4) := by
  have hbits : x &&& 0xFFFFFFFC#32 = x >>> 2 <<< 2 := by
    refine BitVec.eq_of_getLsbD_eq fun i hi => ?_
    interval_cases i <;> simp
  rw [hbits, ← BitVec.toNat_inj, BitVec.toNat_shiftLeft, BitVec.toNat_ushiftRight, Nat.shiftLeft_eq,
    Nat.shiftRight_eq_div_pow, BitVec.toNat_ofNat]
/-- The units at an address meet breakpoint i: an address that they and the breakpoint's range share (R591). -/
theorem DebugRegs.meets_iff {w : Nat} (hw : w ≤ 32) {i len : Nat} (hlen : (d.len i).toNat = len) (a : BitVec w) {n : Nat}
    (hn : 1 ≤ n) : d.meets i a n = true ↔ len ≠ 2 ∧ ∃ j k : Nat, j < n ∧ k ≤ len ∧
      a + BitVec.ofNat w j = BitVec.ofNat w ((d.addr i).toNat / (len + 1) * (len + 1) + k) := by
  have hlt : len < 4 := hlen ▸ (d.len i).isLt
  have hrange (h2 : len ≠ 2) {x : BitVec w} (hx : x = BitVec.ofNat w ((d.addr i).toNat / (len + 1) * (len + 1))) :
      rangesMeet a n x (len + 1) = true ↔ len ≠ 2 ∧ ∃ j k : Nat, j < n ∧ k ≤ len ∧
        a + BitVec.ofNat w j = BitVec.ofNat w ((d.addr i).toNat / (len + 1) * (len + 1) + k) := by
    subst hx
    simp only [rangesMeet_iff a _ hn (Nat.succ_pos _), Nat.lt_succ_iff, BitVec.ofNat_add, ne_eq, h2, not_false_eq_true,
      true_and]
  unfold DebugRegs.meets
  rw [hlen]
  split
  next => exact hrange (by decide) (by rw [← BitVec.ofNat_toNat, Nat.div_one, Nat.mul_one])
  next => exact hrange (by decide) (by rw [and_FFFFFFFE, BitVec.setWidth_ofNat_of_le hw])
  next => exact hrange (by decide) (by rw [and_FFFFFFFC, BitVec.setWidth_ofNat_of_le hw])
  next h0 h1 h3 =>
    have h2 : len = 2 := by
      have : len ≠ 0 := h0
      have : len ≠ 1 := h1
      have : len ≠ 3 := h3
      omega
    exact iff_of_false Bool.false_ne_true fun h => h.1 h2
end

/-! The conditions of R591 and R592 for one breakpoint. -/

section
variable (s : State) {i : Nat} (hi : i < 4)
include hi
theorem State.execHits_iff (la : Word) : (s.execHits la).getLsbD i = true ↔
    (s.dr.rw i).toNat = 0 ∧ (s.dr.len i).toNat ≠ 2 ∧ s.dr.addr i = la := by
  rw [State.execHits, hitBits_getLsbD _ hi, Bool.and_eq_true, Bool.and_eq_true, beq_iff_eq, bne_iff_ne, beq_iff_eq,
    ← BitVec.toNat_inj, ne_eq, ← BitVec.toNat_inj, and_assoc]
  rfl
theorem State.dataHits_iff (la : Word) (n : Nat) (kind : Acc) : (s.dataHits la n kind).getLsbD i = true ↔
    ((s.dr.rw i).toNat = 3 ∨ (s.dr.rw i).toNat = 1 ∧ kind = .write) ∧ s.dr.meets i la n = true := by
  rw [State.dataHits, hitBits_getLsbD _ hi, Bool.and_eq_true, Bool.or_eq_true, Bool.and_eq_true, beq_iff_eq, beq_iff_eq,
    beq_iff_eq, ← BitVec.toNat_inj, ← BitVec.toNat_inj]
  rfl
theorem State.ioHits_iff (port : Word16) (n : Nat) : (s.ioHits port n).getLsbD i = true ↔
    (s.dr.rw i).toNat = 2 ∧ s.cr4.getLsbD 3 = true ∧ s.dr.meets i port n = true := by
  rw [State.ioHits, hitBits_getLsbD _ hi, Bool.and_eq_true, Bool.and_eq_true, beq_iff_eq, ← BitVec.toNat_inj, and_assoc]
  rfl
end

/-! The debug exception that is due (R498). -/

section
variable (s : State)
/-- A debug trap may be taken (R658, R614). -/
def State.trapOpen (s : State) : Prop := s.shutdown = false ∧ s.shadow ≠ .ss
/-- An instruction breakpoint holds at the next instruction (R591, R594, R390). -/
def State.breaks (s : State) : Prop :=
  s.trapOpen ∧ (s.cur.repeating && !s.cur.entered) = false ∧ s.flags.rf = false ∧
    s.hitEnabled (s.execHits (s.segs.cs.base + s.eip)) = true
theorem State.trapDue_open (h : s.trapOpen) : s.trapDue = s.trap :=
  if_neg (by simpa [State.trapOpen] using h)
theorem State.trapDue_closed (h : ¬ s.trapOpen) : s.trapDue = none :=
  if_pos (by simpa [State.trapOpen, Decidable.or_iff_not_imp_left] using h)
theorem State.breakDue_some (h : s.breaks) : s.breakDue = some (s.execHits (s.segs.cs.base + s.eip)) := by
  obtain ⟨⟨hshut, hss⟩, hmid, hrf, hhit⟩ := h
  exact if_neg (by simp [hshut, hss, State.midString, hmid, hrf, hhit])
theorem State.breakDue_none (h : ¬ s.breaks) : s.breakDue = none := by
  refine if_pos ?_
  by_contra hne
  simp only [Bool.or_eq_true, not_or, Bool.not_eq_true, decide_eq_true_eq, Bool.not_eq_true', Bool.not_eq_false] at hne
  obtain ⟨⟨⟨⟨hshut, hmid⟩, hss⟩, hrf⟩, hhit⟩ := hne
  exact h ⟨⟨hshut, hss⟩, hmid, hrf, hhit⟩
variable {s} {t : DebugTrap} {h : BitVec 4}
theorem State.debugDue_both (ht : s.trapDue = some t) (hb : s.breakDue = some h) :
    s.debugDue = some (t.hits ||| h, t.bs, true) := by simp only [State.debugDue, ht, hb]
theorem State.debugDue_trap (ht : s.trapDue = some t) (hb : s.breakDue = none) :
    s.debugDue = some (t.hits, t.bs, false) := by simp only [State.debugDue, ht, hb]
theorem State.debugDue_break (ht : s.trapDue = none) (hb : s.breakDue = some h) :
    s.debugDue = some (h, false, true) := by simp only [State.debugDue, ht, hb]
theorem State.debugDue_none (ht : s.trapDue = none) (hb : s.breakDue = none) : s.debugDue = none := by
  simp only [State.debugDue, ht, hb]
end

/-! After an instruction that completed. -/

theorem loadsRf_eq (i : Instr) : loadsRf i = (i == .iret .w32 || i == .rsm) := by
  unfold loadsRf
  split
  · rfl
  · rfl
  next hiret hrsm =>
    have h1 : i ≠ .iret .w32 := hiret
    have h2 : i ≠ .rsm := hrsm
    simp [h1, h2]
section
variable {held : Option DebugTrap} {t : DebugTrap} {hits : BitVec 4} {bs now : Bool}
theorem mergeTrap_later (h : ¬ now = true) : mergeTrap held hits bs now = held := by
  cases held with
  | none => exact if_neg h
  | some t => exact if_neg h
theorem mergeTrap_first (h : now = true) : mergeTrap none hits bs now = some { hits := hits, bs := bs } := if_pos h
theorem mergeTrap_again (h : now = true) :
    mergeTrap (some t) hits bs now = some { hits := t.hits ||| hits, bs := t.bs || bs } := if_pos h
end
theorem afterExec_completed {i : Instr} {start : Word} {n : Nat} {tf : Bool} {s : State} (hentered : s.cur.entered = false)
    (hpast : pastEnd i start n s = false) : afterExec i start n tf (.next s) = .next (s.completed i tf) :=
  (if_neg (by simp [hentered])).trans (if_neg (by simp [hpast]))

end Sys2Proof.Machine
end

section
/-! SUPPORT, and O48. The instruction boundary (R498), event by event. -/
namespace Sys2Proof.Machine
open Sys2Proof

/-! The pins sampled, no other agent acting. -/

/-- The state in which the events of the boundary are looked at: pins sampled, the delay after RESET over. -/
def State.atBoundary (s : State) (p : Pins) : State :=
  { s with
    ken := p.ken, env := s.env.tail, bus := [], nmiLevel := p.nmi, smiLevel := p.smi
    tsc := s.tsc + BitVec.ofNat 64 (if s.starting then s.part.startClocks else 0), starting := false
    nmiPending := s.nmiPending || (p.nmi && !s.nmiLevel), smiPending := s.smiPending || s.latchSmi p }
section
variable {s : State} {p : Pins}
theorem State.sampled_quiet (hbus : p.bus = []) : s.sampled p =
    { s with
      ken := p.ken, env := s.env.tail, bus := [], nmiLevel := p.nmi, smiLevel := p.smi
      nmiPending := s.nmiPending || (p.nmi && !s.nmiLevel), smiPending := s.smiPending || s.latchSmi p } := by
  rw [State.sampled, hbus]
  rfl
theorem State.sampled_started (hbus : p.bus = []) : (s.sampled p).started = s.atBoundary p := by
  rw [State.sampled_quiet hbus]
  rfl
theorem State.sampled_eq_atBoundary (hbus : p.bus = []) (h : s.starting = false) : s.sampled p = s.atBoundary p := by
  rw [State.sampled_quiet hbus, State.atBoundary, h]
  simp

variable (hpins : s.pins = p)
include hpins
theorem step_reset (h : p.reset = true) : step s = .next (s.sampled p).abandoned.resetPin := by
  subst hpins
  exact if_pos h
variable (hreset : p.reset = false)
include hreset
theorem step_a20m (h : p.a20m = true) : step s = .refused .a20Masked := by
  subst hpins
  exact (if_neg (by simp [hreset])).trans (if_pos h)
theorem step_boundaryReset (h : p.a20m = false) (hbus : p.bus = []) : step s = boundaryReset p (s.atBoundary p) := by
  subst hpins
  rw [← State.sampled_started hbus]
  exact (if_neg (by simp [hreset])).trans (if_neg (by simp [h]))
end

/-! One event of the boundary each (R498). -/

section
variable {p : Pins} {u : State}

theorem boundaryReset_suspended (hsusp : u.suspended = true) (hpin : u.suspPin p = true) :
    boundaryReset p u = .next (u.tick false) := if_pos (by simp [hsusp, hpin])
section
variable (h : (u.suspended && u.suspPin p) = false)
include h
theorem boundaryReset_warm (hw : p.wmRst = true) : boundaryReset p u = .next (u.warmReset.tick false) :=
  (if_neg (by simp [h])).trans (if_pos hw)
variable (hw : p.wmRst = false)
include hw
theorem boundaryReset_susp (hpin : u.suspPin p = true) (hmid : u.midString = false) :
    boundaryReset p u = .next (({ u with suspended := true } : State).tick false) :=
  (if_neg (by simp [h])).trans <| (if_neg (by simp [hw])).trans (if_pos (by simp [hpin, hmid]))
theorem boundaryReset_events (hpin : u.suspPin p = false) : boundaryReset p u =
    boundaryEvents p { u with suspended := u.halted && u.suspended && u.cfg.ccr2.getLsbD 3 } :=
  (if_neg (by simp [h])).trans <| (if_neg (by simp [hw])).trans (if_neg (by simp [hpin]))
end

theorem boundaryEvents_debug {h : BitVec 4} {bs fault : Bool} (hd : u.debugDue = some (h, bs, fault)) :
    boundaryEvents p u = mapNext (State.tick false) (debugException h bs fault u.eip
      { u with trap := none, halted := false, suspended := false }) := by
  simp only [boundaryEvents, hd]
  rfl
section
variable (hd : u.debugDue = none)
include hd
theorem boundaryEvents_smi (hsmi : (u.flushPin p).smiRecognised p = true) :
    boundaryEvents p u = mapNext (State.tick false) (takeSmi (u.flushPin p)) := by
  simp only [boundaryEvents, hd, hsmi, if_true]
theorem boundaryEvents_intr (hsmi : (u.flushPin p).smiRecognised p = false) :
    boundaryEvents p u = boundaryIntr p (u.flushPin p) := by
  simp only [boundaryEvents, hd, hsmi, Bool.false_eq_true, if_false]
end

/-- An NMI is taken: in shutdown only where its vector and its frame have room (R487, R614). -/
def State.nmiTaken (u : State) : Prop :=
  u.nmiReady = true ∧ (u.shutdown = false ∨ u.nmiVector = true ∧ u.nmiRoom = true)
theorem boundaryIntr_nmi (h : u.nmiTaken) (hshut : u.shutdown = false) :
    boundaryIntr p u = mapNext (State.tick false) (takeNmi u.eip u) := if_pos (by simp [h.1, hshut])
theorem boundaryIntr_nmiShutdown (h : u.nmiTaken) (hshut : u.shutdown = true) :
    boundaryIntr p u = mapNext (State.tick false) (takeNmi (Config.freeWord (u.freeCtr + 1)) { u with
      segs := { u.segs with cs := { u.segs.cs with sel := (Config.freeWord u.freeCtr).setWidth 16 } }
      freeCtr := u.freeCtr + 2 }) := by
  obtain ⟨hready, hroom⟩ := h
  obtain ⟨hvector, hroom⟩ := hroom.resolve_left (by simp [hshut])
  exact (if_neg (by simp [hshut])).trans (if_pos (by simp [hready, hvector, hroom]))
/-- An INTR may be taken (R483). -/
def State.intrOpen (u : State) : Prop := u.flags.ifl = true ∧ u.shadow = .none ∧ u.shutdown = false
theorem State.intrDue_some {v : Byte} (hv : p.intr = some v) (h : u.intrOpen) : u.intrDue p = some v := by
  obtain ⟨hifl, hshadow, hshut⟩ := h
  exact (if_pos (by simp [hifl, hshadow, hshut])).trans hv
theorem State.intrDue_none (h : p.intr = none ∨ ¬ u.intrOpen) : u.intrDue p = none := by
  unfold State.intrDue
  split
  next hopen =>
    refine h.resolve_right fun hn => hn ?_
    simpa [State.intrOpen, and_assoc] using hopen
  next => rfl

section
variable (h : ¬ u.nmiTaken)
include h
theorem State.nmiTaken_guards :
    ¬ (u.nmiReady && !u.shutdown) = true ∧ ¬ (u.nmiReady && u.nmiVector && u.nmiRoom) = true := by
  refine ⟨fun hn => h ?_, fun hn => h ?_⟩
  · obtain ⟨hready, hshut⟩ := Bool.and_eq_true_iff.1 hn
    exact ⟨hready, .inl (by simpa using hshut)⟩
  · obtain ⟨hv, hroom⟩ := Bool.and_eq_true_iff.1 hn
    obtain ⟨hready, hvector⟩ := Bool.and_eq_true_iff.1 hv
    exact ⟨hready, .inr ⟨hvector, hroom⟩⟩
theorem boundaryIntr_intr {v : Byte} (hintr : u.intrDue p = some v) :
    boundaryIntr p u = mapNext (State.tick false) (takeIntr v u) := by
  obtain ⟨h1, h2⟩ := State.nmiTaken_guards h
  rw [boundaryIntr, if_neg h1, if_neg h2, hintr]
variable (hintr : u.intrDue p = none)
include hintr
theorem boundaryIntr_stopped (hstop : (u.halted || u.shutdown) = true) : boundaryIntr p u = .next (u.tick false) := by
  obtain ⟨h1, h2⟩ := State.nmiTaken_guards h
  rw [boundaryIntr, if_neg h1, if_neg h2, hintr]
  exact if_pos hstop
theorem boundaryIntr_runs (hrun : (u.halted || u.shutdown) = false) :
    boundaryIntr p u = mapNext (State.tick true) (runInstruction u) := by
  obtain ⟨h1, h2⟩ := State.nmiTaken_guards h
  rw [boundaryIntr, if_neg h1, if_neg h2, hintr]
  exact if_neg (by simp [hrun])
end
end

/-- FLUSH# changes memory and the cache alone (R182). -/
theorem State.flushPin_eq (u : State) (p : Pins) :
    ∃ m m' c, u.flushPin p = { u with mem := m, smm := m', cache := c } := by
  unfold State.flushPin
  split
  · obtain ⟨m, m', h⟩ := u.writeBackAll_eq u.cache.lines
    exact ⟨m, m', _, by rw [State.cacheFlush, h]; rfl⟩
  · exact ⟨u.mem, u.smm, u.cache, rfl⟩

/-! What interrupts wait for (R553, R487). -/

theorem State.smiRecognised_nested {s : State} (p : Pins) (hin : s.inSmm = true) (hnest : s.nestEnabled = false) :
    s.smiRecognised p = false := by
  simp [State.smiRecognised, hin, hnest]
theorem State.nmiReady_iff (s : State) : s.nmiReady = true ↔ s.nmiPending = true ∧ s.nmiBlocked = false ∧
    (s.inSmm = true → s.cfg.ccr3.getLsbD 1 = true) ∧ s.shadow ≠ .ss := by
  unfold State.nmiReady
  cases s.inSmm <;> cases s.nmiBlocked <;> simp [and_assoc]

/-- RESET (R640, R642): the state of R642, but for memory, where part of the instruction in progress may have been stored. -/
theorem step_reset_keeps {s : State} {p : Pins} (hpins : s.pins = p) (hbus : p.bus = []) (h : p.reset = true) :
    ∃ t : State, step s = .next t ∧
      t = { State.resetFor s.part with
        mem := t.mem, smm := t.smm, ioLog := t.ioLog, env := s.env.tail, nmiLevel := p.nmi, smiLevel := p.smi
        ken := p.ken, freeCtr := t.freeCtr } ∧
      ((s.halted || s.shutdown || s.suspended || s.starting) = true → t.mem = s.mem ∧ t.smm = s.smm ∧ t.ioLog = s.ioLog) ∧
      (s.memoryOk = true → ∀ a : Nat, t.mem.read a = s.mem.read a ∨
        ∃ u : State, runInstruction (s.atBoundary p) = .next u ∧ t.mem.read a = u.mem.read a) := by
  have hquiet := State.sampled_quiet (s := s) hbus
  obtain ⟨m, m', l, k, heq, hheld, hread⟩ := State.abandoned_eq (s := s.sampled p) (by rw [hquiet])
  refine ⟨_, step_reset hpins h, by rw [heq, hquiet]; rfl, fun hstop => ?_, fun hm a => ?_⟩
  · have hkeep := hheld (by rw [hquiet]; exact hstop)
    rw [hquiet] at hkeep
    rw [heq]
    exact hkeep
  · have hbyte := hread (by rw [hquiet]; exact hm) a
    rw [heq]
    refine hbyte.imp (fun hold => hold.trans (by rw [hquiet])) fun ⟨hstart, u, hrun, hnew⟩ => ⟨u, ?_, hnew⟩
    rwa [State.sampled_eq_atBoundary hbus (by rwa [hquiet] at hstart)] at hrun

/-- Settles O48. -/
theorem boundaryEventsHold : Obligations.BoundaryEvents := by
  refine ⟨fun s p hpins hbus => ?step, fun s p => ⟨fun hin hnest => s.smiRecognised_nested p hin hnest, s.nmiReady_iff⟩,
    fun s => ?debug, fun s i hi => ?hits, fun i start n tf s hentered hpast => ?completed⟩
  case step =>
    intro s0 event
    refine ⟨fun hreset => ?reset, fun hreset ha20m => step_a20m hpins hreset ha20m, fun hreset ha20m => ?_⟩
    case reset => exact step_reset_keeps hpins hbus hreset
    have hstep : step s = boundaryReset p s0 := step_boundaryReset hpins hreset ha20m hbus
    refine ⟨fun hsusp hpin => ?suspended, fun hsusp hwarm => ?warm, fun hsusp hwarm hpin hmid => ?susp, fun hpin hwarm => ?_⟩
    case suspended => exact hstep.trans (boundaryReset_suspended hsusp hpin)
    case warm => exact hstep.trans (boundaryReset_warm hsusp hwarm)
    case susp => exact hstep.trans (boundaryReset_susp (by simp [s0, hsusp]) hwarm hpin hmid)
    intro s1
    have hevents : step s = boundaryEvents p s1 :=
      hstep.trans (boundaryReset_events (Bool.and_eq_false_imp.2 fun _ => hpin) hwarm hpin)
    refine ⟨fun h bs fault hdue => hevents.trans (boundaryEvents_debug hdue), fun hdue => ?_⟩
    intro s2 nmi
    obtain ⟨m, m', c, hflush⟩ : ∃ m m' c, s2 = { s1 with mem := m, smm := m', cache := c } := s1.flushPin_eq p
    refine ⟨fun hsmi => hevents.trans (boundaryEvents_smi hdue hsmi), fun hsmi => ?_⟩
    have hintr : step s = boundaryIntr p s2 := hevents.trans (boundaryEvents_intr hdue hsmi)
    have hshut : s2.shutdown = s.shutdown := (congrArg State.shutdown hflush).trans rfl
    have heip : s2.eip = s.eip := (congrArg State.eip hflush).trans rfl
    have hsegs : s2.segs = s.segs := (congrArg State.segs hflush).trans rfl
    have hfree : s2.freeCtr = s.freeCtr := (congrArg State.freeCtr hflush).trans rfl
    have hstop : (s2.halted || s2.shutdown) = (s.halted || s.shutdown) :=
      (congrArg (fun u : State => u.halted || u.shutdown) hflush).trans rfl
    have hnmi : nmi ↔ s2.nmiTaken := by rw [State.nmiTaken, hshut]
    have hopen : (s.flags.ifl = true ∧ s.shadow = .none ∧ s.shutdown = false) ↔ s2.intrOpen := by
      rw [hflush]
      rfl
    refine ⟨fun hn hs => ?nmi, fun hn hs => ?nmiShutdown, fun hn => ?_⟩
    case nmi =>
      rw [hintr, boundaryIntr_nmi (hnmi.1 hn) (hshut.trans hs), heip]
    case nmiShutdown =>
      rw [hintr, boundaryIntr_nmiShutdown (hnmi.1 hn) (hshut.trans hs), hsegs, hfree]
    intro intr
    have hnone := mt hnmi.2 hn
    refine ⟨fun v hv hi => ?_, fun hi hs => ?_, fun hi hs => ?_⟩
    · exact hintr.trans (boundaryIntr_intr hnone (State.intrDue_some hv (hopen.1 hi)))
    · exact hintr.trans (boundaryIntr_stopped hnone (State.intrDue_none (hi.imp id (mt hopen.2))) (hstop.trans hs))
    · exact hintr.trans (boundaryIntr_runs hnone (State.intrDue_none (hi.imp id (mt hopen.2))) (hstop.trans hs))
  case debug =>
    intro h trap breaks
    have hbreaks : breaks ↔ s.breaks := by
      rw [State.breaks, State.hitEnabled_iff]
      rfl
    rw [hbreaks]
    refine ⟨fun t ht htrap hb => ?_, fun t ht htrap hb => ?_, fun ht hb => ?_, fun ht hb => ?_⟩
    · exact State.debugDue_both ((s.trapDue_open htrap).trans ht) (s.breakDue_some hb)
    · exact State.debugDue_trap ((s.trapDue_open htrap).trans ht) (s.breakDue_none hb)
    · exact State.debugDue_break ((s.trapDue_open hb.1).trans ht) (s.breakDue_some hb)
    · have hdue : s.trapDue = none := by
        by_cases htrap : s.trapOpen
        · exact (s.trapDue_open htrap).trans (ht.resolve_right fun hn => hn htrap)
        · exact s.trapDue_closed htrap
      exact State.debugDue_none hdue (s.breakDue_none hb)
  case hits =>
    intro dr rw' len lo
    have haddr : s.dr.addr i = dr := s.dr.addr_getD hi
    have hrw : (s.dr.rw i).toNat = rw' := s.dr.rw_toNat i
    have hlen : (s.dr.len i).toNat = len := s.dr.len_toNat i
    refine ⟨fun la => ?_, fun la n kind hn => ?_, fun port n hn => ?_⟩
    · rw [State.execHits_iff s hi, hrw, hlen, haddr]
    · rw [State.dataHits_iff s hi, hrw, s.dr.meets_iff (Nat.le_refl 32) hlen la hn, haddr]
    · rw [State.ioHits_iff s hi, hrw, s.dr.meets_iff (by decide) hlen port hn, haddr]
  case completed =>
    intro hits fires
    have hfires : (tf || s.hitEnabled s.cur.hits) = true ↔ fires := by
      rw [Bool.or_eq_true, State.hitEnabled_iff]
    refine ⟨_, afterExec_completed hentered hpast, ?_, fun hf => ?_, fun hf ht => ?_, fun u hf ht => ?_⟩
    · rw [State.completed, loadsRf_eq]
    · exact mergeTrap_later (mt hfires.1 hf)
    · exact (congrArg (mergeTrap · _ _ _) ht).trans (mergeTrap_first (hfires.2 hf))
    · exact (congrArg (mergeTrap · _ _ _) ht).trans (mergeTrap_again (hfires.2 hf))

end Sys2Proof.Machine
end
